-- ==== Sys2Proof/Word.lean ====
section
/-! DEFINITION. The words of the ZMS-3208's frames and store records: bytes and multi-byte fields, which are sent
high byte first (R158, R176, R194). -/

namespace Sys2Proof

/-- One byte of a link frame, a sign line frame or a store record. -/
abbrev Byte := BitVec 8
/-- A two-byte field. -/
abbrev Word16 := BitVec 16
/-- A four-byte field. -/
abbrev Word32 := BitVec 32

end Sys2Proof
end

