-- ==== Sys2Proof/Syntax.lean ====
section
/-! DEFINITION. The commands of the part: one constructor of `Instr` for each of the 62 rows of
spec/opcode_table.json, with the row's operands. A request's operands are the link it is taken on and the fields of
its body (R180), at their widths in the body, so that every body that fits its kind (R177) is a term; the event rows
carry what the event's sender says (a level, a frame, the id of the timer that runs out). -/

namespace Sys2Proof

/-- Segment ids 0–7 (00_scope, Identifiers). -/
abbrev SegId := Fin 8
/-- Snow gate ids 0–5. -/
abbrev GateId := Fin 6
/-- Sign ids 0–11. -/
abbrev SignId := Fin 12
/-- Avalanche zone ids 0–5. -/
abbrev ZoneId := Fin 6
/-- Pulse channel ids 0–15. -/
abbrev ChanId := Fin 16
/-- Weather site ids 0–3. -/
abbrev SiteId := Fin 4

/-- The three serial links to the masters (R176). -/
inductive Link where
  | valley | avalanche | panel
  deriving DecidableEq, Repr

/-- The nine hold kinds, in the order of the R4 table, which is the order of their codes 0..8 (R180). -/
inductive HoldKind where
  | startup | valley | avalanche | panel | zone | detector | weather | notice | full
  deriving DecidableEq, Repr

/-- The two end switches of a snow gate (R30). -/
inductive Switch where
  | raised | lowered
  deriving DecidableEq, Repr

/-- The two pins of the gatehouse key switch (R65). -/
inductive KeyPin where
  | a | b
  deriving DecidableEq, Repr

/-- The width a sign reports in a READY (R158). -/
inductive Width where
  | full | half
  deriving DecidableEq, Repr

/-- The levels of the thirty inputs at one sample instant (R61). `true` is HIGH for a pulse input and ACTIVE for an
end switch or a key pin. -/
structure Levels where
  pulse   : Vector Bool 16
  raised  : Vector Bool 6
  lowered : Vector Bool 6
  keyA    : Bool
  keyB    : Bool
  deriving DecidableEq, Repr

/-- The amendable fields of a notice as NOTICE_CREATE and NOTICE_AMEND carry them (R131, R133, R180): segment list,
start, end or absent, announce lead, page or absent. -/
structure NoticeBody where
  start : Word32
  stop  : Option Word32
  lead  : Word16
  page  : Option Byte
  segs  : List Byte
  deriving DecidableEq, Repr

/-- One field of an override as SIGN_OVERRIDE carries it: a format byte (0 absent, 1 INTEGER, 2 TENTHS, 3 TIME) and a
signed value of four bytes (R180). -/
structure OverrideField where
  format : Byte
  value  : Word32
  deriving DecidableEq, Repr

/-- The override of a SIGN_OVERRIDE body of mode 1 (R155, R180). -/
structure OverrideBody where
  page   : Byte
  flash  : Bool
  fieldA : OverrideField
  fieldB : OverrideField
  deriving DecidableEq, Repr

/-- The commands, in the order of spec/opcode_table.json. -/
inductive Instr where
  -- requests (R180), each taken on a link
  /-- STATUS, R189. -/
  | status (l : Link)
  /-- QUERY, R190: object, id, part. -/
  | query (l : Link) (object id part : Byte)
  /-- HOLD_PLACE, R22: reason code or absent, segment ids. -/
  | holdPlace (l : Link) (reason : Option Byte) (segs : List Byte)
  /-- HOLD_RELEASE, R23: hold kind, segment ids. -/
  | holdRelease (l : Link) (kind : HoldKind) (segs : List Byte)
  /-- STARTUP_RELEASE, R26. -/
  | startupRelease (l : Link)
  /-- REOPEN, R17 and R18: segment ids. -/
  | reopen (l : Link) (segs : List Byte)
  /-- TIME_SET, R123. -/
  | timeSet (l : Link) (value : Word32)
  /-- NOTICE_CREATE, R131 and R132: kind byte (0 SCHEDULED, 1 SEASONAL) and the amendable fields. -/
  | noticeCreate (l : Link) (kind : Byte) (body : NoticeBody)
  /-- NOTICE_AMEND, R133 to R135: id, quoted revision, the amendable fields. -/
  | noticeAmend (l : Link) (id revision : Byte) (body : NoticeBody)
  /-- NOTICE_WITHDRAW, R136. -/
  | noticeWithdraw (l : Link) (id : Byte)
  /-- NOTICE_LIFT, R137 and R138. -/
  | noticeLift (l : Link) (id : Byte)
  /-- SIGN_OVERRIDE, R155: sign id; `none` is mode 0. -/
  | signOverride (l : Link) (sign : Byte) (override : Option OverrideBody)
  /-- ZONE_LEVEL, R103: zone id, level. -/
  | zoneLevel (l : Link) (zone level : Byte)
  /-- DETECTOR_CLEAR, R114. -/
  | detectorClear (l : Link) (channel : Byte)
  /-- TEST_TRIP, R116 and R117. -/
  | testTrip (l : Link) (channel : Byte)
  /-- GATE_FAULT_CLEAR, R44. -/
  | gateFaultClear (l : Link) (gate : Byte)
  /-- FULL_CLOSE, R51. -/
  | fullClose (l : Link)
  /-- RELEASE_PROPOSE, R52. -/
  | releasePropose (l : Link)
  /-- RELEASE_CONFIRM, R54. -/
  | releaseConfirm (l : Link)
  /-- FIELD_RESTART, R191. -/
  | fieldRestart (l : Link)
  /-- ATTENTION_ENABLE, R188: the 16-bit enable field. -/
  | attentionEnable (l : Link) (enable : Word16)
  /-- COMMISSION_ENTER, R198. -/
  | commissionEnter (l : Link)
  /-- COMMISSION_EXIT, R198. -/
  | commissionExit (l : Link)
  /-- STORE_WRITE, R195: region, record number, record bytes without the check. -/
  | storeWrite (l : Link) (region number : Byte) (bytes : List Byte)
  /-- STORE_READ, R193: region, record number. -/
  | storeRead (l : Link) (region number : Byte)
  /-- PROTECT_SET, R196: region. -/
  | protectSet (l : Link) (region : Byte)
  /-- STORE_ERASE, R197. -/
  | storeErase (l : Link)
  /-- COMMIT, R199. -/
  | commit (l : Link)
  /-- STORE_SUM, R201. -/
  | storeSum (l : Link)
  -- events of the link receivers
  /-- FORMAT_REFUSAL, R177: a valid frame of the given kind byte, unknown or with a body that does not fit. -/
  | formatRefusal (l : Link) (kind : Byte)
  /-- LINK_CHECK_FAILURE, R177. -/
  | linkCheckFailure (l : Link)
  /-- LINK_BAD_LENGTH, R177. -/
  | linkBadLength (l : Link)
  /-- LINK_FRAMING_ERROR, R177. -/
  | linkFramingError (l : Link)
  /-- INTER_BYTE_TIMEOUT, R177. -/
  | interByteTimeout (l : Link)
  /-- LINK_REPLY_SENT, R178. -/
  | linkReplySent (l : Link)
  /-- LINK_SILENCE_EXPIRY, R183. -/
  | linkSilenceExpiry (l : Link)
  /-- HARDWARE_RESET, R200, with the first samples taken after the reset pin is released (R63). -/
  | hardwareReset (levels : Levels)
  -- timers of the segments and the latch, gates, store
  /-- CONFIRMATION_WAIT_EXPIRY, R11. -/
  | confirmationWaitExpiry (seg : SegId)
  /-- WARNING_TIMER_EXPIRY, R12. -/
  | warningTimerExpiry (seg : SegId)
  /-- END_SWITCH_CHANGE, R30: the accepted new level of one end switch (`true` is ACTIVE). -/
  | endSwitchChange (gate : GateId) (switch : Switch) (level : Bool)
  /-- TRAVEL_TIMEOUT, R38. -/
  | travelTimeout (gate : GateId)
  /-- JOINT_WINDOW_EXPIRY, R53. -/
  | jointWindowExpiry
  /-- LATCH_WORD_WRITE_COMPLETE, R57. -/
  | latchWordWriteComplete
  /-- STORE_WRITE_COMPLETE, R195. -/
  | storeWriteComplete
  /-- ERASE_COMPLETE, R197. -/
  | eraseComplete
  -- field inputs, conditions, clock
  /-- KEY_PIN_CHANGE, R65: the accepted new level of one key pin (`true` is ACTIVE). -/
  | keyPinChange (pin : KeyPin) (level : Bool)
  /-- PULSE_INPUT_CHANGE, R68: the accepted new level of one pulse input (`true` is HIGH). -/
  | pulseInputChange (channel : ChanId) (level : Bool)
  /-- CARRIER_LOSS, R74. -/
  | carrierLoss (channel : ChanId)
  /-- MEASUREMENT_GATE_END, R71: the channel whose measurement gate ends. -/
  | measurementGateEnd (channel : ChanId)
  /-- SITE_PERIOD_CLOSE, R92. -/
  | sitePeriodClose (site : SiteId)
  /-- MINUTE_TICK, R122. -/
  | minuteTick
  -- the sign line
  /-- PROBE_TIMER_EXPIRY, R163. -/
  | probeTimerExpiry (sign : SignId)
  /-- SIGN_FRAME_SENT, R159. -/
  | signFrameSent
  /-- REPLY_WINDOW_EXPIRY, R159. -/
  | replyWindowExpiry
  /-- SIGN_FRAME_DISCARD, R158: the bytes of the frame received. -/
  | signFrameDiscard (frame : List Byte)
  /-- READY, R164: the sign its address names, its width and displayed sum. -/
  | ready (sign : SignId) (width : Width) (sum : Word16)
  /-- TAKE, R166. -/
  | take (sign : SignId)
  /-- PAUSE, R167. -/
  | pause (sign : SignId)
  /-- REFUSE, R166. -/
  | refuse (sign : SignId)
  /-- SIGN_SHOWN, R168: the displayed sum. -/
  | signShown (sign : SignId) (sum : Word16)
  -- the two fine-grained inputs
  /-- LINK_BYTE_RECEIVED, R177. -/
  | linkByteReceived (l : Link) (byte : Byte)
  /-- INPUT_SAMPLE, R62: the sampled levels of the thirty inputs. -/
  | inputSample (levels : Levels)
  deriving DecidableEq, Repr

end Sys2Proof
end

