-- ==== Sys2Proof/Config.lean ====
section
/-! DEFINITION. What the part fixes (times, limits, the lengths of store records) and the free values of the spec:
opaque constants with no body, so that nothing proved of the model can rest on a value of theirs. -/

namespace Sys2Proof.Config

/-- The confirmation wait of a warning, 30 s (R9), in ms. -/
def confirmationWait : Nat := 30000
/-- One corridor minute, 60 s (R122), in ms. -/
def minute : Nat := 60000
/-- The reply window of the sign line, 200 ms (R159). -/
def replyWindow : Nat := 200
/-- The probe timer, 60 s (R163), in ms. -/
def probeInterval : Nat := 60000
/-- The longest gap between two bytes of one link frame, 20 ms (R177). -/
def interByteLimit : Nat := 20
/-- The last corridor minute (R121). -/
def lastMinute : Nat := 1048575
/-- The longest announce lead, in minutes (R131). -/
def longestLead : Nat := 4320
/-- The capacity of the notice list (R126). -/
def noticeCapacity : Nat := 16
/-- NF of an end switch (R61). -/
def endSwitchNF : Nat := 20
/-- NF of a key pin (R61). -/
def keyPinNF : Nat := 50
/-- Default valley silence limit in seconds (R183). -/
def valleyLimit : Nat := 120
/-- Default avalanche silence limit in seconds (R183). -/
def avalancheLimit : Nat := 60
/-- Default joint window length in seconds (R49). -/
def windowLength : Nat := 300
/-- The bound on the tasks of one closure cascade (log 25): more than the longest chain of R42 needs. -/
def cascadeFuel : Nat := 1024

/-- Records of region DESCRIPTION (R194). -/
def descriptionRecords : Nat := 53
/-- Records of region LIBRARY (R194). -/
def libraryRecords : Nat := 128

/-- The length in bytes, check included, of the record a region and a number name (R194); `none` where they name
no record. -/
def recordLength (region number : Nat) : Option Nat :=
  if region = 0 then
    if number = 0 then some 79
    else if number ≤ 8 then some 6
    else if number ≤ 14 then some 6
    else if number ≤ 26 then some 3
    else if number ≤ 32 then some 5
    else if number ≤ 48 then some 11
    else if number ≤ 52 then some 19
    else none
  else if region = 1 then
    if number ≤ 127 then some 81 else none
  else if region = 2 then
    if number = 0 then some 4
    else if number ≤ 2 then some 3
    else none
  else none

/-- Free value (log 14): at the `draw`th hardware reset that cut a write, byte `position` of the record `number` of region
`region` that it left failing. The spec says that its partial bytes stand as they are, and not which (R195, R201). -/
opaque tornByte (draw region number position : Nat) : Byte

/-- Free value (log 14): had the latch word write in flight at the `draw`th reset completed its slot (R58)? -/
opaque slotComplete : Nat → Bool

/-- Free value (log 14): how far an erase cut at the `draw`th reset had come: the number of stages of R197's order
(DESCRIPTION, LIBRARY, control record, slot 0, slot 1) that are wholly blank. -/
opaque eraseStage : Nat → Nat

/-- Free value (log 14): what an erase cut at the `draw`th reset left of record `position` of the stage it stood at:
0 blank, 1 untouched, any other number failing (R197). -/
opaque eraseLeaves : Nat → Nat → Nat

end Sys2Proof.Config
end

