-- ==== Sys2Proof/WellFormed.lean ====
section
/-! DEFINITION. The well-formed commands: those whose body fits its kind (R177, R180), and the event rows whose
operands name something that the part has (the panel link has no silence timer, R183). A request that is not well
formed is a valid frame with a body that does not fit: the part answers it with FORMAT (R177, log 8). -/

namespace Sys2Proof

/-- A segment list fits with at most 16 ids (R180). -/
def segListFits (segs : List Byte) : Bool := segs.length ≤ 16

/-- The record bytes of a STORE_WRITE fit when they have the length of the named record, less the check (R180, R194).
Where region and number name no record the spec gives no length, and the body fits (log 28). -/
def storeBytesFit (region number : Byte) (bytes : List Byte) : Bool :=
  match Config.recordLength region.toNat number.toNat with
  | some n => bytes.length + 1 = n
  | none   => bytes.length ≤ 247

/-- The check of a command's operands. -/
def Instr.wellFormed : Instr → Bool
  | .holdPlace _ _ segs => segListFits segs
  | .holdRelease _ _ segs => segListFits segs
  | .reopen _ segs => segListFits segs
  | .noticeCreate _ _ body => segListFits body.segs
  | .noticeAmend _ _ _ body => segListFits body.segs
  | .storeWrite _ region number bytes => storeBytesFit region number bytes
  | .linkSilenceExpiry l => l != .panel
  | .status _ | .query _ _ _ _ | .startupRelease _ | .timeSet _ _ | .noticeWithdraw _ _ | .noticeLift _ _
  | .signOverride _ _ _ | .zoneLevel _ _ _ | .detectorClear _ _ | .testTrip _ _ | .gateFaultClear _ _
  | .fullClose _ | .releasePropose _ | .releaseConfirm _ | .fieldRestart _ | .attentionEnable _ _
  | .commissionEnter _ | .commissionExit _ | .storeRead _ _ _ | .protectSet _ _ | .storeErase _ | .commit _
  | .storeSum _ | .formatRefusal _ _ | .linkCheckFailure _ | .linkBadLength _ | .linkFramingError _
  | .interByteTimeout _ | .linkReplySent _ | .hardwareReset _ | .confirmationWaitExpiry _ | .warningTimerExpiry _
  | .endSwitchChange _ _ _ | .travelTimeout _ | .jointWindowExpiry | .latchWordWriteComplete | .storeWriteComplete
  | .eraseComplete | .keyPinChange _ _ | .pulseInputChange _ _ | .carrierLoss _ | .measurementGateEnd _
  | .sitePeriodClose _ | .minuteTick | .probeTimerExpiry _ | .signFrameSent | .replyWindowExpiry
  | .signFrameDiscard _ | .ready _ _ _ | .take _ | .pause _ | .refuse _ | .signShown _ _ | .linkByteReceived _ _
  | .inputSample _ => true

end Sys2Proof
end

