-- ==== Sys2Proof/Decode.lean ====
section
/-! DEFINITION. Decoding. spec/opcode_table.json gives no row any bits, so `decodeTableWord` answers none for every
word. What the part does decode is the body of a link frame: `decodeRequest` turns the kind and body of a valid frame
into the request it carries, and any other kind or a body that does not fit into FORMAT_REFUSAL (R177, R180);
`encodeRequest` writes a request's kind and body from the same table. -/

namespace Sys2Proof

/-- No row of the opcode table gives bits: no word spells a command. -/
def decodeTableWord (_nbits _w : Nat) : Option Instr := none

/-- Two bytes, high byte first (R176). -/
def joinWord16 (a b : Byte) : Word16 := a ++ b
/-- Four bytes, high byte first (R176). -/
def joinWord32 (a b c d : Byte) : Word32 := a ++ b ++ c ++ d
/-- The two bytes of a field, high byte first. -/
def splitWord16 (w : Word16) : List Byte := [w.extractLsb' 8 8, w.extractLsb' 0 8]
/-- The four bytes of a field, high byte first. -/
def splitWord32 (w : Word32) : List Byte :=
  [w.extractLsb' 24 8, w.extractLsb' 16 8, w.extractLsb' 8 8, w.extractLsb' 0 8]

/-- A presence or mode byte is 0 or 1, and no other value fits (R177); a flash byte is judged alike (log 41). -/
def decodeFlag (b : Byte) : Option Bool :=
  if b = 0 then some false else if b = 1 then some true else none

def encodeFlag (b : Bool) : Byte := if b then 1 else 0

/-- A count and that many segment ids, at most 16 (R180). -/
def decodeSegs : List Byte → Option (List Byte)
  | m :: ids => if ids.length = m.toNat ∧ segListFits ids then some ids else none
  | [] => none

def encodeSegs (ids : List Byte) : List Byte := BitVec.ofNat 8 ids.length :: ids

/-- The code of a hold kind: its place in the R4 table (R180). -/
def HoldKind.code : HoldKind → Byte
  | .startup => 0 | .valley => 1 | .avalanche => 2 | .panel => 3 | .zone => 4 | .detector => 5 | .weather => 6
  | .notice => 7 | .full => 8

/-- A hold kind code outside 0..8 makes the body unfit (R180). -/
def decodeHoldKind (b : Byte) : Option HoldKind :=
  if b = 0 then some .startup else if b = 1 then some .valley else if b = 2 then some .avalanche
  else if b = 3 then some .panel else if b = 4 then some .zone else if b = 5 then some .detector
  else if b = 6 then some .weather else if b = 7 then some .notice else if b = 8 then some .full else none

/-- An optional value behind its presence byte: absent is carried as a zero value (R180). -/
def encodeOptByte : Option Byte → List Byte
  | none => [0, 0]
  | some b => [1, b]

/-- The fields of NOTICE_CREATE after the kind: start (4), end present, end (4), lead (2), page present, page, count,
segment ids (R180). -/
def decodeNoticeBody : List Byte → Option NoticeBody
  | s0 :: s1 :: s2 :: s3 :: ep :: e0 :: e1 :: e2 :: e3 :: l0 :: l1 :: pp :: p :: segs =>
    match decodeFlag ep, decodeFlag pp, decodeSegs segs with
    | some hasEnd, some hasPage, some ids =>
      some { start := joinWord32 s0 s1 s2 s3,
             stop := if hasEnd then some (joinWord32 e0 e1 e2 e3) else none,
             lead := joinWord16 l0 l1,
             page := if hasPage then some p else none,
             segs := ids }
    | _, _, _ => none
  | _ => none

def encodeNoticeBody (n : NoticeBody) : List Byte :=
  splitWord32 n.start ++
  (match n.stop with | none => 0 :: splitWord32 0 | some e => 1 :: splitWord32 e) ++
  splitWord16 n.lead ++ encodeOptByte n.page ++ encodeSegs n.segs

/-- The body of SIGN_OVERRIDE: 2 bytes in mode 0, 14 bytes in mode 1 (R180). A flash byte other than 0 or 1 does not fit
(log 41). -/
def decodeOverride : List Byte → Option (Byte × Option OverrideBody)
  | [sign, mode] => if mode = 0 then some (sign, none) else none
  | [sign, mode, page, fl, fa, a0, a1, a2, a3, fb, b0, b1, b2, b3] =>
    if mode = 1 then
      match decodeFlag fl with
      | some flash =>
        some (sign, some { page := page, flash := flash,
                           fieldA := ⟨fa, joinWord32 a0 a1 a2 a3⟩, fieldB := ⟨fb, joinWord32 b0 b1 b2 b3⟩ })
      | none => none
    else none
  | _ => none

def encodeOverride (sign : Byte) : Option OverrideBody → List Byte
  | none => [sign, 0]
  | some o =>
    [sign, 1, o.page, encodeFlag o.flash, o.fieldA.format] ++ splitWord32 o.fieldA.value ++
    (o.fieldB.format :: splitWord32 o.fieldB.value)

/-- The request kind code of a command (R180); `none` for the rows that are no request. -/
def requestKind : Instr → Option Byte
  | .status _ => some 0x01 | .query _ _ _ _ => some 0x02 | .holdPlace _ _ _ => some 0x03
  | .holdRelease _ _ _ => some 0x04 | .startupRelease _ => some 0x05 | .reopen _ _ => some 0x06
  | .timeSet _ _ => some 0x07 | .noticeCreate _ _ _ => some 0x08 | .noticeAmend _ _ _ _ => some 0x09
  | .noticeWithdraw _ _ => some 0x0A | .noticeLift _ _ => some 0x0B | .signOverride _ _ _ => some 0x0C
  | .zoneLevel _ _ _ => some 0x0D | .detectorClear _ _ => some 0x0E | .testTrip _ _ => some 0x0F
  | .gateFaultClear _ _ => some 0x10 | .fullClose _ => some 0x11 | .releasePropose _ => some 0x12
  | .releaseConfirm _ => some 0x13 | .fieldRestart _ => some 0x14 | .attentionEnable _ _ => some 0x15
  | .commissionEnter _ => some 0x16 | .commissionExit _ => some 0x17 | .storeWrite _ _ _ _ => some 0x18
  | .storeRead _ _ _ => some 0x19 | .protectSet _ _ => some 0x1A | .storeErase _ => some 0x1B
  | .commit _ => some 0x1C | .storeSum _ => some 0x1D
  | _ => none

/-- The request that a body of a known kind carries, where the body fits (R180). -/
def decodeBody (l : Link) (kind : Byte) (body : List Byte) : Option Instr :=
  if kind = 0x01 then (if body = [] then some (.status l) else none)
  else if kind = 0x02 then (match body with | [o, i, p] => some (.query l o i p) | _ => none)
  else if kind = 0x03 then
    (match body with
     | rp :: r :: rest =>
       match decodeFlag rp, decodeSegs rest with
       | some hasReason, some ids => some (.holdPlace l (if hasReason then some r else none) ids)
       | _, _ => none
     | _ => none)
  else if kind = 0x04 then
    (match body with
     | k :: rest =>
       match decodeHoldKind k, decodeSegs rest with
       | some hk, some ids => some (.holdRelease l hk ids)
       | _, _ => none
     | [] => none)
  else if kind = 0x05 then (if body = [] then some (.startupRelease l) else none)
  else if kind = 0x06 then (decodeSegs body).map (.reopen l)
  else if kind = 0x07 then (match body with | [a, b, c, d] => some (.timeSet l (joinWord32 a b c d)) | _ => none)
  else if kind = 0x08 then
    (match body with
     | k :: rest => (decodeNoticeBody rest).map (.noticeCreate l k)
     | [] => none)
  else if kind = 0x09 then
    (match body with
     | i :: r :: rest => (decodeNoticeBody rest).map (.noticeAmend l i r)
     | _ => none)
  else if kind = 0x0A then (match body with | [i] => some (.noticeWithdraw l i) | _ => none)
  else if kind = 0x0B then (match body with | [i] => some (.noticeLift l i) | _ => none)
  else if kind = 0x0C then (decodeOverride body).map (fun p => .signOverride l p.1 p.2)
  else if kind = 0x0D then (match body with | [z, v] => some (.zoneLevel l z v) | _ => none)
  else if kind = 0x0E then (match body with | [c] => some (.detectorClear l c) | _ => none)
  else if kind = 0x0F then (match body with | [c] => some (.testTrip l c) | _ => none)
  else if kind = 0x10 then (match body with | [g] => some (.gateFaultClear l g) | _ => none)
  else if kind = 0x11 then (if body = [] then some (.fullClose l) else none)
  else if kind = 0x12 then (if body = [] then some (.releasePropose l) else none)
  else if kind = 0x13 then (if body = [] then some (.releaseConfirm l) else none)
  else if kind = 0x14 then (if body = [] then some (.fieldRestart l) else none)
  else if kind = 0x15 then (match body with | [a, b] => some (.attentionEnable l (joinWord16 a b)) | _ => none)
  else if kind = 0x16 then (if body = [] then some (.commissionEnter l) else none)
  else if kind = 0x17 then (if body = [] then some (.commissionExit l) else none)
  else if kind = 0x18 then
    (match body with
     | r :: n :: bytes => if storeBytesFit r n bytes then some (.storeWrite l r n bytes) else none
     | _ => none)
  else if kind = 0x19 then (match body with | [r, n] => some (.storeRead l r n) | _ => none)
  else if kind = 0x1A then (match body with | [r] => some (.protectSet l r) | _ => none)
  else if kind = 0x1B then (if body = [] then some (.storeErase l) else none)
  else if kind = 0x1C then (if body = [] then some (.commit l) else none)
  else if kind = 0x1D then (if body = [] then some (.storeSum l) else none)
  else none

/-- The command that a valid frame on link `l` is: the request, or a FORMAT refusal for an unknown kind or a body that
does not fit (R177). -/
def decodeRequest (l : Link) (kind : Byte) (body : List Byte) : Instr :=
  (decodeBody l kind body).getD (.formatRefusal l kind)

/-- The link, kind byte and body of a request (R180); `none` for the rows that are no request. -/
def encodeRequest : Instr → Option (Link × Byte × List Byte)
  | .status l => some (l, 0x01, [])
  | .query l o i p => some (l, 0x02, [o, i, p])
  | .holdPlace l reason segs => some (l, 0x03, encodeOptByte reason ++ encodeSegs segs)
  | .holdRelease l k segs => some (l, 0x04, k.code :: encodeSegs segs)
  | .startupRelease l => some (l, 0x05, [])
  | .reopen l segs => some (l, 0x06, encodeSegs segs)
  | .timeSet l v => some (l, 0x07, splitWord32 v)
  | .noticeCreate l k b => some (l, 0x08, k :: encodeNoticeBody b)
  | .noticeAmend l i r b => some (l, 0x09, i :: r :: encodeNoticeBody b)
  | .noticeWithdraw l i => some (l, 0x0A, [i])
  | .noticeLift l i => some (l, 0x0B, [i])
  | .signOverride l sign o => some (l, 0x0C, encodeOverride sign o)
  | .zoneLevel l z v => some (l, 0x0D, [z, v])
  | .detectorClear l c => some (l, 0x0E, [c])
  | .testTrip l c => some (l, 0x0F, [c])
  | .gateFaultClear l g => some (l, 0x10, [g])
  | .fullClose l => some (l, 0x11, [])
  | .releasePropose l => some (l, 0x12, [])
  | .releaseConfirm l => some (l, 0x13, [])
  | .fieldRestart l => some (l, 0x14, [])
  | .attentionEnable l e => some (l, 0x15, splitWord16 e)
  | .commissionEnter l => some (l, 0x16, [])
  | .commissionExit l => some (l, 0x17, [])
  | .storeWrite l r n bytes => some (l, 0x18, r :: n :: bytes)
  | .storeRead l r n => some (l, 0x19, [r, n])
  | .protectSet l r => some (l, 0x1A, [r])
  | .storeErase l => some (l, 0x1B, [])
  | .commit l => some (l, 0x1C, [])
  | .storeSum l => some (l, 0x1D, [])
  | _ => none

end Sys2Proof
end

