-- ==== Sys2Proof/Machine/State.lean ====
section
/-! DEFINITION. The state of the part: the records of its eleven blocks, as the record tables of the manual give them
(R1, R4, R29, R49, R66, R79, R100, R107, R121, R125, R145, R146, R160, R161, R183, R186, R193), the two marks of the
start-up record (R25), the queue of waiting commands and the counter of drawn free values; and `State.reset`.
Plain data throughout. A timer is `none` while stopped and `some ms` while it runs, with the milliseconds that remain
(or, for the travel timer of a gate, that have elapsed). -/

namespace Sys2Proof.Machine

/-- Why the part would stop with a fault. The spec names none: every refusal is a reply, every discarded byte or frame
leaves the part running, and the faults of gates and signs are states of their records. No meaning raises this one
constructor; its presence is safe, since it allows nothing. -/
inductive Fault where
  /-- Raised by no command (the type must not be empty for `Repr`). Safe. -/
  | none
  deriving DecidableEq, Repr

/-- Why the model would refuse a command. -/
inductive Refusal where
  /-- Raised only by an arm of `exec` that has no meaning yet; no arm is in that case. Safe: the model stops. -/
  | notModelled (mnemonic : String)
  deriving DecidableEq, Repr

/-- A timer: stopped, or running with a number of milliseconds. -/
abbrev Timer := Option Nat

-- ---------------------------------------------------------------- segment table (chapter 1)

/-- The segment states (R1). `opened` is the manual's OPEN, whose own spelling is a word of Lean. -/
inductive SegState where
  | opened | warning | closing | closed | opening
  deriving DecidableEq, Repr

/-- A sign's role at its segment (R2). -/
inductive Role where
  | approach | info
  deriving DecidableEq, Repr

/-- A hold entry (R4), without its kind, which is its place in the hold set. Sources are numbers in ascending order:
zone ids for ZONE, channel ids for DETECTOR, 0 (ICE) and 1 (WIND) for WEATHER, notice ids for NOTICE. -/
structure HoldEntry where
  since   : Option Nat
  reason  : Option Byte
  sources : List Nat
  deriving DecidableEq, Repr

/-- A hold set: one place for each of the nine kinds, in the order of their codes, so that it holds at most one entry
of each kind (R4). -/
abbrev HoldSet := Vector (Option HoldEntry) 9

/-- The restriction record (R3, R93). -/
structure Restriction where
  advisory : Nat
  chains   : Bool
  ban      : Bool
  deriving DecidableEq, Repr

/-- The segment record (R1). -/
structure Segment where
  state           : SegState
  holds           : HoldSet
  gates           : List GateId
  signs           : List (SignId × Role)
  site            : Option SiteId
  zones           : List ZoneId
  iceAuto         : Bool
  windAuto        : Bool
  warningInterval : Nat
  confirmWait     : Timer
  warningTimer    : Timer
  incomplete      : Bool
  restriction     : Restriction
  deriving DecidableEq, Repr

-- ---------------------------------------------------------------- inputs and gates (chapters 2 and 4)

/-- An input filter: filtered level and run count (R62). -/
structure Filter where
  level : Bool
  run   : Nat
  deriving DecidableEq, Repr

/-- The gate states (R29). -/
inductive GateState where
  | unknown | raised | lowered | raising | lowering | fault
  deriving DecidableEq, Repr

/-- The fault causes of a gate (R41). -/
inductive GateFault where
  | early | stall | conflict | displaced
  deriving DecidableEq, Repr

/-- The demand of a gate (R32). -/
inductive Demand where
  | raise | lower
  deriving DecidableEq, Repr

/-- The travel check of a gate (R36). -/
inductive TravelCheck where
  | checked | unchecked
  deriving DecidableEq, Repr

/-- The gate record (R29). Its two switch fields are the filters of its end switches (R64): the field is the filter's
level. -/
structure Gate where
  listing      : List SegId
  tMin         : Nat
  tMax         : Nat
  state        : GateState
  cause        : Option GateFault
  demand       : Demand
  check        : Option TravelCheck
  timer        : Timer
  raisedSwitch  : Filter
  loweredSwitch : Filter
  raiseDrive   : Bool
  lowerDrive   : Bool
  deriving DecidableEq, Repr

/-- The segment table and the gate drive, which act on each other within one event (R42). A segment is configured when
its place holds a record (R1). -/
structure Road where
  segs  : Vector (Option Segment) 8
  gates : Vector Gate 6
  deriving DecidableEq, Repr

-- ---------------------------------------------------------------- full closure latch (chapter 3)

inductive LatchState where
  | clear | latched | proposed
  deriving DecidableEq, Repr

inductive Proposer where
  | valley | avalanche
  deriving DecidableEq, Repr

/-- The value of the latch word (R49, R56). -/
inductive LatchValue where
  | clear | latched
  deriving DecidableEq, Repr

/-- The latch record (R49). Word status is computed from the store (`State.wordStatusWriting`). -/
structure Latch where
  state        : LatchState
  proposer     : Option Proposer
  window       : Timer
  windowLength : Nat
  stored       : LatchValue
  deriving DecidableEq, Repr

-- ---------------------------------------------------------------- field input unit (chapter 4)

/-- The key position (R65). -/
inductive KeyPosition where
  | locked | operate | service
  deriving DecidableEq, Repr

inductive ChanKind where
  | unused | wind | surfaceTemp | airTemp | precip | detector
  deriving DecidableEq, Repr

/-- The owner of a channel (R66). -/
inductive Owner where
  | none
  | site (i : SiteId)
  | zone (i : ZoneId)
  deriving DecidableEq, Repr

/-- The carrier fields of a DETECTOR channel (R66, R73): the limit in ms, whether the carrier is PRESENT, and the
counter: stopped, or the ms remaining, a multiple of 10, with the ms spent in the running 10 ms step. -/
structure Carrier where
  limit   : Nat
  present : Bool
  counter : Timer
  phase   : Nat
  deriving DecidableEq, Repr

/-- The channel record (R66), with the input's filter (R62), the pin level that the edge detector last saw (R68) and
the number of measurement gates ended since the epoch (R70). -/
structure Channel where
  kind       : ChanKind
  owner      : Owner
  gateLength : Nat
  nf         : Nat
  count      : Nat
  last       : Option Nat
  carrier    : Option Carrier
  filter     : Filter
  edge       : Bool
  gatesEnded : Nat
  deriving DecidableEq, Repr

/-- The field input unit: the channels, the key pin filters, and the measurement epoch as the ms since it (R70). -/
structure FieldUnit where
  channels   : Vector Channel 16
  keyA       : Filter
  keyB       : Filter
  sinceEpoch : Nat
  deriving DecidableEq, Repr

-- ---------------------------------------------------------------- condition unit (chapter 5)

/-- The period accumulator (R82). -/
structure Accumulator where
  windSum   : Nat
  gustMax   : Nat
  precipSum : Nat
  surface   : Option Nat
  air       : Option Nat
  deriving DecidableEq, Repr

/-- A computed temperature (R83), in tenths of a degree. -/
inductive Temp where
  | value (t : Int)
  | invalid
  | absent
  deriving DecidableEq, Repr

/-- The grip score (R88). -/
inductive Grip where
  | value (g : Nat)
  | invalid
  | absent
  deriving DecidableEq, Repr

/-- The penalties of stage 4 (R87, R88). -/
structure Penalties where
  thermal  : Nat
  moisture : Nat
  snowfall : Nat
  combined : Nat
  deriving DecidableEq, Repr

/-- The calibration and thresholds of a site (R79, the fields marked Description). -/
structure SiteConfig where
  period : Nat
  w      : Nat
  f0     : Nat
  s      : Nat
  pg     : Nat
  mg     : Nat
  t1     : Nat
  t2     : Nat
  t3     : Nat
  t4     : Nat
  wBan   : Nat
  wClose : Nat
  len    : Nat
  fail   : Nat
  deriving DecidableEq, Repr

/-- The site record (R79), with whether the site is in use (R80) and the number of its periods ended since the epoch
(R81). -/
structure Site where
  inUse         : Bool
  config        : SiteConfig
  acc           : Accumulator
  gradeRing     : List Nat
  windRing      : List Nat
  ts            : Temp
  ta            : Temp
  vMean         : Option Nat
  vGust         : Option Nat
  p             : Option Nat
  g             : Grip
  penalties     : Option Penalties
  computedGrade : Option Nat
  reportedGrade : Nat
  computedWind  : Option Nat
  reportedWind  : Nat
  periodsEnded  : Nat
  deriving DecidableEq, Repr

-- ---------------------------------------------------------------- zone unit (chapter 6)

inductive LevelStatus where
  | set | unknown
  deriving DecidableEq, Repr

/-- The zone record (R100). Its detector channels list is computed from the channel records (R101). -/
structure Zone where
  setLevel      : Nat
  status        : LevelStatus
  linkLoss      : Nat
  warnThreshold : Nat
  closeThreshold : Nat
  effective     : Nat
  warning       : Bool
  closure       : Bool
  exposed       : List SegId
  setSinceReset : Bool
  deriving DecidableEq, Repr

inductive NotifyMode where
  | none | enter | leave | both
  deriving DecidableEq, Repr

inductive DetectorState where
  | quiet | pending | confirmed | failed
  deriving DecidableEq, Repr

/-- The qualification record of a DETECTOR channel (R107). -/
structure Qualification where
  trip   : Nat
  np     : Nat
  nc     : Nat
  notify : NotifyMode
  state  : DetectorState
  count  : Nat
  latest : Option Nat
  test   : Bool
  deriving DecidableEq, Repr

structure ZoneUnit where
  zones : Vector Zone 6
  quals : Vector (Option Qualification) 16
  deriving DecidableEq, Repr

-- ---------------------------------------------------------------- notice unit (chapter 7)

/-- The corridor clock (R121). -/
structure Clock where
  valid : Bool
  value : Nat
  timer : Timer
  deriving DecidableEq, Repr

inductive NoticeKind where
  | scheduled | seasonal
  deriving DecidableEq, Repr

inductive NoticeState where
  | waiting | announced | inForce
  deriving DecidableEq, Repr

/-- The notice record (R125). Segments in ascending order. -/
structure Notice where
  id       : Nat
  kind     : NoticeKind
  segs     : List SegId
  start    : Nat
  stop     : Option Nat
  lead     : Nat
  page     : Option Nat
  revision : Nat
  state    : NoticeState
  deriving DecidableEq, Repr

structure NoticeUnit where
  clock : Clock
  list  : List Notice
  deriving DecidableEq, Repr

-- ---------------------------------------------------------------- sign selector (chapter 8)

/-- The thirteen page classes, in the order of R146 and then OVERRIDE (R181). -/
inductive PageClass where
  | full | closingSoon | closedAvalanche | closedWeather | closedNotice | closedGeneral | avalancheWarning
  | ban | chains | noticeAhead | advisory | default | override
  deriving DecidableEq, Repr

/-- The field formats (R143). -/
inductive Format where
  | integer | tenths | time
  deriving DecidableEq, Repr

/-- A present field: its format and value (R145). -/
structure Field where
  format : Format
  value  : Int
  deriving DecidableEq, Repr

/-- A page reference (R145). -/
structure PageRef where
  page   : Nat
  fieldA : Option Field
  fieldB : Option Field
  flash  : Bool
  deriving DecidableEq, Repr

/-- The field sources of the page map (R146). -/
inductive Source where
  | none | classValue | segmentId | advisory | surfaceTemp | airTemp | gust | meanWind | precip | zoneLevel
  deriving DecidableEq, Repr

/-- One entry of the page map (R146, R194). -/
structure MapEntry where
  page    : Nat
  flash   : Bool
  formatA : Option Format
  sourceA : Source
  formatB : Option Format
  sourceB : Source
  deriving DecidableEq, Repr

/-- What the selector has chosen for a sign: class, reference, composed page and page sum (R144, R145). -/
structure Desired where
  cls   : PageClass
  ref   : PageRef
  codes : List Byte
  sum   : Nat
  deriving DecidableEq, Repr

/-- The sign record (R145). Segment and desired page are absent while the part is uncommissioned (R156). -/
structure Sign where
  segment     : SegId
  role        : Role
  override    : Option PageRef
  desired     : Option Desired
  urgent      : Bool
  contentMark : Bool
  needs       : Bool
  deriving DecidableEq, Repr

-- ---------------------------------------------------------------- sign line controller (chapter 9)

inductive LineState where
  | stale | current | sending | fault
  deriving DecidableEq, Repr

inductive SignFault where
  | noReply | rejected | mismatch | stalled
  deriving DecidableEq, Repr

/-- A confirmed page: a reference with its composed codes and page sum (R160). -/
structure Confirmed where
  ref   : PageRef
  codes : List Byte
  sum   : Nat
  deriving DecidableEq, Repr

inductive ProbeTimer where
  | stopped
  | running (ms : Nat)
  | expired
  deriving DecidableEq, Repr

/-- The line record of a sign (R160). -/
structure LineRecord where
  state     : LineState
  cause     : Option SignFault
  confirmed : Option Confirmed
  width     : Width
  probe     : ProbeTimer
  deriving DecidableEq, Repr

inductive Phase where
  | selecting | resuming | sendingUnits | showing
  deriving DecidableEq, Repr

inductive Part where
  | whole | first | second
  deriving DecidableEq, Repr

/-- One unit of a transfer: a block 0..3 and its part (R161). -/
structure PageUnit where
  block : Fin 4
  part  : Part
  deriving DecidableEq, Repr

/-- The transfer context (R161). `silentOnce` is the model's own field: the frame last sent has met one silence already, so
that a further one is not the first silence of R170 (log 22). -/
structure Transfer where
  target        : SignId
  page          : Confirmed
  phase         : Phase
  units         : List PageUnit
  next          : Nat
  retryUsed     : Bool
  breaks        : Nat
  mismatchUsed  : Bool
  changePending : Bool
  silentOnce    : Bool
  deriving DecidableEq, Repr

/-- The frame the part last sent on the sign line and still waits on: its bytes (R158) and its reply window, `none`
until the last byte has left and then the ms that remain of it (R159). -/
structure SentFrame where
  bytes  : List Byte
  window : Timer
  deriving DecidableEq, Repr

/-- The sign line controller: line records, the transfer in flight, the sign whose probe awaits its reply, the frame
in flight, and the two marks of the arbiter (R161 to R163). -/
structure SignLine where
  records    : Vector LineRecord 12
  transfer   : Option Transfer
  probing    : Option SignId
  sent       : Option SentFrame
  lastServed : SignId
  probeMark  : SignId
  deriving DecidableEq, Repr

/-- The sign selector and the sign line controller, which share each sign's needing-service flag (R153). -/
structure Board where
  pageMap : Vector MapEntry 12
  signs   : Vector Sign 12
  line    : SignLine
  deriving DecidableEq, Repr

-- ---------------------------------------------------------------- link ports (chapter 10)

/-- The eleven attention flags as the bits of R186. -/
abbrev FlagSet := BitVec 11

/-- The receiver of a link (R177, R178): hunting, in a frame with its bytes so far and the ms since the last of them,
or sending a reply, with the reply's bytes. -/
inductive Receiver where
  | hunting
  | inFrame (bytes : List Byte) (gap : Nat)
  | replying (frame : List Byte)
  deriving DecidableEq, Repr

/-- The link record (R183), the receiver (R177), the attention and enable sets and the attention line (R186, R187).
The limit is in seconds and absent on the panel link, which has no timer. -/
structure LinkRecord where
  active    : Bool
  limit     : Option Nat
  timer     : Timer
  receiver  : Receiver
  attention : FlagSet
  enable    : FlagSet
  line      : Bool
  deriving DecidableEq, Repr

structure Links where
  valley    : LinkRecord
  avalanche : LinkRecord
  panel     : LinkRecord
  deriving DecidableEq, Repr

-- ---------------------------------------------------------------- commissioning store (chapter 11)

/-- A store record (R193): blank, valid or failing, with its bytes, check included. -/
inductive Record where
  | blank
  | valid (bytes : List Byte)
  | failing (bytes : List Byte)
  deriving DecidableEq, Repr

/-- The store write in flight (R195): a record of DESCRIPTION, of LIBRARY or the control record, with its new bytes
(check included); a latch slot with its value and generation (R56); or an erase (R197). -/
inductive StoreWrite where
  | description (number : Fin 53) (bytes : List Byte)
  | library (page : Fin 128) (bytes : List Byte)
  | control (bytes : List Byte)
  | latchSlot (second : Bool) (value : LatchValue) (generation : Byte)
  | erase
  deriving DecidableEq, Repr

/-- The commissioning store and its working copies (R193 to R198). -/
structure Store where
  description   : Vector Record 53
  library       : Vector Record 128
  control       : Record
  slot0         : Record
  slot1         : Record
  inFlight      : Option StoreWrite
  latchPending  : Bool
  protectDesc   : Bool
  protectLib    : Bool
  commissionId  : Word16
  modeOn        : Bool
  enteredSince  : Bool
  deriving DecidableEq, Repr

-- ---------------------------------------------------------------- the whole part

/-- The state of the part. -/
structure State where
  commissioned   : Bool
  key            : KeyPosition
  valleyHeard    : Bool
  avalancheHeard : Bool
  road           : Road
  latch          : Latch
  field          : FieldUnit
  sites          : Vector Site 4
  zoneUnit       : ZoneUnit
  notices        : NoticeUnit
  board          : Board
  links          : Links
  store          : Store
  draws          : Nat
  pending        : List Instr
  deriving DecidableEq, Repr

-- ---------------------------------------------------------------- reset

namespace State

/-- An input at INACTIVE or LOW with run count 0 (log 2). -/
def idleFilter : Filter := ⟨false, 0⟩

/-- A gate of an uncommissioned part (R46, R200). -/
def idleGate : Gate :=
  { listing := [], tMin := 1, tMax := 2, state := .unknown, cause := none, demand := .lower, check := none,
    timer := none, raisedSwitch := idleFilter, loweredSwitch := idleFilter, raiseDrive := false, lowerDrive := false }

/-- A channel of an uncommissioned part (R67, R76). -/
def idleChannel : Channel :=
  { kind := .unused, owner := .none, gateLength := 1, nf := 0, count := 0, last := none, carrier := none,
    filter := idleFilter, edge := false, gatesEnded := 0 }

/-- The site fields of an uncommissioned part: the defaults of R79, and the least value where none is given (R200). -/
def idleSiteConfig : SiteConfig :=
  { period := 8, w := 1, f0 := 0, s := 1, pg := 1, mg := 0, t1 := 85, t2 := 70, t3 := 55, t4 := 40, wBan := 200,
    wClose := 300, len := 4, fail := 3 }

def emptyAccumulator : Accumulator := ⟨0, 0, 0, none, none⟩

/-- A site at its reset values (R97) for an uncommissioned part. -/
def idleSite : Site :=
  { inUse := false, config := idleSiteConfig, acc := emptyAccumulator, gradeRing := [3], windRing := [0],
    ts := .absent, ta := .absent, vMean := none, vGust := none, p := none, g := .absent, penalties := none,
    computedGrade := none, reportedGrade := 3, computedWind := none, reportedWind := 0, periodsEnded := 0 }

/-- A zone at its reset values (R118) for an uncommissioned part: UNKNOWN at the default link-loss level 4. -/
def idleZone : Zone :=
  { setLevel := 0, status := .unknown, linkLoss := 4, warnThreshold := 3, closeThreshold := 4, effective := 4,
    warning := true, closure := true, exposed := [], setSinceReset := false }

def idleMapEntry : MapEntry :=
  { page := 0, flash := false, formatA := none, sourceA := .none, formatB := none, sourceB := .none }

/-- A sign of an uncommissioned part (R156); its segment is the least value of its range (R200, log 18). -/
def idleSign : Sign :=
  { segment := 0, role := .approach, override := none, desired := none, urgent := false, contentMark := false,
    needs := false }

/-- A line record after hardware reset (R173). -/
def idleLineRecord : LineRecord :=
  { state := .stale, cause := none, confirmed := none, width := .full, probe := .stopped }

/-- The sign line after hardware reset (R173). -/
def idleSignLine : SignLine :=
  { records := Vector.replicate 12 idleLineRecord, transfer := none, probing := none, sent := none,
    lastServed := 11, probeMark := 11 }

/-- A link after hardware reset (R192) whose attention set is empty. -/
def idleLink (limit : Option Nat) : LinkRecord :=
  { active := false, limit := limit, timer := none, receiver := .hunting, attention := 0, enable := 0x7FF,
    line := false }

/-- A blank store (log 1). -/
def blankStore : Store :=
  { description := Vector.replicate 53 .blank, library := Vector.replicate 128 .blank, control := .blank,
    slot0 := .blank, slot1 := .blank, inFlight := none, latchPending := false, protectDesc := false,
    protectLib := false, commissionId := 0, modeOn := false, enteredSince := false }

/-- The part right after a hardware reset with a blank store (log 1) and every input inactive or LOW (log 2): it is
uncommissioned (R200), and every block has its reset values. -/
def reset : State :=
  { commissioned := false, key := .locked, valleyHeard := false, avalancheHeard := false,
    road := { segs := Vector.replicate 8 none, gates := Vector.replicate 6 idleGate },
    latch := { state := .clear, proposer := none, window := none, windowLength := Config.windowLength,
               stored := .clear },
    field := { channels := Vector.replicate 16 idleChannel, keyA := idleFilter, keyB := idleFilter, sinceEpoch := 0 },
    sites := Vector.replicate 4 idleSite,
    zoneUnit := { zones := Vector.replicate 6 idleZone, quals := Vector.replicate 16 none },
    notices := { clock := { valid := false, value := 0, timer := none }, list := [] },
    board := { pageMap := Vector.replicate 12 idleMapEntry, signs := Vector.replicate 12 idleSign,
               line := idleSignLine },
    links := { valley := idleLink (some Config.valleyLimit), avalanche := idleLink (some Config.avalancheLimit),
               panel := idleLink none },
    store := blankStore, draws := 0, pending := [] }

end State

end Sys2Proof.Machine
end

