-- ==== Sys2Proof/Machine/Ops.lean ====
section
/-! DEFINITION. The named operations that the blocks share: fixed tables of records, ascending sets of ids, timers,
input filters, frame bytes and checks, the value fields of replies, and the selectors of links and channels. -/

namespace Sys2Proof.Machine

-- ---------------------------------------------------------------- fixed tables

/-- Replace the record at `i`. -/
def put {α : Type} {n : Nat} (v : Vector α n) (i : Fin n) (x : α) : Vector α n := v.set i.val x i.isLt

/-- Change the record at `i`. -/
def alter {α : Type} {n : Nat} (v : Vector α n) (i : Fin n) (f : α → α) : Vector α n := put v i (f (v.get i))

/-- Change every record, each with its id. -/
def mapIds {α β : Type} {n : Nat} (f : Fin n → α → β) (v : Vector α n) : Vector β n :=
  Vector.ofFn fun i => f i (v.get i)

/-- The ids that satisfy a test, ascending. -/
def idsWhere {n : Nat} (p : Fin n → Bool) : List (Fin n) := (List.finRange n).filter p

/-- All ids of a table of flags that are set, ascending. -/
def setIds {n : Nat} (v : Vector Bool n) : List (Fin n) := idsWhere fun i => v.get i

/-- Does every id satisfy a test? -/
def allIds {n : Nat} (p : Fin n → Bool) : Bool := (List.finRange n).all p

/-- Does some id satisfy a test? -/
def anyId {n : Nat} (p : Fin n → Bool) : Bool := (List.finRange n).any p

/-- The id of a byte, when it lies in the range of ids. -/
def idOf (n : Nat) (b : Byte) : Option (Fin n) := if h : b.toNat < n then some ⟨b.toNat, h⟩ else none

-- ---------------------------------------------------------------- ascending sets of numbers

/-- Add a member to a set held in ascending order. -/
def insertAsc (x : Nat) : List Nat → List Nat
  | [] => [x]
  | y :: ys => if x < y then x :: y :: ys else if x = y then y :: ys else y :: insertAsc x ys

/-- Take a member out of a set. -/
def removeAsc (x : Nat) (l : List Nat) : List Nat := l.filter (fun y => !(y == x))

-- ---------------------------------------------------------------- timers (ms)

/-- One ms less of a running timer; a timer that has run out stays at 0 until its expiry is taken (log 32). -/
def Timer.down (t : Timer) : Timer := t.map (· - 1)

/-- A running timer that has run out (log 4). -/
def Timer.due (t : Timer) : Bool := t == some 0

-- ---------------------------------------------------------------- input filters (R62)

/-- One sample: the filter after it, and whether the change of level is accepted (R62). -/
def Filter.sample (nf : Nat) (level : Bool) (f : Filter) : Filter × Bool :=
  if level = f.level then (⟨f.level, 0⟩, false)
  else if f.run + 1 ≥ nf then (⟨level, 0⟩, true)
  else (⟨f.level, f.run + 1⟩, false)

-- ---------------------------------------------------------------- bytes of frames and replies

/-- A number in one byte. -/
def byte1 (n : Nat) : List Byte := [BitVec.ofNat 8 n]
/-- A number in two bytes, high byte first. -/
def byte2 (n : Nat) : List Byte := splitWord16 (BitVec.ofNat 16 n)
/-- A number in three bytes, high byte first. -/
def byte3 (n : Nat) : List Byte := BitVec.ofNat 8 (n / 65536) :: splitWord16 (BitVec.ofNat 16 n)
/-- A number in four bytes, high byte first. -/
def byte4 (n : Nat) : List Byte := splitWord32 (BitVec.ofNat 32 n)
/-- A signed number in two bytes, two's complement (R190). -/
def signed2 (n : Int) : List Byte := splitWord16 (BitVec.ofInt 16 n)
/-- A signed number in four bytes, two's complement (R190). -/
def signed4 (n : Int) : List Byte := splitWord32 (BitVec.ofInt 32 n)
/-- A presence byte (R190), or a field that its rule writes as 0 or 1. -/
def flag1 (b : Bool) : List Byte := [encodeFlag b]

/-- An optional field: a presence byte, and the value when it is present (R190). -/
def optField {α : Type} (f : α → List Byte) : Option α → List Byte
  | none => flag1 false
  | some x => flag1 true ++ f x

/-- A list or set: its count, then its members (R190). -/
def listField {α : Type} (f : α → List Byte) (l : List α) : List Byte := byte1 l.length ++ l.flatMap f

/-- A timer: code 0 stopped, or code 1 running, then the time in ms in four bytes (R190). -/
def timerField : Timer → List Byte
  | none => byte1 0 ++ byte4 0
  | some ms => byte1 1 ++ byte4 ms

/-- A segment, gate, sign, zone, channel or site id. -/
def idField {n : Nat} (i : Fin n) : List Byte := byte1 i.val

/-- The sum of a list of bytes. -/
def byteSum (l : List Byte) : Nat := (l.map BitVec.toNat).sum

/-- The 16-bit check of a frame: two's complement of the sum of its length, kind and body bytes (R158, R176). -/
def checkOf (l : List Byte) : Word16 := BitVec.ofNat 16 (65536 - byteSum l % 65536)

/-- The reply frame of a kind and a body (R176). -/
def linkFrame (kind : Byte) (body : List Byte) : List Byte :=
  let head := BitVec.ofNat 8 (body.length + 1) :: kind :: body
  0x3C :: head ++ splitWord16 (checkOf head)

/-- The record check: two's complement modulo 256 of the sum of the other bytes (R193). -/
def recordCheck (l : List Byte) : Byte := BitVec.ofNat 8 (256 - byteSum l % 256)

/-- A record's bytes with its check (R193). -/
def withCheck (l : List Byte) : List Byte := l ++ [recordCheck l]

-- ---------------------------------------------------------------- selectors

namespace Links

/-- The record of a link. -/
def get (ls : Links) : Link → LinkRecord
  | .valley => ls.valley
  | .avalanche => ls.avalanche
  | .panel => ls.panel

/-- Change the record of a link. -/
def alter (ls : Links) (l : Link) (f : LinkRecord → LinkRecord) : Links :=
  match l with
  | .valley => { ls with valley := f ls.valley }
  | .avalanche => { ls with avalanche := f ls.avalanche }
  | .panel => { ls with panel := f ls.panel }

/-- Change all three records. -/
def all (ls : Links) (f : LinkRecord → LinkRecord) : Links :=
  { valley := f ls.valley, avalanche := f ls.avalanche, panel := f ls.panel }

end Links

/-- The corridor minute that a new hold entry takes as since: absent while the clock is INVALID (R5). -/
def State.since (s : State) : Option Nat := if s.notices.clock.valid then some s.notices.clock.value else none

/-- Is a segment configured (R1)? -/
def Road.configured (r : Road) (i : SegId) : Bool := (r.segs.get i).isSome

/-- The configured segments, ascending. -/
def Road.configuredIds (r : Road) : List SegId := idsWhere r.configured

/-- The state of a segment; absent when it is not configured. -/
def Road.segState (r : Road) (i : SegId) : Option SegState := (r.segs.get i).map (·.state)

/-- Is a segment configured and in a given state? -/
def Road.isIn (r : Road) (i : SegId) (st : SegState) : Bool := r.segState i == some st

/-- Is every configured segment CLOSED (R198, R199)? -/
def Road.allClosed (r : Road) : Bool := allIds fun i => !r.configured i || r.isIn i .closed

/-- The persisted value of the latch (R49). -/
def Latch.persisted (l : Latch) : LatchValue :=
  match l.state with
  | .clear => .clear
  | .latched => .latched
  | .proposed => .latched

/-- Word status is WRITING while a latch word write is pending or in flight (R56). -/
def Store.wordWriting (st : Store) : Bool :=
  st.latchPending || (match st.inFlight with | some (.latchSlot _ _ _) => true | _ => false)

/-- A write is in flight or a latch word write is pending (R195, R196, R197, R199). -/
def Store.busy (st : Store) : Bool := st.inFlight.isSome || st.latchPending

/-- A channel of a counting kind (R68). -/
def Channel.counting (c : Channel) : Bool := !(c.kind == .unused)

/-- The channels owned by a site, ascending (R66). -/
def FieldUnit.ofSite (f : FieldUnit) (i : SiteId) : List ChanId :=
  idsWhere fun c => (f.channels.get c).counting && (f.channels.get c).owner == .site i

/-- The detector channels of a zone, ascending (R101). -/
def FieldUnit.ofZone (f : FieldUnit) (i : ZoneId) : List ChanId :=
  idsWhere fun c => (f.channels.get c).kind == .detector && (f.channels.get c).owner == .zone i

end Sys2Proof.Machine
end

