-- ==== Sys2Proof/Machine/Flags.lean ====
section
/-! DEFINITION. Attention: the eleven flags, setting them in all three links, the attention line, and what a STATUS
and an ATTENTION_ENABLE do to one link's sets (R186 to R189). -/

namespace Sys2Proof.Machine

namespace Attn
/-- Bit 0 (R186). -/
def segment : FlagSet := 0x001
/-- Bit 1. -/
def gate : FlagSet := 0x002
/-- Bit 2. -/
def sign : FlagSet := 0x004
/-- Bit 3. -/
def zone : FlagSet := 0x008
/-- Bit 4. -/
def detector : FlagSet := 0x010
/-- Bit 5. -/
def site : FlagSet := 0x020
/-- Bit 6. -/
def notice : FlagSet := 0x040
/-- Bit 7. -/
def clock : FlagSet := 0x080
/-- Bit 8. -/
def link : FlagSet := 0x100
/-- Bit 9. -/
def full : FlagSet := 0x200
/-- Bit 10. -/
def store : FlagSet := 0x400
end Attn

/-- A flag set under a condition. -/
def FlagSet.when (c : Bool) (f : FlagSet) : FlagSet := if c then f else 0

namespace LinkRecord

/-- The line is asserted while the two sets have a flag in common (R187). -/
def lineOf (attention enable : FlagSet) : Bool := !((attention &&& enable) == 0)

/-- Judge the attention line again (R187). -/
def judgeLine (r : LinkRecord) : LinkRecord := { r with line := lineOf r.attention r.enable }

/-- Set attention flags (R186) and judge the line (R187). -/
def setFlags (flags : FlagSet) (r : LinkRecord) : LinkRecord :=
  ({ r with attention := r.attention ||| flags } : LinkRecord).judgeLine

/-- Remove the flags that a STATUS reported (R189). -/
def clearFlags (flags : FlagSet) (r : LinkRecord) : LinkRecord :=
  ({ r with attention := r.attention &&& ~~~flags } : LinkRecord).judgeLine

/-- Replace the enable set (R188). -/
def setEnable (enable : FlagSet) (r : LinkRecord) : LinkRecord :=
  ({ r with enable := enable } : LinkRecord).judgeLine

end LinkRecord

/-- An event sets flags in all three attention sets, whatever the enable sets (R186). -/
def State.attend (flags : FlagSet) (s : State) : State :=
  { s with links := s.links.all (LinkRecord.setFlags flags) }

end Sys2Proof.Machine
end

