-- ==== Sys2Proof/Machine/FieldOps.lean ====
section
/-! DEFINITION. The field input unit's computation on one channel record and on the key pins (chapter 4): accepted
changes, counting, carrier supervision, measurement gates. -/

namespace Sys2Proof.Machine

namespace Carrier

/-- The counter at its full limit (R73). -/
def loaded (c : Carrier) : Carrier := { c with counter := some c.limit, phase := 0 }

/-- An accepted change of level: the carrier is PRESENT and its counter reloaded (R73, R75). -/
def change (c : Carrier) : Carrier := { c.loaded with present := true }

/-- The counter expires: LOST, and the counter stops (R74). -/
def lose (c : Carrier) : Carrier := { c with present := false, counter := none, phase := 0 }

/-- One ms: the running counter goes down in steps of 10 ms (R73, log 27); at 0 it waits for its expiry (log 32). -/
def tick (c : Carrier) : Carrier :=
  match c.counter with
  | none => c
  | some 0 => c
  | some n => if c.phase + 1 ≥ 10 then { c with counter := some (n - 10), phase := 0 } else { c with phase := c.phase + 1 }

/-- A field restart: reloaded when PRESENT, stopped when LOST (R77). -/
def restart (c : Carrier) : Carrier := if c.present then c.loaded else c

/-- The counter has run out (R74). -/
def due (c : Carrier) : Bool := c.counter.due

end Carrier

namespace Channel

/-- The channel's pulses and transitions come from the edge detector (R68). -/
def edgeDriven (c : Channel) : Bool := c.nf == 0

/-- The level that an accepted change of the channel is judged against (R62, R68, log 20). -/
def acceptedLevel (c : Channel) : Bool := if c.edgeDriven then c.edge else c.filter.level

/-- One count, saturating at 65535, on a channel of a counting kind (R68, R69). -/
def countOne (c : Channel) : Channel := if c.counting then { c with count := min 65535 (c.count + 1) } else c

/-- The effect of an accepted change to a level: a rising one is counted, and a carrier is reloaded or restored (R68,
R73, R75). -/
def accept (level : Bool) (c : Channel) : Channel :=
  let c := if level then c.countOne else c
  { c with carrier := c.carrier.map Carrier.change }

/-- DETECTOR attention when an accepted change restores the carrier (R75). -/
def acceptFlags (c : Channel) : FlagSet :=
  FlagSet.when (match c.carrier with | some k => !k.present | none => false) Attn.detector

/-- Record the level that the edge detector or the filter accepted (R62, R68). -/
def setLevel (level : Bool) (c : Channel) : Channel :=
  if c.edgeDriven then { c with edge := level } else { c with filter := ⟨level, 0⟩, edge := level }

/-- A gate end: the count becomes the last result and starts again from 0 (R71). -/
def endGate (c : Channel) : Channel := { c with last := some c.count, count := 0, gatesEnded := c.gatesEnded + 1 }

/-- A field restart discards the gate in progress and reloads the carrier (R77). -/
def restart (c : Channel) : Channel :=
  { c with count := 0, gatesEnded := 0, carrier := c.carrier.map Carrier.restart }

/-- One ms of carrier supervision. -/
def tick (c : Channel) : Channel := { c with carrier := c.carrier.map Carrier.tick }

/-- The carrier counter has run out (R74). -/
def carrierDue (c : Channel) : Bool :=
  match c.carrier with
  | some k => k.due
  | none => false

/-- The carrier is PRESENT. -/
def carrierPresent (c : Channel) : Bool :=
  match c.carrier with
  | some k => k.present
  | none => false

end Channel

/-- The end of a channel's current measurement gate, in ms after the epoch (R70). -/
def Channel.nextEnd (c : Channel) : Nat := (c.gatesEnded + 1) * c.gateLength * 1000

/-- The end of a site's current period, in ms after the epoch (R81). -/
def Site.nextEnd (t : Site) : Nat := (t.periodsEnded + 1) * t.config.period * 1000

namespace FieldUnit

/-- A measurement gate of a channel ends: its next gate end has been reached (R70, log 21). -/
def gateDue (f : FieldUnit) (i : ChanId) : Bool :=
  let c := f.channels.get i
  c.counting && c.nextEnd ≤ f.sinceEpoch

/-- The channels of a site whose gates end at the site's next gate end, ascending: the channels of one delivery (R72). -/
def delivery (f : FieldUnit) (i : SiteId) : List ChanId :=
  (f.ofSite i).filter fun c => (f.ofSite i).all fun j => (f.channels.get c).nextEnd ≤ (f.channels.get j).nextEnd

/-- The next delivery of a site in use is the period-end delivery (R81). -/
def endsPeriod (f : FieldUnit) (i : SiteId) (t : Site) : Bool :=
  t.inUse && (f.delivery i).any fun c => (f.channels.get c).nextEnd == t.nextEnd

/-- The ms elapsed in the current measurement gate of a channel (R66). -/
def gateElapsed (f : FieldUnit) (i : ChanId) : Nat :=
  let c := f.channels.get i
  f.sinceEpoch - c.gatesEnded * c.gateLength * 1000

/-- The ms elapsed in the current period of a site (R79). -/
def periodElapsed (f : FieldUnit) (t : Site) : Nat := f.sinceEpoch - t.periodsEnded * t.config.period * 1000

/-- A site period ends: its end has been reached, and no gate end of the site before it is still to be taken (R81,
log 21). -/
def periodDue (f : FieldUnit) (i : SiteId) (t : Site) : Bool :=
  t.inUse && t.nextEnd ≤ f.sinceEpoch && (f.ofSite i).all fun c => t.nextEnd ≤ (f.channels.get c).nextEnd

/-- The gate length of a site's channel of a kind; absent when the site has none (R79). -/
def gateOf (f : FieldUnit) (i : SiteId) (kind : ChanKind) : Option Nat :=
  ((f.ofSite i).find? fun c => (f.channels.get c).kind == kind).map fun c => (f.channels.get c).gateLength

/-- A new measurement epoch, and each gate begins again (R70, R77). -/
def restart (f : FieldUnit) : FieldUnit :=
  { f with channels := mapIds (fun _ c => c.restart) f.channels, sinceEpoch := 0 }

end FieldUnit

/-- The key position of two pin levels (R65). -/
def keyPosition (a b : Bool) : KeyPosition :=
  match a, b with
  | true, false => .operate
  | false, true => .service
  | _, _ => .locked

end Sys2Proof.Machine
end

