-- ==== Sys2Proof/Machine/Conditions.lean ====
section
/-! DEFINITION. The condition unit's computation on one site record (chapter 5): deliveries into the accumulator, the
conversion of counts, the grip score, the grade, the wind class and the confirmation rings. All divisions round toward
minus infinity, and intermediate values are exact (R86). -/

namespace Sys2Proof.Machine

/-- The per-gate wind speed of R82. -/
def gateSpeed (w g c : Nat) : Nat := min 999 (c * w / (g * 100))

/-- One channel's gate result `c`, of gate length `g`, is taken into the accumulator (R82). -/
def Accumulator.take (w : Nat) (kind : ChanKind) (g c : Nat) (a : Accumulator) : Accumulator :=
  match kind with
  | .wind => { a with windSum := a.windSum + c, gustMax := max a.gustMax (gateSpeed w g c) }
  | .precip => { a with precipSum := a.precipSum + c }
  | .surfaceTemp => { a with surface := some c }
  | .airTemp => { a with air := some c }
  | .unused => a
  | .detector => a

/-- A gate result is taken by a site (R82). -/
def Site.deliver (kind : ChanKind) (g c : Nat) (t : Site) : Site :=
  { t with acc := t.acc.take t.config.w kind g c }

/-- Stage 1 for one temperature channel of gate length `g`; INVALID for a result of 0, and for a missing one, which no
period end meets (R82, R83, log 29). -/
def temperature (cfg : SiteConfig) (g : Nat) : Option Nat → Temp
  | none => .invalid
  | some 0 => .invalid
  | some c =>
    let v := Int.fdiv ((((c : Int) - ((cfg.f0 * g : Nat) : Int))) * 10) ((cfg.s * g : Nat) : Int)
    .value (if v < -500 then -500 else if 800 < v then 800 else v)

/-- Vmean (R84). -/
def meanWind (cfg : SiteConfig) (sum : Nat) : Nat := min 999 (sum * cfg.w / (cfg.period * 100))

/-- P (R85). -/
def precipitation (cfg : SiteConfig) (sum : Nat) : Nat := min 255 (sum * cfg.pg / (cfg.period * 8))

/-- The thermal penalty Pt (R87). -/
def thermalPenalty (ts : Int) : Nat := if ts ≥ 30 then 0 else min 40 ((30 - ts) / 2).toNat

/-- The moisture penalty Pm (R87). -/
def moisturePenalty (ts : Int) (p mg : Nat) : Nat :=
  let m := min 40 (p * mg / 32)
  if ts ≥ 30 then m / 2 else m

/-- The snowfall penalty Ps (R88). -/
def snowfallPenalty (p : Nat) (ta : Temp) : Nat :=
  let cold : Bool := match ta with
    | .value t => t ≤ 10
    | .invalid => true
    | .absent => true
  if p > 0 && cold then 15 else 0

/-- The penalties of stage 4, the last of them limited to 90 (R87, R88). -/
def penaltiesOf (ts : Int) (ta : Temp) (p mg : Nat) : Penalties :=
  let pt := thermalPenalty ts
  let pm := moisturePenalty ts p mg
  let ps := snowfallPenalty p ta
  let extra := if pt > 0 && pm > 0 then 10 else 0
  { thermal := pt, moisture := pm, snowfall := ps, combined := min 90 (pt + pm + ps + extra) }

/-- The computed grade (R89). -/
def gradeOf (cfg : SiteConfig) : Grip → Nat
  | .value g =>
    if g ≥ cfg.t1 then 0 else if g ≥ cfg.t2 then 1 else if g ≥ cfg.t3 then 2 else if g ≥ cfg.t4 then 3 else 4
  | .invalid => cfg.fail
  | .absent => cfg.fail

/-- The computed wind class (R91). -/
def windClassOf (cfg : SiteConfig) (gust : Nat) : Nat :=
  if gust < cfg.wBan then 0 else if gust < cfg.wClose then 1 else 2

/-- Append to a confirmation ring of length `len`: a ring that already holds `len` entries drops its oldest (R90). -/
def appendRing (len x : Nat) (ring : List Nat) : List Nat :=
  (if ring.length ≥ len then ring.drop 1 else ring) ++ [x]

/-- The reported value: the largest entry of the ring (R90, R91). -/
def reportedOf (ring : List Nat) : Nat := ring.foldl max 0

/-- Steps 1 to 3 of the close of a site period, with the gate lengths of the site's temperature channels; the air probe
may be missing (R92). -/
def Site.compute (surfaceGate : Nat) (airGate : Option Nat) (t : Site) : Site :=
  let cfg := t.config
  let ts := temperature cfg surfaceGate t.acc.surface
  let ta := match airGate with
    | some g => temperature cfg g t.acc.air
    | none => .absent
  let p := precipitation cfg t.acc.precipSum
  let pen := match ts with
    | .value v => some (penaltiesOf v ta p cfg.mg)
    | _ => none
  let grip := match pen with
    | some q => .value (100 - q.combined)
    | none => .invalid
  let grade := gradeOf cfg grip
  let gradeRing := appendRing cfg.len grade t.gradeRing
  let wind := windClassOf cfg t.acc.gustMax
  let windRing := appendRing cfg.len wind t.windRing
  { t with ts := ts, ta := ta, vMean := some (meanWind cfg t.acc.windSum), vGust := some t.acc.gustMax, p := some p,
           g := grip, penalties := pen, computedGrade := some grade, gradeRing := gradeRing,
           reportedGrade := reportedOf gradeRing, computedWind := some wind, windRing := windRing,
           reportedWind := reportedOf windRing }

/-- SITE attention at a period end: a reported value differs, or the status of Ts has changed between valid and
INVALID; an absent Ts counts as valid (R96). -/
def siteAttention (before after : Site) : Bool :=
  let invalid (t : Temp) : Bool := match t with | .invalid => true | _ => false
  !(before.reportedGrade == after.reportedGrade) || !(before.reportedWind == after.reportedWind)
    || !(invalid before.ts == invalid after.ts)

/-- The restriction record that a site's reported values give (R3, R93). -/
def Site.restriction (t : Site) : Restriction :=
  { advisory := t.reportedGrade, chains := t.reportedGrade ≥ 3, ban := t.reportedWind ≥ 1 }

/-- The WEATHER cause ICE as a source number (R4). -/
def causeIce : Nat := 0
/-- The WEATHER cause WIND as a source number (R4). -/
def causeWind : Nat := 1

/-- The WEATHER causes that should be present on a segment of a site, each with its presence (R94). -/
def weatherCauses (t : Site) (ice wind : Bool) : List (Nat × Bool) :=
  [(causeIce, t.reportedGrade == 4 && ice), (causeWind, t.reportedWind == 2 && wind)]

/-- Step 7: the accumulator is cleared and the next period begins (R92). -/
def Site.nextPeriod (t : Site) : Site :=
  { t with acc := State.emptyAccumulator, periodsEnded := t.periodsEnded + 1 }

/-- A field restart discards the partial period (R99). -/
def Site.restart (t : Site) : Site := { t with acc := State.emptyAccumulator, periodsEnded := 0 }

end Sys2Proof.Machine
end

