-- ==== Sys2Proof/Machine/Road.lean ====
section
/-! DEFINITION. The segment table and the gate drive as one machine (chapters 1 and 2): hold entries, the segment state
machine, the gate state machine and the chain by which each acts on the other within one event (R42). The chain is a
list of tasks, worked off depth first; each task is one of the rules' own steps. -/

namespace Sys2Proof

/-- The place of a hold kind in a hold set: its code (R180). -/
def HoldKind.idx : HoldKind → Fin 9
  | .startup => 0 | .valley => 1 | .avalanche => 2 | .panel => 3 | .zone => 4 | .detector => 5 | .weather => 6
  | .notice => 7 | .full => 8

/-- DETECTOR and FULL are the urgent kinds (R4). -/
def HoldKind.urgent : HoldKind → Bool
  | .detector => true
  | .full => true
  | _ => false

end Sys2Proof

namespace Sys2Proof.Machine

/-- What the chain reads from outside the road: the minute that a new entry takes as since (R5), and for each segment
whether its approach signs meet condition 1 or 2 of warning confirmation (R11). -/
structure RoadCtx where
  since     : Option Nat
  confirmed : Vector Bool 8

/-- The road within an event: the road, the attention flags the event has set (R8, R43), and the segments whose signs
are to be selected again (R8, R152). -/
structure RoadEv where
  road    : Road
  flags   : FlagSet
  touched : Vector Bool 8

/-- One pending step of the chain of R42. -/
inductive Task where
  /-- Recompute a gate's demand and apply it when it flips (R32). -/
  | demand (g : GateId)
  /-- Apply the demand to a gate (R33). -/
  | apply (g : GateId)
  /-- Judge a travel that has just begun against the switches as they stand (R37). -/
  | settle (g : GateId)
  /-- Resolve a gate in UNKNOWN (R45). -/
  | resolve (g : GateId)
  /-- Hand a gate change to the listing segments; the mark says that the gate entered FAULT (R42). -/
  | handed (g : GateId) (fault : Bool)
  /-- Judge completeness (R15). -/
  | complete (i : SegId)
  /-- Judge an opening done (R19). -/
  | done (i : SegId)
  deriving DecidableEq, Repr

-- ---------------------------------------------------------------- hold sets

namespace HoldSet

/-- A hold set without entries. -/
def none : HoldSet := Vector.replicate 9 Option.none

/-- The entry of a kind. -/
def entry (h : HoldSet) (k : HoldKind) : Option HoldEntry := h.get k.idx

/-- Is an entry of the kind present? -/
def has (h : HoldSet) (k : HoldKind) : Bool := (h.entry k).isSome

/-- Is the hold set empty? -/
def empty (h : HoldSet) : Bool := allIds fun i => (h.get i).isNone

end HoldSet

-- ---------------------------------------------------------------- gates: readings and demand

/-- The four switch readings (R30). -/
inductive Reading where
  | up | down | mid | both
  deriving DecidableEq, Repr

/-- The switch reading of a gate (R30). -/
def Gate.reading (g : Gate) : Reading :=
  match g.raisedSwitch.level, g.loweredSwitch.level with
  | true, false => .up
  | false, true => .down
  | false, false => .mid
  | true, true => .both

/-- CLOSING and CLOSED hold a gate down (R32). -/
def SegState.shut : SegState → Bool
  | .closing => true
  | .closed => true
  | _ => false

/-- Does a segment hold its gates down? -/
def Road.holdsDown (r : Road) (i : SegId) : Bool :=
  match r.segState i with
  | some st => st.shut
  | none => false

/-- The demand of a gate from its listing segments (R32). -/
def Road.demandOf (r : Road) (g : Gate) : Demand :=
  if g.listing.isEmpty then .lower else if g.listing.any r.holdsDown then .lower else .raise

/-- The gate state that a travel is to reach. -/
def GateState.target : GateState → Option Switch
  | .raising => some .raised
  | .lowering => some .lowered
  | _ => none

/-- A gate in a state, with the drives that the state gives (R31) and the fault cause, check and timer of the entry. -/
def Gate.enter (g : Gate) (st : GateState) (cause : Option GateFault) (check : Option TravelCheck) (timer : Timer) :
    Gate :=
  { g with state := st, cause := cause, check := check, timer := timer,
           raiseDrive := st == .raising, lowerDrive := st == .lowering }

/-- A gate on a fresh travel toward its demand (R33, R35, R36, R45). -/
def Gate.travel (g : Gate) (d : Demand) (check : TravelCheck) : Gate :=
  g.enter (match d with | .raise => .raising | .lower => .lowering) none (some check) (some 0)

/-- A gate at a rest (R37, R45). -/
def Gate.rest (g : Gate) (st : GateState) : Gate := g.enter st none none none

/-- A gate in FAULT with its cause (R41). -/
def Gate.fail (g : Gate) (c : GateFault) : Gate := g.enter .fault (some c) none none

/-- Is a gate LOWERED or in FAULT (R15)? -/
def Gate.downOrFault (g : Gate) : Bool := g.state == .lowered || g.state == .fault

/-- The minimum and maximum travel in ms (R29). -/
def Gate.tMinMs (g : Gate) : Nat := g.tMin * 1000
/-- The maximum travel in ms (R29). -/
def Gate.tMaxMs (g : Gate) : Nat := g.tMax * 1000

/-- What an arrival gives: EARLY below T_min in a CHECKED travel, else the target rest (R37). -/
def Gate.arrive (g : Gate) : Gate :=
  let early := g.check == some .checked && g.timer.getD 0 < g.tMinMs
  if early then g.fail .early
  else match g.state with
    | .raising => g.rest .raised
    | _ => g.rest .lowered

-- ---------------------------------------------------------------- the road within an event

namespace RoadEv

/-- Change the record of a configured segment. -/
def setSeg (e : RoadEv) (i : SegId) (f : Segment → Segment) : RoadEv :=
  { e with road := { e.road with segs := alter e.road.segs i (Option.map f) } }

/-- Change the record of a gate. -/
def setGate (e : RoadEv) (i : GateId) (f : Gate → Gate) : RoadEv :=
  { e with road := { e.road with gates := alter e.road.gates i f } }

/-- A change of a segment's state or hold set: SEGMENT attention, and its signs are selected again (R8). -/
def touch (e : RoadEv) (i : SegId) : RoadEv :=
  { e with flags := e.flags ||| Attn.segment, touched := put e.touched i true }

/-- A gate enters a state: GATE attention, the change is handed to its listing segments (R42, R43), then the rest of
the gate's own step follows. -/
def gateTo (e : RoadEv) (i : GateId) (g : Gate) (rest : List Task) : RoadEv × List Task :=
  let e := e.setGate i fun _ => g
  ({ e with flags := e.flags ||| Attn.gate }, .handed i (g.state == .fault) :: rest)

/-- A gate arrives: FAULT EARLY, or its target rest where the demand is applied again (R37). -/
def arrival (e : RoadEv) (i : GateId) : RoadEv × List Task := e.gateTo i (e.road.gates.get i).arrive [.apply i]

/-- The segments that share a listed gate with a segment, ascending (R19). -/
def neighbours (e : RoadEv) (i : SegId) (gates : List GateId) : List SegId :=
  idsWhere fun j => j != i && gates.any fun g => (e.road.gates.get g).listing.contains j

/-- Warning confirmation: the wait stops and the warning timer starts at the warning interval (R11). -/
def startWarning (sg : Segment) : Segment :=
  { sg with confirmWait := none, warningTimer := some (sg.warningInterval * 1000) }

/-- Judge conditions 1 and 2 of warning confirmation (R11). -/
def judgeWarning (ctx : RoadCtx) (e : RoadEv) (i : SegId) : RoadEv :=
  e.setSeg i fun sg =>
    if sg.state == .warning && sg.warningTimer.isNone && ctx.confirmed.get i then startWarning sg else sg

/-- The record of a segment that enters a state: both warning timers stop, but for the confirmation wait that entry to
WARNING starts; entry to OPENING clears incomplete (R9, R10, R13 to R16, R18). -/
def entered (st : SegState) (sg : Segment) : Segment :=
  { sg with state := st, warningTimer := none,
            confirmWait := if st == .warning then some Config.confirmationWait else none,
            incomplete := if st == .opening then false else sg.incomplete }

/-- A segment enters a state: attention and re-selection (R8), the judgement that the state calls for at entry (R9,
R15, R19), and the demands of its gates, which come first (R32). -/
def enterSeg (ctx : RoadCtx) (e : RoadEv) (i : SegId) (st : SegState) : RoadEv × List Task :=
  match e.road.segs.get i with
  | none => (e, [])
  | some sg =>
    let e := (e.setSeg i (entered st)).touch i
    let e := if st == .warning then judgeWarning ctx e i else e
    let own := match st with
      | .closing => [Task.complete i]
      | .opening => [Task.done i]
      | _ => []
    (e, sg.gates.map Task.demand ++ own ++ (neighbours e i sg.gates).map Task.done)

/-- Is a listed gate done for an opening: RAISED, or demanded LOWER because another listing segment holds it down
(R19)? -/
def gateDone (e : RoadEv) (i : SegId) (g : GateId) : Bool :=
  let gate := e.road.gates.get g
  gate.state == .raised || (gate.demand == .lower && gate.listing.any fun j => j != i && e.road.holdsDown j)

/-- A listing segment acts on a gate change in its own state (R42): CLOSING has its completeness judged (R15), OPENING is
aborted by an entry to FAULT (R20) and else judged done (R19). -/
def handSeg (ctx : RoadCtx) (fault : Bool) (i : SegId) (e : RoadEv) : RoadEv × List Task :=
  match e.road.segState i with
  | some .closing => (e, [.complete i])
  | some .opening => if fault then enterSeg ctx e i .closing else (e, [.done i])
  | _ => (e, [])

/-- A gate change is handed to its listing segments: each acts in its own state, before what follows from any of them
(R20, R42). -/
def handAll (ctx : RoadCtx) (fault : Bool) : List SegId → RoadEv → RoadEv × List Task
  | [], e => (e, [])
  | i :: l, e =>
    let r := handSeg ctx fault i e
    let rest := handAll ctx fault l r.1
    (rest.1, r.2 ++ rest.2)

/-- One task of the chain, and the tasks that it brings about. -/
def doTask (ctx : RoadCtx) (t : Task) (e : RoadEv) : RoadEv × List Task :=
  match t with
  | .demand i =>
    let g := e.road.gates.get i
    let d := e.road.demandOf g
    if d = g.demand then (e, []) else (e.setGate i fun g => { g with demand := d }, [.apply i])
  | .apply i =>
    let g := e.road.gates.get i
    match g.demand, g.state with
    | .lower, .raised => e.gateTo i (g.travel .lower .checked) [.settle i]
    | .lower, .raising => e.gateTo i (g.travel .lower .unchecked) [.settle i]
    | .raise, .lowered => e.gateTo i (g.travel .raise .checked) [.settle i]
    | _, _ => (e, [])
  | .settle i =>
    let g := e.road.gates.get i
    match g.state.target, g.reading with
    | some _, .both => e.gateTo i (g.fail .conflict) []
    | some .raised, .up => e.arrival i
    | some .lowered, .down => e.arrival i
    | _, _ => (e, [])
  | .resolve i =>
    let g := e.road.gates.get i
    if g.state = .unknown then
      match g.reading with
      | .down => e.gateTo i (g.rest .lowered) [.apply i]
      | .up => e.gateTo i (g.rest .raised) [.apply i]
      | .both => e.gateTo i (g.fail .conflict) []
      | .mid => e.gateTo i (g.travel g.demand .unchecked) [.settle i]
    else (e, [])
  | .handed i fault => handAll ctx fault (e.road.gates.get i).listing e
  | .complete i =>
    match e.road.segs.get i with
    | some sg =>
      if sg.state == .closing && sg.gates.all fun g => (e.road.gates.get g).downOrFault then
        let bad := sg.gates.any fun g => (e.road.gates.get g).state == .fault
        enterSeg ctx (e.setSeg i fun sg => { sg with incomplete := bad }) i .closed
      else (e, [])
    | none => (e, [])
  | .done i =>
    match e.road.segs.get i with
    | some sg =>
      if sg.state == .opening && sg.gates.all (e.gateDone i) then enterSeg ctx e i .opened else (e, [])
    | none => (e, [])

/-- The chain: tasks are worked off from the front, and the tasks that one brings about go before the rest. The bound
is above the longest chain of R42 (log 25). -/
def run (ctx : RoadCtx) : Nat → List Task → RoadEv → RoadEv
  | 0, _, e => e
  | _ + 1, [], e => e
  | n + 1, t :: rest, e =>
    let r := doTask ctx t e
    run ctx n (r.2 ++ rest) r.1

/-- Work off the tasks that a step brought about. -/
def chain (ctx : RoadCtx) (r : RoadEv × List Task) : RoadEv := run ctx Config.cascadeFuel r.2 r.1

-- ---------------------------------------------------------------- holds (R5 to R9, R13, R14, R20)

/-- The state that an arrival leads to, from the segment's state; `none` where the state stays (R9, R14, R20). -/
def arrivalState (sg : Segment) (k : HoldKind) : Option SegState :=
  match sg.state with
  | .opened => if k.urgent || sg.warningInterval == 0 then some .closing else some .warning
  | .warning => if k.urgent then some .closing else none
  | .opening => some .closing
  | _ => none

/-- Write the entry of a kind into a segment's hold set, with the attention and re-selection of the change (R8). -/
def writeEntry (e : RoadEv) (i : SegId) (k : HoldKind) (entry : Option HoldEntry) : RoadEv :=
  (e.setSeg i fun sg => { sg with holds := put sg.holds k.idx entry }).touch i

/-- An arrival: the entry is created and the segment state machine handles it in the same event (R5, R9). -/
def createEntry (ctx : RoadCtx) (i : SegId) (k : HoldKind) (reason : Option Byte) (sources : List Nat) (e : RoadEv) :
    RoadEv :=
  match e.road.segs.get i with
  | none => e
  | some sg =>
    let e := e.writeEntry i k (some { since := ctx.since, reason := reason, sources := sources })
    match arrivalState sg k with
    | some st => chain ctx (enterSeg ctx e i st)
    | none => e

/-- The entry of a kind is removed; a hold set that empties returns a WARNING segment to OPEN (R7, R13). -/
def deleteEntry (ctx : RoadCtx) (i : SegId) (k : HoldKind) (e : RoadEv) : RoadEv :=
  match e.road.segs.get i with
  | none => e
  | some sg =>
    if sg.holds.has k then
      let e := e.writeEntry i k none
      let left : HoldSet := put sg.holds k.idx none
      if left.empty && sg.state == .warning then chain ctx (enterSeg ctx e i .opened) else e
    else e

/-- Place a kind without sources: an arrival when it is absent, else its reason code is replaced (R5, R6, R22). -/
def place (ctx : RoadCtx) (k : HoldKind) (reason : Option Byte) (i : SegId) (e : RoadEv) : RoadEv :=
  match e.road.segs.get i with
  | none => e
  | some sg =>
    match sg.holds.entry k with
    | none => createEntry ctx i k reason [] e
    | some old => if old.reason = reason then e else e.writeEntry i k (some { old with reason := reason })

/-- An owning unit adds a source (R5, R6). -/
def addSource (ctx : RoadCtx) (k : HoldKind) (source : Nat) (i : SegId) (e : RoadEv) : RoadEv :=
  match e.road.segs.get i with
  | none => e
  | some sg =>
    match sg.holds.entry k with
    | none => createEntry ctx i k none [source] e
    | some old =>
      if old.sources.contains source then e
      else e.writeEntry i k (some { old with sources := insertAsc source old.sources })

/-- An owning unit removes a source; the entry goes with its last source (R7). -/
def removeSource (ctx : RoadCtx) (k : HoldKind) (source : Nat) (i : SegId) (e : RoadEv) : RoadEv :=
  match e.road.segs.get i with
  | none => e
  | some sg =>
    match sg.holds.entry k with
    | none => e
    | some old =>
      if old.sources.contains source then
        let left := removeAsc source old.sources
        if left.isEmpty then deleteEntry ctx i k e else e.writeEntry i k (some { old with sources := left })
      else e

/-- The same step at each of several segments, in the order of the list. -/
def each (f : SegId → RoadEv → RoadEv) (l : List SegId) (e : RoadEv) : RoadEv := l.foldl (fun e i => f i e) e

-- ---------------------------------------------------------------- segment events

/-- A REOPEN takes a segment: OPENING, incomplete cleared (R18, R19). -/
def reopen (ctx : RoadCtx) (i : SegId) (e : RoadEv) : RoadEv := chain ctx (enterSeg ctx e i .opening)

/-- The confirmation wait expires: condition 3 of warning confirmation (R11). -/
def waitExpiry (i : SegId) (e : RoadEv) : RoadEv := e.setSeg i startWarning

/-- The warning timer expires: CLOSING (R12). -/
def warningExpiry (ctx : RoadCtx) (i : SegId) (e : RoadEv) : RoadEv := chain ctx (enterSeg ctx e i .closing)

-- ---------------------------------------------------------------- gate events

/-- Record the filtered level of one end switch (R30, R64). -/
def setSwitch (sw : Switch) (level : Bool) (g : Gate) : Gate :=
  match sw with
  | .raised => { g with raisedSwitch := ⟨level, 0⟩ }
  | .lowered => { g with loweredSwitch := ⟨level, 0⟩ }

/-- The gate drive handles a change of one end switch, already recorded, in the gate's state (R37, R39 to R41). -/
def switchStep (i : GateId) (sw : Switch) (level : Bool) (e : RoadEv) : RoadEv × List Task :=
  let g := e.road.gates.get i
  let rests (home : Switch) : RoadEv × List Task :=
    if sw = home && !level then e.gateTo i (g.fail .displaced) []
    else if g.reading = .both then e.gateTo i (g.fail .conflict) []
    else (e, [])
  let travels (target : Switch) : RoadEv × List Task :=
    if g.reading = .both then e.gateTo i (g.fail .conflict) []
    else if sw = target && level then e.arrival i
    else (e, [])
  match g.state with
  | .raised => rests .raised
  | .lowered => rests .lowered
  | .raising => travels .raised
  | .lowering => travels .lowered
  | .unknown => (e, [])
  | .fault => (e, [])

/-- An accepted change of an end switch (R30, R64). -/
def switchChange (ctx : RoadCtx) (i : GateId) (sw : Switch) (level : Bool) (e : RoadEv) : RoadEv :=
  chain ctx (switchStep i sw level (e.setGate i (setSwitch sw level)))

/-- The travel timer reaches T_max: FAULT STALL (R38). -/
def stall (ctx : RoadCtx) (i : GateId) (e : RoadEv) : RoadEv :=
  chain ctx (e.gateTo i ((e.road.gates.get i).fail .stall) [])

/-- GATE_FAULT_CLEAR: the gate enters UNKNOWN and is resolved at once (R44, R45). -/
def clearFault (ctx : RoadCtx) (i : GateId) (e : RoadEv) : RoadEv :=
  chain ctx (e.gateTo i ((e.road.gates.get i).enter .unknown none none none) [.resolve i])

/-- Every gate, put in UNKNOWN by a load, is resolved, ascending (R46, R47). -/
def resolveAll (ctx : RoadCtx) (e : RoadEv) : RoadEv :=
  (List.finRange 6).foldl (fun e i => chain ctx (e, [.resolve i])) e

end RoadEv

/-- The travel timer of a gate has run to T_max (R38). -/
def Gate.timedOut (g : Gate) : Bool :=
  g.state.target.isSome && (match g.timer with | some e => e ≥ g.tMaxMs | none => false)

end Sys2Proof.Machine
end

