-- ==== Sys2Proof/Machine/Compose.lean ====
section
/-! DEFINITION. The page library as the selector reads it, the rendering of field values and the composition of pages
(R141 to R144). -/

namespace Sys2Proof.Machine

/-- 80 codes of 32: what an unreadable page reads as (R141). -/
def blankPage : List Byte := List.replicate 80 32

/-- The 80 codes of a library page; `none` when its record is blank or failing (R141). -/
def Store.pageCodes (st : Store) (page : Nat) : Option (List Byte) :=
  if h : page < 128 then
    match st.library.get ⟨page, h⟩ with
    | .valid bytes => some (bytes.take 80)
    | _ => none
  else none

/-- A page as the selector reads it (R141). -/
def Store.readPage (st : Store) (page : Nat) : List Byte := (st.pageCodes page).getD blankPage

/-- The decimal digits of a number below 10 ^ fuel, without leading zeros. -/
def digits : Nat → Nat → List Byte
  | 0, _ => []
  | fuel + 1, n =>
    if n < 10 then [BitVec.ofNat 8 (48 + n)] else digits fuel (n / 10) ++ [BitVec.ofNat 8 (48 + n % 10)]

/-- Right-aligned in five characters, with leading spaces (R143). -/
def padFive (l : List Byte) : List Byte := List.replicate (5 - l.length) 32 ++ l

/-- A value held between two limits. -/
def clampInt (lo hi v : Int) : Int := if v < lo then lo else if hi < v then hi else v

/-- A minus sign for a negative value (R143). -/
def minusSign (v : Int) : List Byte := if v < 0 then [45] else []

/-- Two digits with a leading zero. -/
def twoDigits (n : Nat) : List Byte := [BitVec.ofNat 8 (48 + n / 10), BitVec.ofNat 8 (48 + n % 10)]

/-- The five characters of a field value (R143). -/
def renderField (f : Field) : List Byte :=
  match f.format with
  | .integer =>
    let v := clampInt (-9999) 99999 f.value
    padFive (minusSign v ++ digits 5 v.natAbs)
  | .tenths =>
    let v := clampInt (-999) 9999 f.value
    padFive (minusSign v ++ digits 3 (v.natAbs / 10) ++ [46] ++ digits 1 (v.natAbs % 10))
  | .time =>
    let m := (f.value % 1440).toNat
    twoDigits (m / 60) ++ [58] ++ twoDigits (m % 60)

/-- The five characters of a field; an absent one gives five spaces (R143). -/
def renderOpt : Option Field → List Byte
  | none => List.replicate 5 32
  | some f => renderField f

/-- One block: `run` is what is left of a run that has begun, and a run is cut off at the block end (R142). -/
def composeBlock (a b : List Byte) : List Byte → List Byte → List Byte
  | _, [] => []
  | r :: run, _ :: codes => r :: composeBlock a b run codes
  | [], c :: codes =>
    match (if c = 1 then a else if c = 2 then b else [c]) with
    | [] => c :: composeBlock a b [] codes
    | r :: run => r :: composeBlock a b run codes

/-- The codes of one block of a page. -/
def blockOf (codes : List Byte) (b : Fin 4) : List Byte := (codes.drop (20 * b.val)).take 20

/-- The composed page of a reference: its 80 codes (R142, R144). -/
def compose (page : List Byte) (ref : PageRef) : List Byte :=
  (List.finRange 4).flatMap fun b => composeBlock (renderOpt ref.fieldA) (renderOpt ref.fieldB) [] (blockOf page b)

end Sys2Proof.Machine
end

