-- ==== Sys2Proof/Machine/Selection.lean ====
section
/-! DEFINITION. The sign selector's choice: class values, the desired class, its page reference, urgency, and what a
re-selection and a recomposition do to a sign (R146 to R154). -/

namespace Sys2Proof.Machine

/-- The largest number of a list; absent for an empty list. -/
def highest : List Nat → Option Nat
  | [] => none
  | x :: xs => some (xs.foldl max x)

/-- The smallest number of a list; absent for an empty list. -/
def lowest : List Nat → Option Nat
  | [] => none
  | x :: xs => some (xs.foldl min x)

/-- The value of a temperature that is neither INVALID nor absent. -/
def Temp.toOption : Temp → Option Int
  | .value t => some t
  | _ => none

/-- A page class of full closure, warning or closure: the classes of an urgent sign (R11, R151). -/
def PageClass.urgent : PageClass → Bool
  | .full | .closingSoon | .closedAvalanche | .closedWeather | .closedNotice | .closedGeneral => true
  | _ => false

/-- The place of a class in the page map and its code in replies (R146, R181). -/
def PageClass.idx : PageClass → Fin 13
  | .full => 0 | .closingSoon => 1 | .closedAvalanche => 2 | .closedWeather => 3 | .closedNotice => 4
  | .closedGeneral => 5 | .avalancheWarning => 6 | .ban => 7 | .chains => 8 | .noticeAhead => 9 | .advisory => 10
  | .default => 11 | .override => 12

/-- The class that a hold kind leads to (R149). -/
def closedClassOf : HoldKind → PageClass
  | .detector | .zone | .avalanche => .closedAvalanche
  | .weather => .closedWeather
  | .notice => .closedNotice
  | .full | .valley | .panel | .startup => .closedGeneral

/-- The order in which the leading hold kind is sought (R149). -/
def leadingOrder : List HoldKind :=
  [.full, .detector, .zone, .avalanche, .weather, .notice, .valley, .panel, .startup]

/-- The leading hold kind of a hold set (R149). -/
def HoldSet.leading (h : HoldSet) : Option HoldKind := leadingOrder.find? h.has

/-- The class of priority 2; `none` for a segment in OPEN (R149). -/
def Segment.closureClass (sg : Segment) : Option PageClass :=
  match sg.state with
  | .opened => none
  | .warning => some .closingSoon
  | .opening => some .closedGeneral
  | .closing | .closed =>
    match sg.holds.leading with
    | none => some .closedGeneral
    | some k => some (closedClassOf k)

namespace State

/-- The site of a segment. -/
def siteOf (s : State) (sg : Segment) : Option Site := sg.site.map s.sites.get

/-- The effective levels of the zones that expose a segment and pass a test. -/
def zoneLevels (s : State) (sg : Segment) (p : Zone → Bool) : List Nat :=
  ((sg.zones.map s.zoneUnit.zones.get).filter p).map (·.effective)

/-- The notice chosen for NOTICE_AHEAD: the first ANNOUNCED notice listing the segment (R148). -/
def noticeAhead (s : State) (i : SegId) : Option Notice :=
  s.notices.list.find? fun n => n.state == .announced && n.segs.contains i

/-- The earliest end among the notices that are sources of a segment's NOTICE entry (R147). -/
def earliestEnd (s : State) (sg : Segment) : Option Nat :=
  match sg.holds.entry .notice with
  | none => none
  | some e => lowest ((s.notices.list.filter fun n => e.sources.contains n.id).filterMap (·.stop))

/-- The desired class of a sign serving segment `i` (R148). -/
def chooseClass (s : State) (sign : Sign) (i : SegId) (sg : Segment) : PageClass :=
  if s.latch.state != .clear then .full
  else match sg.closureClass with
    | some c => c
    | none =>
      if sign.override.isSome then .override
      else if sg.zones.any fun z => (s.zoneUnit.zones.get z).warning then .avalancheWarning
      else if sg.restriction.ban then .ban
      else if sg.restriction.chains then .chains
      else if (s.noticeAhead i).isSome then .noticeAhead
      else if sg.restriction.advisory ≥ 2 then .advisory
      else .default

/-- Whole m/s of a wind value (R146, R147). -/
def wholeWind (v : Option Nat) : Option Int := v.map fun x => ((x / 10 : Nat) : Int)

/-- The class value of a chosen class (R147). -/
def classValue (s : State) (c : PageClass) (i : SegId) (sg : Segment) : Option Int :=
  match c with
  | .closedNotice => (s.earliestEnd sg).map Int.ofNat
  | .avalancheWarning => (highest (s.zoneLevels sg (·.warning))).map Int.ofNat
  | .ban => (s.siteOf sg).bind fun t => wholeWind t.vGust
  | .noticeAhead => (s.noticeAhead i).map fun n => Int.ofNat n.start
  | .advisory => (s.siteOf sg).bind fun t => t.ts.toOption
  | _ => none

/-- The value of a field source for a sign serving segment `i` (R146). -/
def sourceValue (s : State) (src : Source) (c : PageClass) (i : SegId) (sg : Segment) : Option Int :=
  match src with
  | .none => none
  | .classValue => s.classValue c i sg
  | .segmentId => some i.val
  | .advisory => some sg.restriction.advisory
  | .surfaceTemp => (s.siteOf sg).bind fun t => t.ts.toOption
  | .airTemp => (s.siteOf sg).bind fun t => t.ta.toOption
  | .gust => (s.siteOf sg).bind fun t => wholeWind t.vGust
  | .meanWind => (s.siteOf sg).bind fun t => wholeWind t.vMean
  | .precip => (s.siteOf sg).bind fun t => t.p.map Int.ofNat
  | .zoneLevel => (highest (s.zoneLevels sg fun _ => true)).map Int.ofNat

/-- A field of a reference: the entry's format with the value of its source, or absent (R150). -/
def buildField (s : State) (format : Option Format) (src : Source) (c : PageClass) (i : SegId) (sg : Segment) :
    Option Field :=
  match format, s.sourceValue src c i sg with
  | some f, some v => some { format := f, value := v }
  | _, _ => none

/-- The page map's entry for a class; OVERRIDE has none (R146). -/
def mapEntry (s : State) (c : PageClass) : MapEntry :=
  if h : c.idx.val < 12 then s.board.pageMap.get ⟨c.idx.val, h⟩ else State.idleMapEntry

/-- The desired reference of a class (R150). -/
def buildRef (s : State) (sign : Sign) (c : PageClass) (i : SegId) (sg : Segment) : PageRef :=
  match c, sign.override with
  | .override, some o => o
  | _, _ =>
    let e := s.mapEntry c
    let page := match c with
      | .noticeAhead => (((s.noticeAhead i).bind fun n => n.page).getD e.page)
      | _ => e.page
    { page := page, flash := e.flash,
      fieldA := s.buildField e.formatA e.sourceA c i sg, fieldB := s.buildField e.formatB e.sourceB c i sg }

/-- The choice of a sign: class and reference; absent where its segment is not configured (R148 to R150, R156). -/
def choose (s : State) (sign : Sign) : Option (PageClass × PageRef) :=
  (s.road.segs.get sign.segment).map fun sg =>
    let c := s.chooseClass sign sign.segment sg
    (c, s.buildRef sign c sign.segment sg)

/-- What the selector records for a new reference (R144, R150). -/
def desiredOf (s : State) (c : PageClass) (ref : PageRef) : Desired :=
  let codes := compose (s.store.readPage ref.page) ref
  { cls := c, ref := ref, codes := codes, sum := byteSum codes }

end State

/-- The desired page matches the confirmed page (R153). -/
def matchesConfirmed (d : Desired) (contentMark : Bool) (r : LineRecord) : Bool :=
  match r.confirmed with
  | none => false
  | some c => c.ref == d.ref && c.sum == d.sum && !contentMark

/-- The needing-service flag after a new reference or a recomposition (R153). -/
def judgeNeeds (d : Desired) (contentMark : Bool) (r : LineRecord) (needs : Bool) : Bool :=
  if matchesConfirmed d contentMark r then (if r.state == .current then false else needs) else true

/-- The board within an event: the board, the attention that the event has set, and the signs whose outcome or change
of desired page is handed to the segment table (R152, R171). -/
structure BoardEv where
  board  : Board
  flags  : FlagSet
  handed : Vector Bool 12

namespace BoardEv

/-- Change the record of a sign. -/
def setSign (e : BoardEv) (i : SignId) (f : Sign → Sign) : BoardEv :=
  { e with board := { e.board with signs := alter e.board.signs i f } }

/-- Hand a sign's outcome or change of desired page to the segment table (R152, R171). -/
def hand (e : BoardEv) (i : SignId) : BoardEv := { e with handed := put e.handed i true }

/-- A change of the desired page of the target of the transfer in flight sets change pending (R170). -/
def changePage (e : BoardEv) (i : SignId) : BoardEv :=
  let mark := fun (t : Transfer) => if t.target = i then { t with changePending := true } else t
  { e with board := { e.board with line := { e.board.line with transfer := e.board.line.transfer.map mark } } }

/-- Record a choice for a sign. A new reference is recorded with its class, urgency and composition, judged for
service and handed on; an equal one leaves all of these as they were (R152, R153, log 9). -/
def select (s : State) (i : SignId) (e : BoardEv) : BoardEv :=
  let sign := e.board.signs.get i
  let line := e.board.line.records.get i
  match s.choose sign with
  | none => e
  | some (c, ref) =>
    match sign.desired with
    | some d =>
      if d.ref = ref then
        if matchesConfirmed d sign.contentMark line && line.state == .current
          then e.setSign i fun sg => { sg with needs := false } else e
      else
        let d := s.desiredOf c ref
        ((e.setSign i fun sg => { sg with desired := some d, urgent := c.urgent,
                                          needs := judgeNeeds d sg.contentMark line sg.needs }).changePage i).hand i
    | none =>
      let d := s.desiredOf c ref
      ((e.setSign i fun sg => { sg with desired := some d, urgent := c.urgent,
                                        needs := judgeNeeds d sg.contentMark line sg.needs }).changePage i).hand i

/-- Select each of several signs again, ascending, with the state that the event leaves (R152). -/
def selectAll (s : State) (signs : List SignId) (e : BoardEv) : BoardEv := signs.foldl (fun e i => select s i e) e

/-- Recompose a sign's desired page after a change of the library: a page that changes sets the content mark, is
judged for service and is handed to the sign line controller alone (R154). -/
def recompose (st : Store) (i : SignId) (e : BoardEv) : BoardEv :=
  let sign := e.board.signs.get i
  match sign.desired with
  | none => e
  | some d =>
    let codes := compose (st.readPage d.ref.page) d.ref
    if codes = d.codes then e
    else
      let d := { d with codes := codes, sum := byteSum codes }
      (e.setSign i fun sg => { sg with desired := some d, contentMark := true,
                                       needs := judgeNeeds d true (e.board.line.records.get i) sg.needs }).changePage i

/-- Recompose every sign whose desired reference names a page that passes a test, ascending (R154). -/
def recomposeWhere (st : Store) (p : Nat → Bool) (e : BoardEv) : BoardEv :=
  (List.finRange 12).foldl
    (fun e i => match (e.board.signs.get i).desired with
      | some d => if p d.ref.page then recompose st i e else e
      | none => e) e

end BoardEv

end Sys2Proof.Machine
end

