-- ==== Sys2Proof/Machine/SignLine.lean ====
section
/-! DEFINITION. The sign line controller (chapter 9): frames, the arbiter, the exchange of a transfer and of a probe,
faults and abandons, and what a reset of the line does. -/

namespace Sys2Proof.Machine

/-- What a sign answers (R158). -/
inductive SignReply where
  | ready (width : Width) (sum : Nat)
  | take
  | pause
  | refuse
  | shown (sum : Nat)
  deriving DecidableEq, Repr

/-- How a frame of the part fails: a REFUSE or an unfitting reply, or a silence (R159, R166). -/
inductive Failure where
  | refused
  | silent
  deriving DecidableEq, Repr

/-- The check of a sign line frame: two's complement modulo 256 of the sum of bytes 1 to 3+n (R158). -/
def signCheck (l : List Byte) : Byte := BitVec.ofNat 8 (256 - byteSum l % 256)

/-- A sign line frame (R158). -/
def signFrame (address kind : Byte) (body : List Byte) : List Byte :=
  let head := address :: kind :: BitVec.ofNat 8 body.length :: body
  0x5A :: head ++ [signCheck head]

/-- SELECT with its resume flag (R158). -/
def selectFrame (i : SignId) (resume : Bool) : List Byte := signFrame (BitVec.ofNat 8 i.val) 0x01 [encodeFlag resume]

/-- The code of a unit's part (R158). -/
def Part.code : Part → Byte
  | .whole => 0 | .first => 1 | .second => 2

/-- The codes of a unit: a whole block, or one half of it (R158). -/
def unitCodes (page : List Byte) (u : PageUnit) : List Byte :=
  match u.part with
  | .whole => blockOf page u.block
  | .first => (blockOf page u.block).take 10
  | .second => (blockOf page u.block).drop 10

/-- UNIT (R158, R166). -/
def unitFrame (i : SignId) (page : List Byte) (u : PageUnit) : List Byte :=
  signFrame (BitVec.ofNat 8 i.val) 0x02 ([BitVec.ofNat 8 u.block.val, u.part.code] ++ unitCodes page u)

/-- SHOW with its flash flag (R158). -/
def showFrame (i : SignId) (flash : Bool) : List Byte := signFrame (BitVec.ofNat 8 i.val) 0x03 [encodeFlag flash]

/-- PROBE (R158). -/
def probeFrame (i : SignId) : List Byte := signFrame (BitVec.ofNat 8 i.val) 0x04 []

namespace Transfer

/-- The frame that the phase of a transfer calls for (R164, R166 to R168). -/
def frame (t : Transfer) : List Byte :=
  match t.phase with
  | .selecting => selectFrame t.target false
  | .resuming => selectFrame t.target true
  | .showing => showFrame t.target t.page.ref.flash
  | .sendingUnits =>
    match t.units[t.next]? with
    | some u => unitFrame t.target t.page.codes u
    | none => showFrame t.target t.page.ref.flash

/-- The phase after a unit was taken, or after the order was built: the next unit, or SHOWING at the order's end
(R164, R166, R168). -/
def goOn (t : Transfer) (units : List PageUnit) (next : Nat) : Transfer :=
  { t with units := units, next := next, retryUsed := false, silentOnce := false,
           phase := if next < units.length then .sendingUnits else .showing }

/-- A new transfer of a page to a sign; until its first READY the unit order is empty and the next unit 0 (R164,
log 26). -/
def new (i : SignId) (d : Desired) : Transfer :=
  { target := i, page := { ref := d.ref, codes := d.codes, sum := d.sum }, phase := .selecting, units := [],
    next := 0, retryUsed := false, breaks := 0, mismatchUsed := false, changePending := false,
    silentOnce := false }

end Transfer

/-- The blocks counted as changed at the READY of a SELECT with resume flag 0 (R164, R168). -/
def changedBlocks (t : Transfer) (r : LineRecord) (width : Width) (sum : Nat) : List (Fin 4) :=
  match r.confirmed with
  | none => List.finRange 4
  | some c =>
    if t.mismatchUsed || !(sum == c.sum) || !(width == r.width) then List.finRange 4
    else idsWhere fun b => !(blockOf t.page.codes b == blockOf c.codes b)

/-- The order L, L xor 2, L xor 1, L xor 3 (R165). -/
def blockOrder (lead : Fin 4) : List (Fin 4) :=
  match lead with
  | 0 => [0, 2, 1, 3]
  | 1 => [1, 3, 0, 2]
  | 2 => [2, 0, 3, 1]
  | 3 => [3, 1, 2, 0]

/-- The units of one block on a sign of a width (R165). -/
def blockUnits (width : Width) (b : Fin 4) : List PageUnit :=
  match width with
  | .full => [⟨b, .whole⟩]
  | .half => [⟨b, .first⟩, ⟨b, .second⟩]

/-- The unit order of a set of changed blocks, given ascending (R165). -/
def unitOrder (width : Width) (changed : List (Fin 4)) : List PageUnit :=
  match changed with
  | [] => []
  | lead :: _ => ((blockOrder lead).filter changed.contains).flatMap (blockUnits width)

/-- The signs in the order of id, starting after a mark and wrapping from 11 to 0 (R162, R163). -/
def afterMark (mark : SignId) : List SignId := (List.finRange 12).map fun k => mark + 1 + k

namespace Board

/-- Change the line. -/
def setLine (b : Board) (f : SignLine → SignLine) : Board := { b with line := f b.line }

/-- Change the line record of a sign. -/
def setRecord (b : Board) (i : SignId) (f : LineRecord → LineRecord) : Board :=
  b.setLine fun l => { l with records := alter l.records i f }

/-- Change the sign record of a sign. -/
def setSign (b : Board) (i : SignId) (f : Sign → Sign) : Board := { b with signs := alter b.signs i f }

/-- Go on with a transfer: its context, and the frame that it calls for, whose reply window is not yet open (R159). -/
def send (b : Board) (t : Transfer) : Board :=
  b.setLine fun l => { l with transfer := some t, sent := some ⟨t.frame, none⟩ }

/-- End whatever is in flight: no context, no probe, no frame waited on (R161, R169, R170, R172). -/
def free (b : Board) : Board := b.setLine fun l => { l with transfer := none, probing := none, sent := none }

/-- Eligible for a transfer (R162). -/
def eligible (b : Board) (i : SignId) : Bool :=
  let r := b.line.records.get i
  let sign := b.signs.get i
  sign.needs && sign.desired.isSome && (r.state == .stale || r.state == .current)

/-- A probe is due (R163). -/
def probeDue (b : Board) (i : SignId) : Bool :=
  let r := b.line.records.get i
  r.state == .fault && r.probe == .expired

/-- The line is free (R161). -/
def isFree (b : Board) : Bool := b.line.transfer.isNone && b.line.probing.isNone

/-- The sign that a transfer goes to: the first urgent eligible sign after the last-served mark, else the first eligible
one (R162). -/
def nextSign (b : Board) : Option SignId :=
  let order := afterMark b.line.lastServed
  match order.find? fun i => b.eligible i && (b.signs.get i).urgent with
  | some i => some i
  | none => order.find? b.eligible

/-- A transfer begins (R164). -/
def begin (b : Board) (i : SignId) : Board :=
  match (b.signs.get i).desired with
  | none => b
  | some d =>
    ((b.setRecord i fun r => { r with state := .sending }).setLine fun l => { l with lastServed := i }).send
      (Transfer.new i d)

/-- A probe is sent; its timer stays stopped until the outcome (R163, log 26). -/
def sendProbe (b : Board) (i : SignId) : Board :=
  (b.setRecord i fun r => { r with probe := .stopped }).setLine fun l =>
    { l with probing := some i, probeMark := i, sent := some ⟨probeFrame i, none⟩ }

/-- The arbiter acts on a free line (R162, R163). -/
def arbitrate (b : Board) : Board :=
  if b.isFree then
    match b.nextSign with
    | some i => b.begin i
    | none =>
      match (afterMark b.line.probeMark).find? b.probeDue with
      | some i => b.sendProbe i
      | none => b
  else b

/-- A fresh probe timer (R163). -/
def freshProbe : ProbeTimer := .running Config.probeInterval

end Board

namespace BoardEv

/-- An event that has done nothing yet. -/
def start (b : Board) : BoardEv := { board := b, flags := 0, handed := Vector.replicate 12 false }

/-- Change the board. -/
def on (e : BoardEv) (f : Board → Board) : BoardEv := { e with board := f e.board }

/-- A transfer ends in FAULT (R169, R171). -/
def fail (e : BoardEv) (i : SignId) (cause : SignFault) : BoardEv :=
  let e := e.on fun b =>
    b.free.setRecord i fun r => { r with state := .fault, cause := some cause, probe := Board.freshProbe }
  { e with flags := e.flags ||| Attn.sign }.hand i

/-- A transfer is abandoned (R170). -/
def abandon (e : BoardEv) (i : SignId) : BoardEv :=
  e.on fun b => (b.free.setRecord i fun r => { r with state := .stale }).setSign i fun s => { s with needs := true }

/-- A transfer ends with the sign CURRENT and its page confirmed (R168, R170). -/
def confirm (e : BoardEv) (t : Transfer) : BoardEv :=
  (e.on fun b =>
    (b.free.setRecord t.target fun r => { r with state := .current, confirmed := some t.page }).setSign t.target
      fun s => { s with contentMark := false, needs := t.changePending }).hand t.target

/-- A failure of the frame of a transfer: the frame is sent again, or the transfer ends. With a change pending any reply and
the first silence abandon it, also where a REFUSE has used the retry (R166, R169, R170, log 22). -/
def failFrame (e : BoardEv) (t : Transfer) (f : Failure) : BoardEv :=
  match f with
  | .refused =>
    if t.changePending then e.abandon t.target
    else if t.retryUsed then e.fail t.target .rejected
    else e.on fun b => b.send { t with retryUsed := true }
  | .silent =>
    if t.changePending && !t.silentOnce then e.abandon t.target
    else if t.changePending || t.retryUsed then e.fail t.target .noReply
    else e.on fun b => b.send { t with retryUsed := true, silentOnce := true }

/-- A probe that is not answered with READY: the probe timer restarts at 60 s (R163, R172). -/
def failProbe (e : BoardEv) (i : SignId) : BoardEv :=
  e.on fun b => b.free.setRecord i fun r => { r with probe := Board.freshProbe }

/-- A probe answered with READY: the sign leaves FAULT (R171, R172). -/
def recover (e : BoardEv) (i : SignId) (width : Width) : BoardEv :=
  let e := e.on fun b =>
    (b.free.setRecord i fun r =>
      { r with state := .stale, cause := none, probe := .stopped, width := width }).setSign i
      fun s => { s with needs := true }
  { e with flags := e.flags ||| Attn.sign }.hand i

/-- A READY to a SELECT of either kind; its width is recorded, also where the transfer is then abandoned (R164, R167,
R170, log 23). -/
def ready (e : BoardEv) (t : Transfer) (width : Width) (sum : Nat) : BoardEv :=
  let r := e.board.line.records.get t.target
  let e := e.on fun b => b.setRecord t.target fun r => { r with width := width }
  if t.changePending then e.abandon t.target
  else match t.phase with
    | .resuming => e.on fun b => b.send (t.goOn t.units t.next)
    | _ => e.on fun b => b.send (t.goOn (unitOrder width (changedBlocks t r width sum)) 0)

/-- A TAKE of a unit (R166, R170). -/
def takeUnit (e : BoardEv) (t : Transfer) : BoardEv :=
  if t.changePending then e.abandon t.target else e.on fun b => b.send (t.goOn t.units (t.next + 1))

/-- A PAUSE of a unit: a break (R167, R170). -/
def pauseUnit (e : BoardEv) (t : Transfer) : BoardEv :=
  if t.changePending then e.abandon t.target
  else if t.breaks ≥ 8 then e.fail t.target .stalled
  else e.on fun b => b.send { t with breaks := t.breaks + 1, phase := .resuming, retryUsed := false, silentOnce := false }

/-- A SHOWN with the displayed sum (R168, R170). -/
def shown (e : BoardEv) (t : Transfer) (sum : Nat) : BoardEv :=
  if sum = t.page.sum then e.confirm t
  else if t.changePending then e.abandon t.target
  else if t.mismatchUsed then e.fail t.target .mismatch
  else e.on fun b =>
    b.send { t with
      mismatchUsed := true, phase := .selecting, units := [], next := 0, retryUsed := false, silentOnce := false }

/-- A reply taken within the window: fitting, or counted as a REFUSE of the frame sent (R159, R166 to R168, R172). -/
def reply (e : BoardEv) (r : SignReply) : BoardEv :=
  match e.board.line.probing, e.board.line.transfer with
  | some i, _ =>
    match r with
    | .ready width _ => e.recover i width
    | _ => e.failProbe i
  | none, some t =>
    match t.phase, r with
    | .selecting, .ready width sum => e.ready t width sum
    | .resuming, .ready width sum => e.ready t width sum
    | .sendingUnits, .take => e.takeUnit t
    | .sendingUnits, .pause => e.pauseUnit t
    | .showing, .shown sum => e.shown t sum
    | _, _ => e.failFrame t .refused
  | none, none => e

/-- The silence of a frame (R159, R166, R172). -/
def silence (e : BoardEv) : BoardEv :=
  match e.board.line.probing, e.board.line.transfer with
  | some i, _ => e.failProbe i
  | none, some t => e.failFrame t .silent
  | none, none => e

end BoardEv

/-- The sign of the frame last sent: of the probe, or of the transfer (R158). -/
def SignLine.addressed (l : SignLine) : Option SignId :=
  match l.probing with
  | some i => some i
  | none => l.transfer.map (·.target)

/-- A reply window is open (R159). -/
def SignLine.windowOpen (l : SignLine) : Bool :=
  match l.sent with
  | some f => f.window.isSome
  | none => false

/-- A reply of a sign is taken: a window is open, and the sign is the one that the frame last sent addressed (R158). -/
def SignLine.takes (l : SignLine) (i : SignId) : Bool := l.windowOpen && l.addressed == some i

/-- The last byte of the frame leaves: its reply window opens (R159, log 33). The frame is the one sent last: one whose bytes
were still leaving when a field restart, a COMMIT or a hardware reset ended its transfer or probe is cut off (log 45). -/
def SignLine.openWindow (l : SignLine) : SignLine :=
  { l with sent := l.sent.map fun f => if f.window.isNone then { f with window := some Config.replyWindow } else f }

/-- The reply window has run out (R159). -/
def SignLine.windowDue (l : SignLine) : Bool :=
  match l.sent with
  | some f => f.window.due
  | none => false

/-- The reply that the bytes of a received frame carry: the address, the check, the kind and the length must hold
(R158, log 34). -/
def parseReply (frame : List Byte) : Option (SignId × SignReply) :=
  match frame with
  | start :: address :: kind :: n :: rest =>
    let body := rest.take n.toNat
    let sound := start == 0x5A && rest.length == n.toNat + 1
      && (byteSum (address :: kind :: n :: rest)) % 256 == 0 && address.toNat ≥ 128
    if sound then
      match idOf 12 (address - 0x80) with
      | none => none
      | some i =>
        if kind = 0x11 then
          match body with
          | [w, a, b] =>
            (decodeFlag w).map fun half => (i, .ready (if half then .half else .full) (joinWord16 a b).toNat)
          | _ => none
        else if kind = 0x12 then (if body = [] then some (i, .take) else none)
        else if kind = 0x13 then (if body = [] then some (i, .pause) else none)
        else if kind = 0x14 then (if body = [] then some (i, .refuse) else none)
        else if kind = 0x15 then
          match body with
          | [a, b] => some (i, .shown (joinWord16 a b).toNat)
          | _ => none
        else none
    else none
  | _ => none

namespace Board

/-- End what is in flight; the probe timer of a sign whose probe awaited its reply restarts at 60 s (R174). -/
def freeAtRestart (b : Board) : Board :=
  match b.line.probing with
  | some i => b.free.setRecord i fun r => { r with probe := freshProbe }
  | none => b.free

/-- A field restart on the line: whatever is in flight ends, and every sign not in FAULT becomes STALE and needs
service (R174). -/
def restart (b : Board) : Board :=
  let b := b.freeAtRestart
  let ok := fun i => !((b.line.records.get i).state == .fault)
  { b with signs := mapIds (fun i s => if ok i then { s with needs := true } else s) b.signs,
           line := { b.line with records :=
             b.line.records |> mapIds fun i r => if ok i then { r with state := .stale } else r } }

end Board

/-- The line at COMMIT: every record STALE, no fault, no probe timer; confirmed pages and widths kept; both marks 11
(R175). The needing-service flags are set with the sign records. -/
def SignLine.commit (l : SignLine) : SignLine :=
  { l with records := mapIds (fun _ r => { r with state := .stale, cause := none, probe := .stopped }) l.records,
           transfer := none, probing := none, sent := none, lastServed := 11, probeMark := 11 }

/-- The signs in FAULT, which leave it at COMMIT (R175). -/
def SignLine.faulty (l : SignLine) : Vector Bool 12 := mapIds (fun _ r => r.state == .fault) l.records

end Sys2Proof.Machine
end

