-- ==== Sys2Proof/Machine/Operands.lean ====
section
/-! DEFINITION. The operands of the requests: the outcomes of R181, the common checks of R179, segment lists, and the
authority that the link and the key position give (R17, R23, R52, R179, R180, R185). -/

namespace Sys2Proof.Machine

/-- The sixteen outcomes of a reply, in the order of their codes (R181). -/
inductive Result where
  | ok | format | authority | key | range | state | held | gateFault | signFault | full | unknownId | stale | oneWay
  | active | busy | isProtected
  deriving DecidableEq, Repr

/-- The code of an outcome (R181). -/
def Result.code : Result → Byte
  | .ok => 0x00 | .format => 0x01 | .authority => 0x02 | .key => 0x03 | .range => 0x04 | .state => 0x05
  | .held => 0x06 | .gateFault => 0x07 | .signFault => 0x08 | .full => 0x09 | .unknownId => 0x0A | .stale => 0x0B
  | .oneWay => 0x0C | .active => 0x0D | .busy => 0x0E | .isProtected => 0x0F

/-- One check of an ordered list: the outcome when it fails. -/
def need (ok : Bool) (r : Result) : Option Result := if ok then none else some r

/-- The first check that fails gives the outcome. -/
def firstFailure : List (Option Result) → Option Result
  | [] => none
  | some r :: _ => some r
  | none :: rest => firstFailure rest

/-- The segments that a list names, each once; `none` when an id is not configured or the list is empty, which refuses the
whole request with RANGE (R1, R22, R23). The request acts on them in ascending id, whatever the order of the list (log 39). -/
def segSet (r : Road) (l : List Byte) : Option (List SegId) :=
  if l.isEmpty then none
  else if l.all (fun b => match idOf 8 b with | some i => r.configured i | none => false)
    then some (idsWhere fun i => l.any fun b => b.toNat == i.val)
    else none

/-- The segments that a list names, in the order of the list and as often as listed (R18). -/
def segList (r : Road) (l : List Byte) : Option (List SegId) :=
  match segSet r l with
  | none => none
  | some _ => some (l.filterMap (idOf 8))

/-- The kind of hold that a link places (R22). -/
def ownKind : Link → HoldKind
  | .valley => .valley
  | .avalanche => .avalanche
  | .panel => .panel

namespace State

/-- The valley link is SILENT at this moment (R185). -/
def valleySilent (s : State) : Bool := !s.links.valley.active

/-- The key is in SERVICE. -/
def keyService (s : State) : Bool := s.key == .service

/-- The key is in OPERATE or SERVICE. -/
def keyOperate (s : State) : Bool := s.key == .operate || s.key == .service

/-- The common check that the part is commissioned (R179). -/
def needCommissioned (s : State) : Option Result := need s.commissioned .state

/-- Taken on the panel link with the key in SERVICE: AUTHORITY, then KEY (R179, R180). -/
def needPanelService (s : State) (l : Link) : Option Result :=
  firstFailure [need (l == .panel) .authority, need s.keyService .key]

/-- Taken on the valley link, or on the panel link with the key in SERVICE (R180, R195). -/
def needValleyOrPanelService (s : State) (l : Link) : Option Result :=
  match l with
  | .valley => none
  | .avalanche => some .authority
  | .panel => need s.keyService .key

/-- The rights that the panel gains while the valley link is SILENT: taken on the valley link, or on the panel link
while the valley link is SILENT (AUTHORITY) with the key in OPERATE or SERVICE (KEY) (R17, R137, R185). -/
def needValleyOrSilentPanel (s : State) (l : Link) : Option Result :=
  match l with
  | .valley => none
  | .avalanche => some .authority
  | .panel => firstFailure [need s.valleySilent .authority, need s.keyOperate .key]

/-- The authority of HOLD_RELEASE (R23). -/
def needReleaseAuthority (s : State) (l : Link) (kind : HoldKind) : Option Result :=
  match l, kind with
  | .valley, .valley => none
  | .avalanche, .avalanche => none
  | .panel, .panel => need s.keyOperate .key
  | .panel, .valley => firstFailure [need s.valleySilent .authority, need s.keyOperate .key]
  | _, _ => some .authority

end State

end Sys2Proof.Machine
end

