-- ==== Sys2Proof/Machine/StoreOps.lean ====
section
/-! DEFINITION. The commissioning store (chapter 11) and the latch word (R56 to R58): records, the field checks of
STORE_WRITE and of the load, the one write in flight, and what a hardware reset leaves of it. -/

namespace Sys2Proof.Machine

-- ---------------------------------------------------------------- bytes of a record

/-- A one-byte field of a record at an offset. -/
def at1 (l : List Byte) (i : Nat) : Nat := (l.getD i 0).toNat
/-- A two-byte field of a record at an offset, high byte first. -/
def at2 (l : List Byte) (i : Nat) : Nat := at1 l i * 256 + at1 l (i + 1)
/-- A value lies in a range. -/
def within (lo hi n : Nat) : Bool := lo ≤ n && n ≤ hi

-- ---------------------------------------------------------------- field checks of one record (R194, R195)

/-- The offset of a page map entry in the corridor record (R194). -/
def entryAt (c : Nat) : Nat := 6 + 6 * c

/-- The fields of one page map entry lie in their ranges (R146, R194); a source beside the format 0 is left to the load
(log 15). -/
def entryFieldsOk (l : List Byte) (c : Nat) : Bool :=
  let o := entryAt c
  within 0 127 (at1 l o) && within 0 1 (at1 l (o + 1)) && within 0 3 (at1 l (o + 2)) && within 0 9 (at1 l (o + 3))
    && within 0 3 (at1 l (o + 4)) && within 0 9 (at1 l (o + 5))

/-- The corridor record (R49, R146, R183). -/
def corridorOk (l : List Byte) : Bool :=
  within 30 600 (at2 l 0) && within 30 600 (at2 l 2) && within 60 900 (at2 l 4)
    && (List.range 12).all (entryFieldsOk l)

/-- A segment record; the fields of an undefined segment are unused (R1, R194). -/
def segmentOk (l : List Byte) : Bool :=
  if at1 l 0 = 0 then at2 l 1 == 0 && at1 l 3 == 0 && at1 l 4 == 0
  else at1 l 0 == 1 && within 0 600 (at2 l 1) && (within 0 3 (at1 l 3) || at1 l 3 == 255) && within 0 3 (at1 l 4)

/-- A gate record (R29, R194); a segment named twice is left to the load (log 15). -/
def gateOk (l : List Byte) : Bool :=
  within 1 2 (at1 l 0) && within 0 7 (at1 l 1) && (if at1 l 0 = 2 then within 0 7 (at1 l 2) else at1 l 2 == 0)
    && within 1 60 (at1 l 3) && within 2 240 (at1 l 4) && at1 l 3 < at1 l 4

/-- A sign record (R145, R194). -/
def signOk (l : List Byte) : Bool := within 0 7 (at1 l 0) && within 0 1 (at1 l 1)

/-- A zone record (R100, R194). -/
def zoneOk (l : List Byte) : Bool :=
  within 0 5 (at1 l 0) && within 1 5 (at1 l 1) && within 1 5 (at1 l 2) && at1 l 1 ≤ at1 l 2

/-- A channel record: its kind decides which owner suits it and which fields are unused (R66, R107, R194). -/
def channelOk (l : List Byte) : Bool :=
  let kind := at1 l 0
  within 0 5 kind && within 0 3 (at1 l 2) && within 0 63 (at1 l 3) &&
  (if kind = 5 then
     within 0 5 (at1 l 1) && within 1 255 (at1 l 4) && within 1 65535 (at2 l 5) && within 1 8 (at1 l 7)
       && within (at1 l 7) 15 (at1 l 8) && within 0 3 (at1 l 9)
   else
     (if kind = 0 then at1 l 1 == 0 else within 0 3 (at1 l 1))
       && at1 l 4 == 0 && at2 l 5 == 0 && at1 l 7 == 0 && at1 l 8 == 0 && at1 l 9 == 0)

/-- A site record (R79, R194). -/
def siteOk (l : List Byte) : Bool :=
  within 0 3 (at1 l 0) && within 1 4095 (at2 l 1) && within 0 20000 (at2 l 3) && within 1 255 (at1 l 5)
    && within 1 255 (at1 l 6) && within 1 100 (at1 l 8) && within 1 100 (at1 l 9) && within 1 100 (at1 l 10)
    && within 1 100 (at1 l 11) && at1 l 9 < at1 l 8 && at1 l 10 < at1 l 9 && at1 l 11 < at1 l 10
    && within 1 999 (at2 l 12) && within 1 999 (at2 l 14) && at2 l 12 < at2 l 14 && within 1 15 (at1 l 16)
    && within 0 4 (at1 l 17)

/-- Every field of a record of a region lies in its range, judged on the record alone (R195, log 15). -/
def fieldsOk (region number : Nat) (l : List Byte) : Bool :=
  if region = 0 then
    if number = 0 then corridorOk l
    else if number ≤ 8 then segmentOk l
    else if number ≤ 14 then gateOk l
    else if number ≤ 26 then signOk l
    else if number ≤ 32 then zoneOk l
    else if number ≤ 48 then channelOk l
    else siteOk l
  else true

-- ---------------------------------------------------------------- the latch word (R56 to R58)

/-- The code of a latch value in a slot (R194). -/
def LatchValue.code : LatchValue → Byte
  | .clear => 0
  | .latched => 1

/-- The value and generation of a valid slot; absent for a blank or failing one (R56). -/
def slotOf : Record → Option (LatchValue × Byte)
  | .valid [v, g, _] => if v = 0 then some (.clear, g) else if v = 1 then some (.latched, g) else none
  | _ => none

/-- The value that the store reads from the two slots (R58). -/
def readLatchWord (s0 s1 : Record) : LatchValue :=
  match slotOf s0, slotOf s1 with
  | some (v0, g0), some (v1, g1) => if g0 = g1 + 1 then v0 else if g1 = g0 + 1 then v1 else .latched
  | some (v0, _), none => v0
  | none, some (v1, _) => v1
  | none, none => if s0 = .blank ∧ s1 = .blank then .clear else .latched

/-- The slot (is it slot 1?) and the generation of the next latch word write (R56). -/
def nextSlot (s0 s1 : Record) : Bool × Byte :=
  match slotOf s0, slotOf s1 with
  | some (_, g0), some (_, g1) => if g0 = g1 + 1 then (true, g0 + 1) else (false, g1 + 1)
  | some (_, g0), none => (true, g0 + 1)
  | none, some (_, g1) => (false, g1 + 1)
  | none, none => (false, 0)

namespace Store

/-- A latch word write of a value begins (R56). -/
def beginLatchWrite (v : LatchValue) (st : Store) : Store :=
  let n := nextSlot st.slot0 st.slot1
  { st with inFlight := some (.latchSlot n.1 v n.2), latchPending := false }

/-- A latch word write is requested: it begins, or is held pending behind the write in flight (R56). -/
def requestLatchWrite (v : LatchValue) (st : Store) : Store :=
  if st.inFlight.isSome then { st with latchPending := true } else st.beginLatchWrite v

/-- The comparison at the completion of any write, which settles a pending latch word write (R57). -/
def settleLatch (persisted stored : LatchValue) (st : Store) : Store :=
  if persisted = stored then { st with latchPending := false } else st.beginLatchWrite persisted

/-- The control record's bytes for an id and the working protect flags (R194). -/
def controlBytes (st : Store) (id : Word16) : List Byte :=
  withCheck (splitWord16 id ++ [(if st.protectDesc then 1 else 0) + (if st.protectLib then 2 else 0)])

/-- A control record write of an id and the working protect flags begins (R196, R199). -/
def beginControlWrite (id : Word16) (st : Store) : Store :=
  { st with commissionId := id, inFlight := some (.control (st.controlBytes id)) }

/-- An erase as it stands at completion: every record blank (R197, log 30). -/
def blanked (st : Store) : Store :=
  { st with description := Vector.replicate 53 .blank, library := Vector.replicate 128 .blank, control := .blank,
            slot0 := .blank, slot1 := .blank }

/-- A record of the store takes new contents. -/
def writeRecord (w : StoreWrite) (r : List Byte → Record) (st : Store) : Store :=
  match w with
  | .description n b => { st with description := put st.description n (r b) }
  | .library n b => { st with library := put st.library n (r b) }
  | .control b => { st with control := r b }
  | .latchSlot second v g =>
    let rec' := r (withCheck [v.code, g])
    if second then { st with slot1 := rec' } else { st with slot0 := rec' }
  | .erase => st.blanked

/-- The write in flight completes: its record is valid with the new bytes (R57, R195, R197). -/
def land (w : StoreWrite) (st : Store) : Store := { st.writeRecord w .valid with inFlight := none }

-- ---------------------------------------------------------------- reading records

/-- A record of a region; absent outside the region (R193). -/
def record (st : Store) (region number : Nat) : Option Record :=
  if region = 0 then (if h : number < 53 then some (st.description.get ⟨number, h⟩) else none)
  else if region = 1 then (if h : number < 128 then some (st.library.get ⟨number, h⟩) else none)
  else if region = 2 then
    (if number = 0 then some st.control else if number = 1 then some st.slot0
     else if number = 2 then some st.slot1 else none)
  else none

/-- Is a record being written, by its own write or by an erase (R193)? -/
def writing (st : Store) (region number : Nat) : Bool :=
  match st.inFlight with
  | none => false
  | some .erase => true
  | some (.description n _) => region == 0 && number == n.val
  | some (.library n _) => region == 1 && number == n.val
  | some (.control _) => region == 2 && number == 0
  | some (.latchSlot second _ _) => region == 2 && number == (if second then 2 else 1)

/-- The store activity of STATUS (R195). -/
def activity (st : Store) : Nat :=
  match st.inFlight with
  | none => 0
  | some .erase => 2
  | some (.latchSlot _ _ _) => 3
  | some _ => 1

/-- The bytes of a DESCRIPTION record that is valid; none of them otherwise. -/
def desc (st : Store) (n : Nat) : List Byte :=
  match st.record 0 n with
  | some (.valid b) => b
  | _ => []

/-- Is a DESCRIPTION record valid? -/
def descValid (st : Store) (n : Nat) : Bool :=
  match st.record 0 n with
  | some (.valid _) => true
  | _ => false

end Store

-- ---------------------------------------------------------------- the record numbers of DESCRIPTION (R194)

/-- The record of segment `i`. -/
def Store.segRec (st : Store) (i : SegId) : List Byte := st.desc (1 + i.val)
/-- The record of gate `i`. -/
def Store.gateRec (st : Store) (i : GateId) : List Byte := st.desc (9 + i.val)
/-- The record of sign `i`. -/
def Store.signRec (st : Store) (i : SignId) : List Byte := st.desc (15 + i.val)
/-- The record of zone `i`. -/
def Store.zoneRec (st : Store) (i : ZoneId) : List Byte := st.desc (27 + i.val)
/-- The record of channel `i`. -/
def Store.chanRec (st : Store) (i : ChanId) : List Byte := st.desc (33 + i.val)
/-- The record of site `i`. -/
def Store.siteRec (st : Store) (i : SiteId) : List Byte := st.desc (49 + i.val)

namespace Store

/-- Segment `i` is defined (R194). -/
def defined (st : Store) (i : SegId) : Bool := at1 (st.segRec i) 0 == 1

/-- The segments that a gate record lists (R194). -/
def gateNames (l : List Byte) : List Nat := if at1 l 0 = 2 then [at1 l 1, at1 l 2] else [at1 l 1]

/-- A gate's listing segments, ascending (R29, log 17). -/
def listing (st : Store) (g : GateId) : List SegId := idsWhere fun i => (gateNames (st.gateRec g)).contains i.val

/-- The gates of a segment, ascending (R2). -/
def gatesOf (st : Store) (i : SegId) : List GateId := idsWhere fun g => (st.listing g).contains i

/-- A zone exposes a segment (R194). -/
def exposes (st : Store) (z : ZoneId) (i : SegId) : Bool := (BitVec.ofNat 8 (at1 (st.zoneRec z) 3)).getLsbD i.val

/-- The channels of a kind code with an owner. -/
def chansOf (st : Store) (kind owner : Nat) : List ChanId :=
  idsWhere fun c => at1 (st.chanRec c) 0 == kind && at1 (st.chanRec c) 1 == owner

/-- A site is in use: a channel of kind 1 to 4 names it (R80). -/
def siteUsed (st : Store) (t : SiteId) : Bool :=
  anyId fun (c : ChanId) => within 1 4 (at1 (st.chanRec c) 0) && at1 (st.chanRec c) 1 == t.val

/-- The channel rules of a site in use (R80). -/
def siteRules (st : Store) (t : SiteId) : Bool :=
  !st.siteUsed t ||
    ((st.chansOf 2 t.val).length == 1 && (st.chansOf 1 t.val).length ≤ 1 && (st.chansOf 3 t.val).length ≤ 1
      && (st.chansOf 4 t.val).length ≤ 1)

/-- A segment's site, absent for 0xFF (R194). -/
def siteOfSeg (st : Store) (i : SegId) : Option SiteId :=
  let b := at1 (st.segRec i) 3
  if h : b < 4 then some ⟨b, h⟩ else none

/-- The load checks of R200. -/
def loadOk (st : Store) : Bool :=
  (List.range 53).all st.descValid
    && (List.range 53).all (fun n => fieldsOk 0 n (st.desc n))
    && anyId st.defined
    && allIds (fun (g : GateId) =>
        let names := gateNames (st.gateRec g)
        names.all (fun n => match idOf 8 (BitVec.ofNat 8 n) with | some i => st.defined i | none => false)
          && (names.length == (st.listing g).length))
    && allIds (fun (i : SegId) => (st.gatesOf i).length ≤ 2)
    && allIds (fun (g : SignId) =>
        match idOf 8 (BitVec.ofNat 8 (at1 (st.signRec g) 0)) with | some i => st.defined i | none => false)
    && allIds (fun (z : ZoneId) => allIds fun (i : SegId) => !st.exposes z i || st.defined i)
    && allIds (fun (z : ZoneId) => (st.chansOf 5 z.val).length ≤ 4)
    && allIds st.siteRules
    && allIds (fun (i : SegId) => !st.defined i ||
        match st.siteOfSeg i with | some t => st.siteUsed t | none => true)
    && (List.range 12).all fun c =>
        let o := entryAt c
        (!(at1 (st.desc 0) (o + 2) == 0) || at1 (st.desc 0) (o + 3) == 0)
          && (!(at1 (st.desc 0) (o + 4) == 0) || at1 (st.desc 0) (o + 5) == 0)

-- ---------------------------------------------------------------- what a hardware reset leaves (log 14)

/-- A record of `len` bytes whose write was cut: every byte of every record is a free value of its own (R195, R196). -/
def torn (draw region number len : Nat) : Record := .failing ((List.range len).map (Config.tornByte draw region number))

/-- One record at a cut erase, of a region that is blanked at `stage`: blank in the stages before the one reached, untouched in
the stages after it, and blank, untouched or failing within it (R197). -/
def cutRecord (draw stage reached region number len : Nat) (r : Record) : Record :=
  if stage < reached then .blank
  else if reached < stage then r
  else
    match Config.eraseLeaves draw number with
    | 0 => .blank
    | 1 => r
    | _ => torn draw region number len

/-- An erase cut by a hardware reset at its `draw`th free value (R197). -/
def cutErase (draw : Nat) (st : Store) : Store :=
  let k := Config.eraseStage draw % 6
  { st with
    description := mapIds (fun i r =>
      cutRecord draw 0 k 0 i.val ((Config.recordLength 0 i.val).getD 0) r) st.description,
    library := mapIds (fun i r => cutRecord draw 1 k 1 i.val 81 r) st.library,
    control := cutRecord draw 2 k 2 0 4 st.control,
    slot0 := cutRecord draw 3 k 2 1 3 st.slot0,
    slot1 := cutRecord draw 4 k 2 2 3 st.slot1 }

/-- The write in flight at a hardware reset (R58, R195, R196, R197). -/
def cut (draw : Nat) (st : Store) : Store :=
  match st.inFlight with
  | none => st
  | some .erase => st.cutErase draw
  | some (.latchSlot second v g) =>
    st.writeRecord (.latchSlot second v g) fun b =>
      if Config.slotComplete draw then .valid b else torn draw 2 (if second then 2 else 1) b.length
  | some (.description n b) => st.writeRecord (.description n b) fun b => torn draw 0 n.val b.length
  | some (.library n b) => st.writeRecord (.library n b) fun b => torn draw 1 n.val b.length
  | some (.control b) => st.writeRecord (.control b) fun b => torn draw 2 0 b.length

/-- The store's working copies at a hardware reset (R196, R198). -/
def reload (st : Store) : Store :=
  let c : Bool × Bool × Word16 := match st.control with
    | .blank => (false, false, 0)
    | .valid [a, b, f, _] => (f.getLsbD 0, f.getLsbD 1, joinWord16 a b)
    | _ => (true, true, 0)
  { st with inFlight := none, latchPending := false, protectDesc := c.1, protectLib := c.2.1, commissionId := c.2.2,
            modeOn := false, enteredSince := false }

end Store

end Sys2Proof.Machine
end

