-- ==== Sys2Proof/Machine/ZoneOps.lean ====
section
/-! DEFINITION. The zone unit's computation on one zone record and on one qualification record (chapter 6). -/

namespace Sys2Proof.Machine

/-- The effective level and both flags from the set level and the level status (R102). -/
def Zone.judge (z : Zone) : Zone :=
  let level := match z.status with
    | .set => z.setLevel
    | .unknown => max z.setLevel z.linkLoss
  { z with effective := level, warning := z.warnThreshold ≤ level, closure := z.closeThreshold ≤ level }

/-- A ZONE_LEVEL: the set level, clamped to 5, SET, and set-since-reset (R103, R182). -/
def Zone.setTo (level : Nat) (z : Zone) : Zone :=
  ({ z with setLevel := min 5 level, status := .set, setSinceReset := true } : Zone).judge

/-- The avalanche link falls silent (R104). -/
def Zone.lose (z : Zone) : Zone :=
  match z.status with
  | .set => ({ z with status := .unknown } : Zone).judge
  | .unknown => z

/-- ZONE attention for a change of effective level or level status (R106). -/
def zoneFlags (before after : Zone) : FlagSet :=
  FlagSet.when (!(before.effective == after.effective) || !(before.status == after.status)) Attn.zone

/-- CONFIRMED and FAILED hold the road shut (R113). -/
def DetectorState.closes : DetectorState → Bool
  | .confirmed => true
  | .failed => true
  | _ => false

/-- A gate result is exceeding at or above the trip threshold (R107). -/
def Qualification.exceeds (q : Qualification) (result : Nat) : Bool := q.trip ≤ result

/-- One exceeding or non-exceeding result (R108, R109, R117). -/
def Qualification.step (exceeding : Bool) (q : Qualification) : Qualification :=
  if exceeding then
    let n := min 15 (q.count + 1)
    let st := match q.state with
      | .quiet => if n ≥ q.nc then .confirmed else if n ≥ q.np then .pending else .quiet
      | .pending => if n ≥ q.nc then .confirmed else .pending
      | .confirmed => .confirmed
      | .failed => .failed
    { q with count := n, state := st }
  else
    let st := match q.state with
      | .quiet => .quiet
      | .pending => .quiet
      | .confirmed => .confirmed
      | .failed => .failed
    { q with count := 0, state := st }

/-- A delivered gate result: recorded, then judged (R108). -/
def Qualification.deliver (result : Nat) (q : Qualification) : Qualification :=
  ({ q with latest := some result } : Qualification).step (q.exceeds result)

/-- A test trip: one exceeding result, and the test flag (R117). -/
def Qualification.testTrip (q : Qualification) : Qualification :=
  ({ q with test := true } : Qualification).step true

/-- A carrier-loss event (R110). -/
def Qualification.lose (q : Qualification) : Qualification := { q with state := .failed }

/-- An accepted clear (R114). -/
def Qualification.clear (q : Qualification) : Qualification := { q with state := .quiet, count := 0, test := false }

/-- A field restart (R120). -/
def Qualification.restart (q : Qualification) : Qualification :=
  let st := match q.state with
    | .pending => .quiet
    | s => s
  { q with state := st, count := 0, test := if st.closes then q.test else false }

/-- Does a notify mode report an entry to PENDING (R112)? -/
def NotifyMode.entry : NotifyMode → Bool
  | .enter => true
  | .both => true
  | _ => false

/-- Does a notify mode report an exit from PENDING (R112)? -/
def NotifyMode.exit : NotifyMode → Bool
  | .leave => true
  | .both => true
  | _ => false

/-- DETECTOR attention for a move between two states of a qualification record (R112). -/
def detectorFlags (before after : Qualification) : FlagSet :=
  let set : Bool := match before.state, after.state with
    | .quiet, .pending => after.notify.entry
    | .pending, .quiet => after.notify.exit
    | .confirmed, .confirmed => false
    | .failed, .failed => false
    | _, .confirmed => true
    | _, .failed => true
    | .confirmed, .quiet => true
    | .failed, .quiet => true
    | _, _ => false
  FlagSet.when set Attn.detector

end Sys2Proof.Machine
end

