-- ==== Sys2Proof/Machine/Load.lean ====
section
/-! DEFINITION. The load of the working tables from DESCRIPTION at hardware reset and at COMMIT, the values of an
uncommissioned part, and the hold entries that both place (R2, R27, R28, R46, R47, R76, R78, R97, R98, R118, R119, R156,
R157, R199, R200). -/

namespace Sys2Proof.Machine

-- ---------------------------------------------------------------- decoding the codes of R194

/-- A channel kind code. -/
def chanKindOf (n : Nat) : ChanKind :=
  if n = 1 then .wind else if n = 2 then .surfaceTemp else if n = 3 then .airTemp else if n = 4 then .precip
  else if n = 5 then .detector else .unused

/-- The owner of a channel of a kind. -/
def ownerOf (kind : ChanKind) (n : Nat) : Owner :=
  match kind with
  | .unused => .none
  | .detector => if h : n < 6 then .zone ⟨n, h⟩ else .none
  | _ => if h : n < 4 then .site ⟨n, h⟩ else .none

/-- A notify mode code. -/
def notifyOf (n : Nat) : NotifyMode :=
  if n = 1 then .enter else if n = 2 then .leave else if n = 3 then .both else .none

/-- A format code; 0 is absent (R180, R194). -/
def formatOf (n : Nat) : Option Format :=
  if n = 1 then some .integer else if n = 2 then some .tenths else if n = 3 then some .time else none

/-- A page map source code. -/
def sourceOf (n : Nat) : Source :=
  if n = 1 then .classValue else if n = 2 then .segmentId else if n = 3 then .advisory
  else if n = 4 then .surfaceTemp else if n = 5 then .airTemp else if n = 6 then .gust else if n = 7 then .meanWind
  else if n = 8 then .precip else if n = 9 then .zoneLevel else .none

-- ---------------------------------------------------------------- one record of each table

/-- A site at its reset values under a configuration (R97). -/
def Site.fresh (inUse : Bool) (cfg : SiteConfig) : Site :=
  { inUse := inUse, config := cfg, acc := State.emptyAccumulator, gradeRing := [cfg.fail], windRing := [0],
    ts := .absent, ta := .absent, vMean := none, vGust := none, p := none, g := .absent, penalties := none,
    computedGrade := none, reportedGrade := cfg.fail, computedWind := none, reportedWind := 0, periodsEnded := 0 }

namespace Store

/-- The configuration of a site (R79, R194). -/
def siteConfig (st : Store) (i : SiteId) : SiteConfig :=
  let l := st.siteRec i
  { period := 8 * 2 ^ at1 l 0, w := at2 l 1, f0 := at2 l 3, s := at1 l 5, pg := at1 l 6, mg := at1 l 7,
    t1 := at1 l 8, t2 := at1 l 9, t3 := at1 l 10, t4 := at1 l 11, wBan := at2 l 12, wClose := at2 l 14,
    len := at1 l 16, fail := at1 l 17 }

/-- A loaded site (R79, R80, R97). -/
def loadSite (st : Store) (i : SiteId) : Site := Site.fresh (st.siteUsed i) (st.siteConfig i)

/-- A loaded zone (R100, R118). -/
def loadZone (st : Store) (i : ZoneId) : Zone :=
  let l := st.zoneRec i
  ({ setLevel := 0, status := .unknown, linkLoss := at1 l 0, warnThreshold := at1 l 1, closeThreshold := at1 l 2,
     effective := 0, warning := false, closure := false, exposed := idsWhere (st.exposes i),
     setSinceReset := false } : Zone).judge

/-- A loaded qualification record; none for a channel that is no DETECTOR (R107, R118). -/
def loadQual (st : Store) (i : ChanId) : Option Qualification :=
  let l := st.chanRec i
  match chanKindOf (at1 l 0) with
  | .detector =>
    some { trip := at2 l 5, np := at1 l 7, nc := at1 l 8, notify := notifyOf (at1 l 9), state := .quiet, count := 0,
           latest := none, test := false }
  | _ => none

/-- A loaded channel; its filter keeps its level and run count (R63, R76, R78). -/
def loadChannel (st : Store) (i : ChanId) (old : Channel) : Channel :=
  let l := st.chanRec i
  let kind := chanKindOf (at1 l 0)
  let limit := 10 * at1 l 4
  { kind := kind, owner := ownerOf kind (at1 l 1), gateLength := 2 ^ at1 l 2, nf := at1 l 3, count := 0, last := none,
    carrier := match kind with
      | .detector => some { limit := limit, present := true, counter := some limit, phase := 0 }
      | _ => none,
    filter := old.filter, edge := old.edge, gatesEnded := 0 }

/-- A loaded gate, in UNKNOWN with its drives OFF; its switches keep their filters (R46, R47). -/
def loadGate (st : Store) (i : GateId) (old : Gate) : Gate :=
  let l := st.gateRec i
  { listing := st.listing i, tMin := at1 l 3, tMax := at1 l 4, state := .unknown, cause := none, demand := .lower,
    check := none, timer := none, raisedSwitch := old.raisedSwitch, loweredSwitch := old.loweredSwitch,
    raiseDrive := false, lowerDrive := false }

/-- The role of a sign (R194). -/
def roleOf (st : Store) (i : SignId) : Role := if at1 (st.signRec i) 1 = 1 then .info else .approach

/-- The signs of a segment, ascending, with their roles (R2). -/
def signsOf (st : Store) (i : SegId) : List (SignId × Role) :=
  (idsWhere fun (g : SignId) => at1 (st.signRec g) 0 == i.val).map fun g => (g, st.roleOf g)

/-- The zones that expose a segment, ascending (R2). -/
def zonesOf (st : Store) (i : SegId) : List ZoneId := idsWhere fun z => st.exposes z i

/-- A loaded segment: CLOSED, without holds yet (R1, R2, R27). -/
def loadSeg (st : Store) (i : SegId) : Option Segment :=
  if st.defined i then
    let l := st.segRec i
    let site := st.siteOfSeg i
    some { state := .closed, holds := HoldSet.none, gates := st.gatesOf i, signs := st.signsOf i, site := site,
           zones := st.zonesOf i, iceAuto := at1 l 4 % 2 == 1, windAuto := at1 l 4 / 2 == 1,
           warningInterval := at2 l 1, confirmWait := none, warningTimer := none, incomplete := false,
           restriction := match site with
             | some t => (st.loadSite t).restriction
             | none => { advisory := 0, chains := false, ban := false } }
  else none

/-- A loaded page map entry (R146, R194). -/
def loadEntry (st : Store) (c : Fin 12) : MapEntry :=
  let l := st.desc 0
  let o := entryAt c.val
  { page := at1 l o, flash := at1 l (o + 1) == 1, formatA := formatOf (at1 l (o + 2)),
    sourceA := sourceOf (at1 l (o + 3)), formatB := formatOf (at1 l (o + 4)), sourceB := sourceOf (at1 l (o + 5)) }

/-- A loaded sign, not yet selected (R145, R156, R157). -/
def loadSign (st : Store) (i : SignId) : Sign :=
  { State.idleSign with segment := (idOf 8 (BitVec.ofNat 8 (at1 (st.signRec i) 0))).getD 0, role := st.roleOf i, needs := true }

end Store

/-- A channel of an uncommissioned part: UNUSED with NF 0; its filter runs on (R63, R67). -/
def Channel.unused (c : Channel) : Channel := { State.idleChannel with filter := c.filter, edge := c.edge }

-- ---------------------------------------------------------------- the whole of the tables

namespace State

/-- A hold entry that a reset or a COMMIT creates directly in CLOSED (R27, R28). -/
def startEntry (since : Option Nat) (sources : List Nat) : HoldEntry :=
  { since := since, reason := none, sources := sources }

/-- The hold set that a reset or a COMMIT gives a segment (R27, R28): STARTUP; FULL while the latch is not CLEAR; ICE
where the site's reported grade calls for it; the zones in zone closure. -/
def startHolds (s : State) (since : Option Nat) (sg : Segment) : HoldSet :=
  let zones := (sg.zones.filter fun z => (s.zoneUnit.zones.get z).closure).map (·.val)
  let causes := match sg.site with
    | some t => ((weatherCauses (s.sites.get t) sg.iceAuto sg.windAuto).filter (·.2)).map (·.1)
    | none => []
  let h := put HoldSet.none HoldKind.startup.idx (some (startEntry since []))
  let h := if s.latch.state = .clear then h else put h HoldKind.full.idx (some (startEntry since []))
  let h := if causes.isEmpty then h else put h HoldKind.weather.idx (some (startEntry since causes))
  if zones.isEmpty then h else put h HoldKind.zone.idx (some (startEntry since zones))

/-- The start hold sets of every configured segment (R27, R28). -/
def placeStart (s : State) (since : Option Nat) : State :=
  let place := fun (sg : Segment) => { sg with holds := s.startHolds since sg }
  { s with road := { s.road with segs := mapIds (fun _ o => o.map place) s.road.segs } }

/-- The working tables loaded from a DESCRIPTION that passes (R199, R200). The measurement epoch is this moment. -/
def loadTables (s : State) : State :=
  let st := s.store
  { s with
    commissioned := true
    road := { segs := Vector.ofFn st.loadSeg, gates := mapIds st.loadGate s.road.gates }
    latch := { s.latch with windowLength := at2 (st.desc 0) 4 }
    field := { s.field with channels := mapIds st.loadChannel s.field.channels, sinceEpoch := 0 }
    sites := Vector.ofFn st.loadSite
    zoneUnit := { zones := Vector.ofFn st.loadZone, quals := Vector.ofFn st.loadQual }
    board := { s.board with pageMap := Vector.ofFn st.loadEntry, signs := Vector.ofFn st.loadSign }
    links := { s.links with valley := { s.links.valley with limit := some (at2 (st.desc 0) 0) },
                            avalanche := { s.links.avalanche with limit := some (at2 (st.desc 0) 2) } } }

/-- The working tables of an uncommissioned part (R46, R67, R80, R101, R118, R156, R183, R200). -/
def unloadTables (s : State) : State :=
  { s with
    commissioned := false
    road := { segs := Vector.replicate 8 none
              gates := mapIds (fun _ g => { idleGate with raisedSwitch := g.raisedSwitch,
                                                          loweredSwitch := g.loweredSwitch }) s.road.gates }
    latch := { s.latch with windowLength := Config.windowLength }
    field := { s.field with channels := mapIds (fun _ c => c.unused) s.field.channels, sinceEpoch := 0 }
    sites := Vector.replicate 4 idleSite
    zoneUnit := { zones := Vector.replicate 6 idleZone, quals := Vector.replicate 16 none }
    board := { s.board with pageMap := Vector.replicate 12 idleMapEntry, signs := Vector.replicate 12 idleSign }
    links := { s.links with valley := { s.links.valley with limit := some Config.valleyLimit },
                            avalanche := { s.links.avalanche with limit := some Config.avalancheLimit } } }

/-- The load at a hardware reset (R200). -/
def loadAtReset (s : State) : State := if s.store.loadOk then s.loadTables else s.unloadTables

end State

end Sys2Proof.Machine
end

