-- ==== Sys2Proof/Machine/NoticeOps.lean ====
section
/-! DEFINITION. The notice unit's computation on notice records and on the notice list (chapter 7). -/

namespace Sys2Proof.Machine

/-- The order of the list: start, then id (R126). -/
def Notice.before (a b : Notice) : Bool := a.start < b.start || (a.start == b.start && a.id < b.id)

/-- A notice joins the list in the place that its start and id give (R126). -/
def insertNotice (n : Notice) : List Notice → List Notice
  | [] => [n]
  | m :: ms => if n.before m then n :: m :: ms else m :: insertNotice n ms

/-- The notice with an id. -/
def findNotice (l : List Notice) (id : Nat) : Option Notice := l.find? fun n => n.id == id

/-- The list without the notice with an id. -/
def dropNotice (l : List Notice) (id : Nat) : List Notice := l.filter fun n => !(n.id == id)

/-- The lowest free id of 1..16 (R126). -/
def freeId (l : List Notice) : Option Nat :=
  ((List.range 16).map (· + 1)).find? fun i => (findNotice l i).isNone

/-- The outcome of an evaluation for one notice: its state afterwards, or none when it is removed (R127, R128). -/
def Notice.outcome (now : Nat) (n : Notice) : Option NoticeState :=
  let ended : Bool := match n.stop with
    | some e => e ≤ now
    | none => false
  if ended then none
  else match n.state with
    | .waiting =>
      if now ≥ n.start then some .inForce else if now + n.lead ≥ n.start then some .announced else some .waiting
    | .announced => if now ≥ n.start then some .inForce else some .announced
    | .inForce => some .inForce

/-- The notice changes at an evaluation (R130). -/
def Notice.changes (now : Nat) (n : Notice) : Bool := !(n.outcome now == some n.state)

/-- The notice enters IN_FORCE at an evaluation (R129). -/
def Notice.enters (now : Nat) (n : Notice) : Bool := n.outcome now == some .inForce && !(n.state == .inForce)

/-- The notice is IN_FORCE and removed at an evaluation (R129). -/
def Notice.ends (now : Nat) (n : Notice) : Bool := n.outcome now == none && n.state == .inForce

/-- The list after an evaluation (R127). -/
def evaluated (now : Nat) (l : List Notice) : List Notice :=
  l.filterMap fun n => (n.outcome now).map fun st => { n with state := st }

/-- The segments that a body names, when its fields pass check 3 of R131, which check 5 of R133 repeats. -/
def checkBody (r : Road) (b : NoticeBody) : Option (List SegId) :=
  let startOk : Bool := b.start.toNat ≤ Config.lastMinute
  let stopOk : Bool := match b.stop with
    | some e => b.start.toNat < e.toNat && e.toNat ≤ Config.lastMinute
    | none => true
  let pageOk : Bool := match b.page with
    | some p => p.toNat ≤ 127
    | none => true
  if startOk && stopOk && pageOk then segSet r b.segs else none

/-- The amendable fields of a notice taken from a body; the lead is clamped (R131, R133, R182). -/
def Notice.withBody (n : Notice) (b : NoticeBody) (segs : List SegId) : Notice :=
  { n with segs := segs, start := b.start.toNat, stop := b.stop.map BitVec.toNat,
           lead := min Config.longestLead b.lead.toNat, page := b.page.map BitVec.toNat }

/-- The new end of a SEASONAL notice in force is absent, or both ends are present and it is not earlier (R133). -/
def laterEnd (old new : Option Nat) : Bool :=
  match new, old with
  | none, _ => true
  | some e, some o => o ≤ e
  | some _, none => false

/-- The minute tick of the value: it stops at its last minute (R122). -/
def tickValue (v : Nat) : Nat := if v < Config.lastMinute then v + 1 else Config.lastMinute

end Sys2Proof.Machine
end

