-- ==== Sys2Proof/Machine/Event.lean ====
section
/-! DEFINITION. The operations of one event over the whole state: each block's step with what it hands to the others
(attention, holds, line outcomes), the collection of the signs to select again, and the end of the event, where every
such sign is selected once and the arbiter acts on a free line (R152, R162, log 31). -/

namespace Sys2Proof.Machine

namespace State

/-- What the road's chain reads from the rest of the part: since (R5), and conditions 1 and 2 of warning confirmation for
each segment (R11). -/
def roadCtx (s : State) : RoadCtx :=
  let shows (i : SignId) : Bool :=
    let r := s.board.line.records.get i
    match (s.board.signs.get i).desired, r.confirmed with
    | some d, some c => r.state == .current && c.ref == d.ref && d.cls.urgent
    | _, _ => false
  let confirmed (o : Option Segment) : Bool :=
    match o with
    | none => false
    | some sg =>
      let signs := (sg.signs.filter fun p => p.2 == .approach).map (·.1)
      signs.any shows || signs.all fun i => (s.board.line.records.get i).state == .fault
  { since := s.since, confirmed := mapIds (fun _ o => confirmed o) s.road.segs }

/-- Judge warning confirmation of a segment (R11). -/
def judgeWarning (s : State) (i : SegId) : State :=
  let start : RoadEv := { road := s.road, flags := 0, touched := Vector.replicate 8 false }
  { s with road := (RoadEv.judgeWarning s.roadCtx start i).road }

/-- Judge warning confirmation for the segments that the APPROACH signs of a list serve (R11, R152, R171). -/
def judgeSigns (s : State) (signs : List SignId) : State :=
  signs.foldl
    (fun s i =>
      let g := s.board.signs.get i
      match g.role with
      | .approach => s.judgeWarning g.segment
      | .info => s)
    s

/-- A step of the selector or of the sign line: its attention is set, and its outcomes are handed to the segment table
(R152, R169, R171). -/
def onBoard (f : BoardEv → BoardEv) (s : State) : State :=
  let e := f (BoardEv.start s.board)
  ((({ s with board := e.board } : State).attend e.flags).judgeSigns (setIds e.handed))

/-- The arbiter acts (R162). -/
def arbitrate (s : State) : State := { s with board := s.board.arbitrate }

end State

/-- The state within an event, the signs whose re-selection the event has raised (R152), and whether the arbiter is to
act at its end although none is raised (R174). -/
structure Ev where
  st     : State
  raised : Vector Bool 12
  acts   : Bool

namespace Ev

/-- An event that has done nothing yet. -/
def start (s : State) : Ev := { st := s, raised := Vector.replicate 12 false, acts := false }

/-- Change the state. -/
def on (e : Ev) (f : State → State) : Ev := { e with st := f e.st }

/-- Set attention (R186). -/
def attend (flags : FlagSet) (e : Ev) : Ev := e.on (State.attend flags)

/-- Raise the re-selection of some signs (R152). -/
def raiseSigns (l : List SignId) (e : Ev) : Ev := { e with raised := l.foldl (fun v i => put v i true) e.raised }

/-- Raise the re-selection of every sign (R55, R156, R157). -/
def raiseAll (e : Ev) : Ev := { e with raised := Vector.replicate 12 true }

/-- Raise the re-selection of every sign of some segments (R96, R106, R130). -/
def raiseSegs (l : List SegId) (e : Ev) : Ev :=
  e.raiseSigns (l.flatMap fun i =>
    match e.st.road.segs.get i with
    | some sg => sg.signs.map (·.1)
    | none => [])

/-- The end of an event: every raised sign is selected once, with the state that the event leaves, and the arbiter acts
(R152, R162, log 31). -/
def finish (e : Ev) : State :=
  match setIds e.raised with
  | [] => if e.acts then e.st.arbitrate else e.st
  | signs => (e.st.onBoard (BoardEv.selectAll e.st signs)).arbitrate

/-- A step of the road, with the attention and the re-selections of its changes (R8, R43). -/
def onRoad (f : RoadCtx → RoadEv → RoadEv) (e : Ev) : Ev :=
  let r := f e.st.roadCtx { road := e.st.road, flags := 0, touched := Vector.replicate 8 false }
  ((e.on fun s => { s with road := r.road }).attend r.flags).raiseSegs (setIds r.touched)

/-- Place a kind without sources on each of several segments (R5, R6). -/
def place (k : HoldKind) (reason : Option Byte) (l : List SegId) (e : Ev) : Ev :=
  e.onRoad fun ctx => RoadEv.each (RoadEv.place ctx k reason) l

/-- Remove a kind from each of several segments (R7). -/
def remove (k : HoldKind) (l : List SegId) (e : Ev) : Ev :=
  e.onRoad fun ctx => RoadEv.each (fun i => RoadEv.deleteEntry ctx i k) l

/-- Add a source on each of several segments (R5, R6). -/
def addSource (k : HoldKind) (source : Nat) (l : List SegId) (e : Ev) : Ev :=
  e.onRoad fun ctx => RoadEv.each (RoadEv.addSource ctx k source) l

/-- Remove a source from each of several segments (R7). -/
def removeSource (k : HoldKind) (source : Nat) (l : List SegId) (e : Ev) : Ev :=
  e.onRoad fun ctx => RoadEv.each (RoadEv.removeSource ctx k source) l

/-- The configured segments, ascending. -/
def segs (e : Ev) : List SegId := e.st.road.configuredIds

/-- The arbiter acts at the end of the event (R174). -/
def thenArbitrate (e : Ev) : Ev := { e with acts := true }

-- ---------------------------------------------------------------- start-up release (R25)

/-- The automatic start-up release is due: both marks, and every zone set since reset (R25). -/
def releaseDue (e : Ev) : Bool :=
  e.st.commissioned && e.st.valleyHeard && e.st.avalancheHeard
    && allIds fun (z : ZoneId) => (e.st.zoneUnit.zones.get z).setSinceReset

/-- Judge the automatic start-up release (R25). -/
def judgeRelease (e : Ev) : Ev := if e.releaseDue then e.remove .startup e.segs else e

-- ---------------------------------------------------------------- the latch (chapter 3)

/-- A change of the latch record; a change of its state sets FULL attention and raises every sign (R55). -/
def setLatch (f : Latch → Latch) (e : Ev) : Ev :=
  let before := e.st.latch.state
  let e := e.on fun s => { s with latch := f s.latch }
  if e.st.latch.state = before then e else (e.attend Attn.full).raiseAll

/-- A latch word write of the persisted value is requested (R56). -/
def requestLatchWrite (e : Ev) : Ev := e.on fun s => { s with store := s.store.requestLatchWrite s.latch.persisted }

-- ---------------------------------------------------------------- zones and detectors (chapter 6)

/-- The segments that a zone exposes, ascending. -/
def exposed (e : Ev) (z : ZoneId) : List SegId := (e.st.zoneUnit.zones.get z).exposed

/-- A change of a zone record: ZONE attention, re-selections, and the ZONE sources (R105, R106). -/
def onZone (z : ZoneId) (f : Zone → Zone) (e : Ev) : Ev :=
  let before := e.st.zoneUnit.zones.get z
  let after := f before
  let e := e.on fun s => { s with zoneUnit := { s.zoneUnit with zones := put s.zoneUnit.zones z after } }
  let e := e.attend (zoneFlags before after)
  let e := if before.effective = after.effective then e else e.raiseSegs after.exposed
  match before.closure, after.closure with
  | false, true => e.addSource .zone z.val after.exposed
  | true, false => e.removeSource .zone z.val after.exposed
  | _, _ => e

/-- The segments exposed by the zone that owns a channel (R113). -/
def exposedBy (e : Ev) (c : ChanId) : List SegId :=
  match (e.st.field.channels.get c).owner with
  | .zone z => e.exposed z
  | _ => []

/-- A change of a qualification record: DETECTOR attention and the DETECTOR sources (R112, R113). -/
def onQual (c : ChanId) (f : Qualification → Qualification) (e : Ev) : Ev :=
  match e.st.zoneUnit.quals.get c with
  | none => e
  | some before =>
    let after := f before
    let e := e.on fun s => { s with zoneUnit := { s.zoneUnit with quals := put s.zoneUnit.quals c (some after) } }
    let e := e.attend (detectorFlags before after)
    match before.state.closes, after.state.closes with
    | false, true => e.addSource .detector c.val (e.exposedBy c)
    | true, false => e.removeSource .detector c.val (e.exposedBy c)
    | _, _ => e

-- ---------------------------------------------------------------- field inputs (chapter 4)

/-- Change a channel record. -/
def setChannel (c : ChanId) (f : Channel → Channel) (e : Ev) : Ev :=
  e.on fun s => { s with field := { s.field with channels := alter s.field.channels c f } }

/-- An accepted change of a channel (R68, R73, R75). -/
def acceptPulse (c : ChanId) (level : Bool) (e : Ev) : Ev :=
  let flags := (e.st.field.channels.get c).acceptFlags
  (e.setChannel c (Channel.accept level)).attend flags

/-- The carrier counter of a DETECTOR channel expires (R74, R110). -/
def loseCarrier (c : ChanId) (e : Ev) : Ev :=
  let e := e.setChannel c fun ch => { ch with carrier := ch.carrier.map Carrier.lose }
  (e.attend Attn.detector).onQual c Qualification.lose

/-- A measurement gate of one channel ends and its result is delivered (R71, R72, R82, R108). -/
def endGate (c : ChanId) (e : Ev) : Ev :=
  let ch := e.st.field.channels.get c
  let e := e.setChannel c Channel.endGate
  match ch.owner with
  | .site i => e.on fun s => { s with sites := alter s.sites i (Site.deliver ch.kind ch.gateLength ch.count) }
  | .zone _ => e.onQual c (Qualification.deliver ch.count)
  | .none => e

/-- The channels of a site whose gates end at its next gate end deliver together, ascending (R72). -/
def deliverSite (i : SiteId) (e : Ev) : Ev := (e.st.field.delivery i).foldl (fun e c => e.endGate c) e

/-- The segments that a site serves, ascending (R80). -/
def served (e : Ev) (i : SiteId) : List SegId :=
  idsWhere fun j => match e.st.road.segs.get j with
    | some sg => sg.site == some i
    | none => false

/-- The WEATHER cause set of one served segment is brought into line: first the causes to add, then the causes to
remove (R94). -/
def alignWeather (t : Site) (i : SegId) (e : Ev) : Ev :=
  match e.st.road.segs.get i with
  | none => e
  | some sg =>
    let causes := weatherCauses t sg.iceAuto sg.windAuto
    let e := causes.foldl (fun e c => if c.2 then e.addSource .weather c.1 [i] else e) e
    causes.foldl (fun e c => if c.2 then e else e.removeSource .weather c.1 [i]) e

/-- The close of a site period (R92). -/
def closePeriod (i : SiteId) (e : Ev) : Ev :=
  let before := e.st.sites.get i
  let f := e.st.field
  let after := before.compute ((f.gateOf i .surfaceTemp).getD 1) (f.gateOf i .airTemp)
  let segs := e.served i
  let e := e.on fun s => { s with sites := put s.sites i after }
  let write := fun (o : Option Segment) => o.map fun sg => { sg with restriction := after.restriction }
  let e := segs.foldl (fun e j => e.on fun s => { s with road := { s.road with segs := alter s.road.segs j write } }) e
  let e := segs.foldl (fun e j => e.alignWeather after j) e
  let e := e.attend (FlagSet.when (siteAttention before after) Attn.site)
  (e.raiseSegs segs).on fun s => { s with sites := alter s.sites i Site.nextPeriod }

/-- The next delivery of a site, and the close of its period where that is the period-end delivery (R72, R81). -/
def siteGateEnd (i : SiteId) (e : Ev) : Ev :=
  if e.st.field.endsPeriod i (e.st.sites.get i) then (e.deliverSite i).closePeriod i else e.deliverSite i

/-- The end of a site period: the period-end delivery is taken, and the period is closed (R81, R92). -/
def sitePeriodEnd (i : SiteId) (e : Ev) : Ev :=
  if e.st.field.endsPeriod i (e.st.sites.get i) then (e.deliverSite i).closePeriod i else e.closePeriod i

-- ---------------------------------------------------------------- notices (chapter 7)

/-- Replace the notice list. -/
def setNotices (f : List Notice → List Notice) (e : Ev) : Ev :=
  e.on fun s => { s with notices := { s.notices with list := f s.notices.list } }

/-- A change to the list that concerns some segments: NOTICE attention and re-selections (R130). -/
def noticeChange (segs : List SegId) (e : Ev) : Ev := (e.attend Attn.notice).raiseSegs segs

/-- One notice evaluation with the clock's value (R127 to R130): every addition of sources, then every removal, and
after both the list is taken forward. -/
def evaluate (e : Ev) : Ev :=
  let now := e.st.notices.clock.value
  let l := e.st.notices.list
  let e := (l.filter (Notice.enters now)).foldl (fun e n => e.addSource .notice n.id n.segs) e
  let e := (l.filter (Notice.ends now)).foldl (fun e n => e.removeSource .notice n.id n.segs) e
  let e := (l.filter (Notice.changes now)).foldl (fun e n => e.noticeChange n.segs) e
  e.setNotices (evaluated now)

/-- An evaluation runs only while the clock is VALID (R127). -/
def evaluateIfValid (e : Ev) : Ev := if e.st.notices.clock.valid then e.evaluate else e

-- ---------------------------------------------------------------- loads (R46, R47, R156, R157, R186, R199, R200)

/-- After the tables are loaded and the start entries placed: SEGMENT attention for the entries, every gate resolved with
its attention, every sign to be selected. Nothing of this happens in an uncommissioned part. -/
def afterLoad (e : Ev) : Ev :=
  if e.st.commissioned then
    (e.onRoad fun ctx r => RoadEv.resolveAll ctx { r with flags := r.flags ||| Attn.segment }).raiseAll
  else e

end Ev

namespace State

/-- A step of the road without more (used where a rule changes timers alone). -/
def onRoadOnly (f : Road → Road) (s : State) : State := { s with road := f s.road }

/-- Finish an event that began in `s`. -/
def event (s : State) (f : Ev → Ev) : State := (f (Ev.start s)).finish

/-- A step of the sign line, and the arbiter on the line that it may have freed (R162). -/
def lineStep (f : BoardEv → BoardEv) (s : State) : State := (s.onBoard f).arbitrate

end State

end Sys2Proof.Machine
end

