-- ==== Sys2Proof/Machine/Reports.lean ====
section
/-! DEFINITION. What STATUS and QUERY report (R189, R190): the reply bodies, field by field in the order of the record
tables, with the encodings that R190 gives and that log 10 and log 11 settle. -/

namespace Sys2Proof.Machine

-- ---------------------------------------------------------------- named values, numbered from 0 (R190)

/-- A segment state, also as STATUS codes it (R189). -/
def SegState.code : SegState → Nat
  | .opened => 0 | .warning => 1 | .closing => 2 | .closed => 3 | .opening => 4
def Role.code : Role → Nat
  | .approach => 0 | .info => 1
def GateState.code : GateState → Nat
  | .unknown => 0 | .raised => 1 | .lowered => 2 | .raising => 3 | .lowering => 4 | .fault => 5
def GateFault.code : GateFault → Nat
  | .early => 0 | .stall => 1 | .conflict => 2 | .displaced => 3
def Demand.code : Demand → Nat
  | .raise => 0 | .lower => 1
def TravelCheck.code : TravelCheck → Nat
  | .checked => 0 | .unchecked => 1
/-- A latch state, also as STATUS codes it (R189). -/
def LatchState.code : LatchState → Nat
  | .clear => 0 | .latched => 1 | .proposed => 2
def Proposer.code : Proposer → Nat
  | .valley => 0 | .avalanche => 1
/-- A key position, also as STATUS codes it (R189). -/
def KeyPosition.code : KeyPosition → Nat
  | .locked => 0 | .operate => 1 | .service => 2
def ChanKind.code : ChanKind → Nat
  | .unused => 0 | .wind => 1 | .surfaceTemp => 2 | .airTemp => 3 | .precip => 4 | .detector => 5
def LevelStatus.code : LevelStatus → Nat
  | .set => 0 | .unknown => 1
def NotifyMode.code : NotifyMode → Nat
  | .none => 0 | .enter => 1 | .leave => 2 | .both => 3
def DetectorState.code : DetectorState → Nat
  | .quiet => 0 | .pending => 1 | .confirmed => 2 | .failed => 3
def NoticeKind.code : NoticeKind → Nat
  | .scheduled => 0 | .seasonal => 1
/-- A notice state, also as the replies of R132 and R134 code it (R181). -/
def NoticeState.code : NoticeState → Nat
  | .waiting => 0 | .announced => 1 | .inForce => 2
def Format.code : Format → Nat
  | .integer => 0 | .tenths => 1 | .time => 2
def LineState.code : LineState → Nat
  | .stale => 0 | .current => 1 | .sending => 2 | .fault => 3
def SignFault.code : SignFault → Nat
  | .noReply => 0 | .rejected => 1 | .mismatch => 2 | .stalled => 3
def Phase.code : Phase → Nat
  | .selecting => 0 | .resuming => 1 | .sendingUnits => 2 | .showing => 3
/-- A field of two values, the one that its record table names first as 0: true, ACTIVE, ON, HIGH, PRESENT (R190). -/
def firstNamed (b : Bool) : List Byte := byte1 (if b then 0 else 1)
/-- FULL is 0 and HALF is 1. -/
def widthField : Width → List Byte
  | .full => byte1 0
  | .half => byte1 1
/-- A flag set as the 16-bit field of STATUS and ATTENTION_ENABLE; bits 11 to 15 are 0 (R186). -/
def flagsField (f : FlagSet) : List Byte := byte2 f.toNat
/-- A flag set as a QUERY sends a set: its count, then its flags by their numbers of R186, ascending (R190, log 10). -/
def flagListField (f : FlagSet) : List Byte := listField byte1 ((List.range 11).filter fun n => f.getLsbD n)

-- ---------------------------------------------------------------- STATUS (R189)

/-- The hold kinds present, bit b for the kind of code b (R189). -/
def holdBits (h : HoldSet) : Nat :=
  ((List.finRange 9).map fun i => if (h.get i).isSome then 2 ^ i.val else 0).sum

/-- The four bytes of one configured segment (R189). -/
def statusSegment (r : Road) (i : SegId) : List Byte :=
  match r.segs.get i with
  | none => []
  | some sg => idField i ++ byte1 sg.state.code ++ byte2 (holdBits sg.holds)

/-- The mode field (R189, R198). -/
def modeCode (s : State) : Nat := if s.store.modeOn then 2 else if s.commissioned then 1 else 0

/-- The body of a STATUS reply on a link (R189). -/
def statusBody (s : State) (l : Link) : List Byte :=
  let ls := s.links
  let bits := (if ls.valley.active then 1 else 0) + (if ls.avalanche.active then 2 else 0)
    + (if ls.panel.active then 4 else 0)
  [Result.ok.code] ++ flagsField (ls.get l).attention ++ byte1 bits ++ byte1 s.latch.state.code ++ byte1 s.key.code
    ++ flag1 s.notices.clock.valid ++ byte4 s.notices.clock.value ++ byte1 (modeCode s) ++ byte1 s.store.activity
    ++ byte1 s.road.configuredIds.length ++ s.road.configuredIds.flatMap (statusSegment s.road)

-- ---------------------------------------------------------------- QUERY: the records (R190)

/-- One hold entry (R4). -/
def entryField (k : Nat) (e : HoldEntry) : List Byte :=
  byte1 k ++ optField byte3 e.since ++ optField (fun b => [b]) e.reason ++ listField byte1 e.sources

/-- A hold set as the kinds that it holds, in the order of the kinds (R1, R4, log 11). -/
def holdsField (h : HoldSet) : List Byte := listField idField ((List.finRange 9).filter fun i => (h.get i).isSome)

/-- The entries of a hold set behind their count, in the order of the kinds (R4, log 11). -/
def entriesField (h : HoldSet) : List Byte :=
  let l := (List.finRange 9).filterMap fun i => (h.get i).map fun e => entryField i.val e
  byte1 l.length ++ l.flatten

/-- A segment record, then its hold entries with since, reason and sources (R1, R4, R190). -/
def segmentFields (sg : Segment) : List Byte :=
  byte1 sg.state.code ++ holdsField sg.holds ++ listField idField sg.gates
    ++ listField (fun p => idField p.1 ++ byte1 p.2.code) sg.signs ++ optField idField sg.site
    ++ listField idField sg.zones ++ firstNamed sg.iceAuto ++ firstNamed sg.windAuto ++ byte2 sg.warningInterval
    ++ timerField sg.confirmWait ++ timerField sg.warningTimer ++ firstNamed sg.incomplete
    ++ byte1 sg.restriction.advisory ++ firstNamed sg.restriction.chains ++ firstNamed sg.restriction.ban
    ++ entriesField sg.holds

/-- A gate record (R29). -/
def gateFields (g : Gate) : List Byte :=
  listField idField g.listing ++ byte1 g.tMin ++ byte1 g.tMax ++ byte1 g.state.code
    ++ optField (fun c => byte1 c.code) g.cause ++ byte1 g.demand.code ++ optField (fun c => byte1 c.code) g.check
    ++ timerField g.timer ++ firstNamed g.raisedSwitch.level ++ firstNamed g.loweredSwitch.level
    ++ firstNamed g.raiseDrive ++ firstNamed g.lowerDrive

/-- A present field of a page reference: value, then format (R145). -/
def fieldField (f : Field) : List Byte := signed4 f.value ++ byte1 f.format.code

/-- A page reference (R145); the flash flag is 1 where the page flashes, as in a request (log 42). -/
def refField (r : PageRef) : List Byte :=
  byte1 r.page ++ optField fieldField r.fieldA ++ optField fieldField r.fieldB ++ flag1 r.flash

/-- A sign record without its codes (R145); the override, and what R156 leaves absent, are optional fields (log 11). -/
def signFields (g : Sign) : List Byte :=
  idField g.segment ++ byte1 g.role.code ++ optField refField g.override
    ++ optField (fun d => byte1 d.cls.idx.val) g.desired ++ optField (fun d => refField d.ref) g.desired
    ++ optField (fun d => byte2 d.sum) g.desired ++ firstNamed g.urgent ++ firstNamed g.contentMark ++ firstNamed g.needs

/-- A probe timer: stopped, running or expired (R160, R190). -/
def probeField : ProbeTimer → List Byte
  | .stopped => byte1 0 ++ byte4 0
  | .running ms => byte1 1 ++ byte4 ms
  | .expired => byte1 2 ++ byte4 0

/-- A confirmed page, or the page of a transfer, without its codes (R160, R161). -/
def confirmedField (c : Confirmed) : List Byte := refField c.ref ++ byte2 c.sum

/-- A line record without its codes (R160). -/
def lineFields (r : LineRecord) : List Byte :=
  byte1 r.state.code ++ optField (fun c => byte1 c.code) r.cause ++ optField confirmedField r.confirmed
    ++ widthField r.width ++ probeField r.probe

/-- A transfer context without its codes (R161). -/
def transferFields (t : Transfer) : List Byte :=
  idField t.target ++ confirmedField t.page ++ byte1 t.phase.code
    ++ listField (fun u => idField u.block ++ [u.part.code]) t.units ++ byte1 t.next ++ flag1 t.retryUsed
    ++ byte1 t.breaks ++ flag1 t.mismatchUsed ++ firstNamed t.changePending

/-- The transfer context while the sign is its target (R160). -/
def transferOf (s : State) (i : SignId) : Option Transfer :=
  match s.board.line.transfer with
  | some t => if t.target = i then some t else none
  | none => none

/-- The desired page of a sign is unreadable in the library (R141); sent as 1 where it is (log 42). -/
def unreadable (s : State) (i : SignId) : Bool :=
  match (s.board.signs.get i).desired with
  | some d => (s.store.pageCodes d.ref.page).isNone
  | none => false

/-- The parts of a SIGN report (R190). -/
def signPart (s : State) (i : SignId) (part : Nat) : Option (List Byte) :=
  let g := s.board.signs.get i
  let r := s.board.line.records.get i
  if part = 0 then
    some (signFields g ++ lineFields r ++ optField transferFields (transferOf s i) ++ flag1 (unreadable s i))
  else if part = 1 then some (optField Desired.codes g.desired)
  else if part = 2 then some (optField Confirmed.codes r.confirmed)
  else if part = 3 then some (optField (fun t => t.page.codes) (transferOf s i))
  else none

/-- A qualification record (R107). -/
def qualFields (q : Qualification) : List Byte :=
  byte2 q.trip ++ byte1 q.np ++ byte1 q.nc ++ byte1 q.notify.code ++ byte1 q.state.code ++ byte1 q.count
    ++ optField byte2 q.latest ++ firstNamed q.test

/-- A zone record, then its detectors' qualification records behind a count of their own (R100, log 11). -/
def zoneFields (s : State) (i : ZoneId) : List Byte :=
  let z := s.zoneUnit.zones.get i
  let chans := s.field.ofZone i
  byte1 z.setLevel ++ byte1 z.status.code ++ byte1 z.linkLoss ++ byte1 z.warnThreshold ++ byte1 z.closeThreshold
    ++ byte1 z.effective ++ firstNamed z.warning ++ firstNamed z.closure ++ listField idField z.exposed
    ++ listField idField chans ++ firstNamed z.setSinceReset ++ listField qualFields (chans.filterMap s.zoneUnit.quals.get)

/-- The owner of a channel as an optional id (R66). -/
def ownerField : Owner → List Byte
  | .none => flag1 false
  | .site i => flag1 true ++ idField i
  | .zone i => flag1 true ++ idField i

/-- A channel record with its filtered level and the time elapsed in its gate; 0 without a gate (R66, R67). -/
def channelFields (f : FieldUnit) (i : ChanId) : List Byte :=
  let c := f.channels.get i
  byte1 c.kind.code ++ ownerField c.owner ++ byte1 c.gateLength ++ byte1 c.nf
    ++ optField (fun k => byte2 k.limit) c.carrier ++ byte2 c.count ++ optField byte2 c.last
    ++ optField (fun k => firstNamed k.present) c.carrier ++ optField (fun k => timerField k.counter) c.carrier
    ++ firstNamed c.filter.level ++ byte4 (if c.counting then f.gateElapsed i else 0)

/-- A temperature: a value, INVALID or absent (R79, R190). -/
def tempField : Temp → List Byte
  | .value t => byte1 0 ++ signed2 t
  | .invalid => byte1 1 ++ signed2 0
  | .absent => byte1 2 ++ signed2 0

/-- The grip score: a value, INVALID or absent (R79, R190). -/
def gripField : Grip → List Byte
  | .value g => byte1 0 ++ byte1 g
  | .invalid => byte1 1 ++ byte1 0
  | .absent => byte1 2 ++ byte1 0

/-- A site record with the time elapsed in its period, 0 when it is not in use, and the penalties (R79, R88). The channels
are a list of ids without their kinds, and a latest surface or air result, which an empty accumulator lacks (R82), is an
optional field (log 10); the penalties are Pt, Pm, Ps and the limited Pc behind one presence byte
(log 11). -/
def siteFields (f : FieldUnit) (t : Site) (i : SiteId) : List Byte :=
  let c := t.config
  listField idField (f.ofSite i) ++ byte1 c.period ++ byte2 c.w ++ byte2 c.f0 ++ byte1 c.s ++ byte1 c.pg ++ byte1 c.mg
    ++ byte1 c.t1 ++ byte1 c.t2 ++ byte1 c.t3 ++ byte1 c.t4 ++ byte2 c.wBan ++ byte2 c.wClose ++ byte1 c.len
    ++ byte1 c.fail
    ++ byte3 t.acc.windSum ++ byte2 t.acc.gustMax ++ byte3 t.acc.precipSum ++ optField byte2 t.acc.surface
    ++ optField byte2 t.acc.air ++ listField byte1 t.gradeRing ++ listField byte1 t.windRing
    ++ tempField t.ts ++ tempField t.ta ++ optField byte2 t.vMean ++ optField byte2 t.vGust ++ optField byte1 t.p
    ++ gripField t.g ++ optField byte1 t.computedGrade ++ byte1 t.reportedGrade ++ optField byte1 t.computedWind
    ++ byte1 t.reportedWind ++ byte4 (if t.inUse then f.periodElapsed t else 0)
    ++ optField (fun p => byte1 p.thermal ++ byte1 p.moisture ++ byte1 p.snowfall ++ byte1 p.combined) t.penalties

/-- A notice record (R125). -/
def noticeFields (n : Notice) : List Byte :=
  byte1 n.id ++ byte1 n.kind.code ++ listField idField n.segs ++ byte3 n.start ++ optField byte3 n.stop
    ++ byte2 n.lead ++ optField byte1 n.page ++ byte1 n.revision ++ byte1 n.state.code

/-- One line of the notice list (R125). -/
def noticeLine (n : Notice) : List Byte := byte1 n.id ++ byte3 n.start ++ byte1 n.state.code

/-- The latch record (R49). -/
def latchFields (s : State) : List Byte :=
  byte1 s.latch.state.code ++ optField (fun p => byte1 p.code) s.latch.proposer ++ timerField s.latch.window
    ++ byte2 s.latch.windowLength ++ flag1 s.store.wordWriting ++ [s.latch.stored.code]

/-- A link record, then its attention and enable sets (R183, R190). -/
def linkFields (r : LinkRecord) : List Byte :=
  firstNamed r.active ++ optField byte2 r.limit ++ timerField r.timer ++ flagListField r.attention
    ++ flagListField r.enable

/-- The report of a link. R61 says that QUERY reports the key pins in the key position, and R190 gives it no place: it follows
the enable set in the report of the panel link, whose requests it judges (log 43). -/
def linkReport (s : State) (l : Link) : List Byte :=
  linkFields (s.links.get l) ++ if l = .panel then byte1 s.key.code else []

/-- The link of a code (R190). -/
def linkOf (n : Nat) : Option Link :=
  if n = 0 then some .valley else if n = 1 then some .avalanche else if n = 2 then some .panel else none

-- ---------------------------------------------------------------- QUERY (R190)

/-- The fields that a QUERY reports, or the outcome that refuses it: object, then part, then id (R190, log 13). -/
def queryFields (s : State) (object id part : Byte) : Except Result (List Byte) :=
  let partOk : Bool := if object = 2 then part.toNat ≤ 3 else part == 0
  if object.toNat > 9 then .error .range
  else if !partOk then .error .range
  else if object = 0 then
    match idOf 8 id with
    | none => .error .range
    | some i => match s.road.segs.get i with
      | none => .error .range
      | some sg => .ok (segmentFields sg)
  else if object = 1 then
    match idOf 6 id with
    | none => .error .range
    | some i => .ok (gateFields (s.road.gates.get i))
  else if object = 2 then
    match idOf 12 id with
    | none => .error .range
    | some i => match signPart s i part.toNat with
      | none => .error .range
      | some l => .ok l
  else if object = 3 then
    match idOf 6 id with
    | none => .error .range
    | some i => .ok (zoneFields s i)
  else if object = 4 then
    match idOf 16 id with
    | none => .error .range
    | some i => .ok (channelFields s.field i)
  else if object = 5 then
    match idOf 4 id with
    | none => .error .range
    | some i => .ok (siteFields s.field (s.sites.get i) i)
  else if object = 6 then
    if within 1 16 id.toNat then
      match findNotice s.notices.list id.toNat with
      | none => .error .unknownId
      | some n => .ok (noticeFields n)
    else .error .range
  else if object = 7 then .ok (listField noticeLine s.notices.list)
  else if object = 8 then .ok (latchFields s)
  else
    match linkOf id.toNat with
    | none => .error .range
    | some l => .ok (linkReport s l)

/-- The body of a QUERY reply: the outcome, the object, the id, the part and the fields; a refusal carries the outcome
alone (R181, R190). -/
def queryBody (s : State) (object id part : Byte) : List Byte :=
  match queryFields s object id part with
  | .error r => [r.code]
  | .ok l => [Result.ok.code, object, id, part] ++ l

end Sys2Proof.Machine
end

