-- ==== Sys2Proof/Machine/Requests.lean ====
section
/-! DEFINITION. Taking a request on a link (R177 to R181, R183): the frame is heard, the request is judged, its effects
take place, and the one reply begins to leave. A request that the receiver cannot take, because the part is sending its
reply on that link, is lost (R178). -/

namespace Sys2Proof.Machine

/-- What judging a request gives: a refusal with its reply body, which changes nothing more, or the effects, with the
reply built on the state that they leave (R178, R179). -/
inductive Verdict where
  | refuse (body : List Byte)
  | accept (e : Ev) (reply : State → List Byte)

namespace Verdict

/-- A refusal that carries the outcome alone (R181). -/
def deny (r : Result) : Verdict := .refuse [r.code]

/-- The checks in order, then the acceptance (R179). -/
def check (l : List (Option Result)) (ok : Unit → Verdict) : Verdict :=
  match firstFailure l with
  | some r => deny r
  | none => ok ()

/-- A body that does not fit is answered with FORMAT (R177, log 8). -/
def fitting (fits : Bool) (v : Unit → Verdict) : Verdict := if fits then v () else deny .format

/-- An acceptance whose reply carries OK and nothing more. -/
def done (e : Ev) : Verdict := .accept e fun _ => [Result.ok.code]

/-- An acceptance whose reply carries OK and fields that do not depend on the state. -/
def answer (e : Ev) (fields : List Byte) : Verdict := .accept e fun _ => Result.ok.code :: fields

end Verdict

namespace LinkRecord

/-- A valid frame: the timer is reloaded, where the link has one, and the link is ACTIVE (R183). -/
def reload (r : LinkRecord) : LinkRecord := { r with active := true, timer := r.limit.map (· * 1000) }

/-- The receiver is sending a reply (R178). -/
def replying (r : LinkRecord) : Bool :=
  match r.receiver with
  | .replying _ => true
  | _ => false

end LinkRecord

namespace Ev

/-- A valid frame on the valley or avalanche link sets its start-up mark; a mark newly set has the automatic start-up
release judged (R25). -/
def setMark (l : Link) (e : Ev) : Ev :=
  match l with
  | .valley => if e.st.valleyHeard then e else (e.on fun s => { s with valleyHeard := true }).judgeRelease
  | .avalanche => if e.st.avalancheHeard then e else (e.on fun s => { s with avalancheHeard := true }).judgeRelease
  | .panel => e

/-- A valid frame is taken on a link: first its timer and state, then its start-up mark (R178, R183). -/
def heard (l : Link) (e : Ev) : Ev :=
  let was := (e.st.links.get l).active
  let e := e.on fun s => { s with links := s.links.alter l LinkRecord.reload }
  let e := if was then e else e.attend Attn.link
  e.setMark l

end Ev

/-- The reply begins to leave: its kind is the request kind plus 0x80 (R176, R178). -/
def State.startReply (l : Link) (kind : Byte) (body : List Byte) (s : State) : State :=
  { s with links := s.links.alter l fun r => { r with receiver := .replying (linkFrame (kind + 0x80) body) } }

/-- Take a request of a kind on a link: everything it does is done in this event (R178). -/
def takeRequest (l : Link) (kind : Byte) (judge : Ev → Verdict) (s : State) : State :=
  if (s.links.get l).replying then s
  else
    let e := (Ev.start s).heard l
    match judge e with
    | .refuse body => e.finish.startReply l kind body
    | .accept e reply =>
      let s := e.finish
      s.startReply l kind (reply s)

/-- The outcome of a command: the next state. -/
abbrev Out := Host.Outcome State Fault Refusal

/-- The meaning of a request (R178). -/
def request (l : Link) (kind : Byte) (judge : Ev → Verdict) (s : State) : Out := .next (takeRequest l kind judge s)

end Sys2Proof.Machine
end

