-- ==== Sys2Proof/Machine/GateCommands.lean ====
section
/-! DEFINITION. The commands of the gate drive: GATE_FAULT_CLEAR, END_SWITCH_CHANGE, TRAVEL_TIMEOUT (R30, R38, R44). -/

namespace Sys2Proof.Machine

/-- The reply fields of GATE_FAULT_CLEAR: the gate state and fault cause that the resolution left (R44). -/
def gateAnswer (g : Gate) : List Byte :=
  Result.ok.code :: (byte1 g.state.code ++ optField (fun c => byte1 c.code) g.cause)

/-- GATE_FAULT_CLEAR (R44). -/
def judgeGateFaultClear (l : Link) (gate : Byte) (e : Ev) : Verdict :=
  Verdict.check [e.st.needPanelService l, e.st.needCommissioned] fun _ =>
    match idOf 6 gate with
    | none => Verdict.deny .range
    | some g =>
      if (e.st.road.gates.get g).state = .fault then
        .accept (e.onRoad fun ctx => RoadEv.clearFault ctx g) fun s => gateAnswer (s.road.gates.get g)
      else Verdict.deny .state

def execGateFaultClear (l : Link) (gate : Byte) (s : State) : Out := request l 0x10 (judgeGateFaultClear l gate) s

/-- The filter of an end switch. -/
def Gate.switch (g : Gate) : Switch → Filter
  | .raised => g.raisedSwitch
  | .lowered => g.loweredSwitch

/-- END_SWITCH_CHANGE: the accepted new level of one end switch; a level that the switch already has is no change
(R30, R64, log 5). -/
def execEndSwitchChange (g : GateId) (sw : Switch) (level : Bool) (s : State) : Out :=
  .next (if ((s.road.gates.get g).switch sw).level = level then s
    else s.event fun e => e.onRoad fun ctx => RoadEv.switchChange ctx g sw level)

/-- TRAVEL_TIMEOUT: acts when the travel timer has reached T_max (R38, log 4). -/
def execTravelTimeout (g : GateId) (s : State) : Out :=
  .next (if (s.road.gates.get g).timedOut then s.event fun e => e.onRoad fun ctx => RoadEv.stall ctx g else s)

end Sys2Proof.Machine
end

