-- ==== Sys2Proof/Machine/LatchCommands.lean ====
section
/-! DEFINITION. The commands of the full closure latch: FULL_CLOSE, RELEASE_PROPOSE, RELEASE_CONFIRM, the expiry of the
joint window and the completion of a latch word write (R51 to R57). -/

namespace Sys2Proof.Machine

namespace Latch

/-- LATCHED, with no proposal and no window (R51, R53). -/
def toLatched (l : Latch) : Latch := { l with state := .latched, proposer := none, window := none }

/-- CLEAR, with no proposal and no window (R54). -/
def toClear (l : Latch) : Latch := { l with state := .clear, proposer := none, window := none }

/-- PROPOSED by a proposer, with a full window (R52). -/
def propose (p : Proposer) (l : Latch) : Latch :=
  { l with state := .proposed, proposer := some p, window := some (l.windowLength * 1000) }

/-- The joint window of a proposal has run out (R53). -/
def windowDue (l : Latch) : Bool := l.state == .proposed && l.window.due

end Latch

/-- The effect of an accepted FULL_CLOSE by the latch state (R50, R51). -/
def Ev.fullClose (e : Ev) : Ev :=
  match e.st.latch.state with
  | .clear => ((e.setLatch Latch.toLatched).place .full none e.segs).requestLatchWrite
  | .proposed => e.setLatch Latch.toLatched
  | .latched => e

/-- The effect of an accepted RELEASE_CONFIRM (R50, R54). -/
def Ev.releaseFull (e : Ev) : Ev := ((e.setLatch Latch.toClear).remove .full e.segs).requestLatchWrite

/-- FULL_CLOSE (R51). -/
def judgeFullClose (e : Ev) : Verdict :=
  Verdict.check [e.st.needCommissioned] fun _ => Verdict.done e.fullClose

/-- RELEASE_PROPOSE (R52). -/
def judgeReleasePropose (l : Link) (e : Ev) : Verdict :=
  match l with
  | .panel => Verdict.deny .authority
  | .valley =>
    Verdict.check [e.st.needCommissioned, need (e.st.latch.state != .clear) .state] fun _ =>
      Verdict.answer (e.setLatch (Latch.propose .valley)) (byte2 e.st.latch.windowLength)
  | .avalanche =>
    Verdict.check
      [need e.st.valleySilent .authority, e.st.needCommissioned, need (e.st.latch.state != .clear) .state] fun _ =>
      Verdict.answer (e.setLatch (Latch.propose .avalanche)) (byte2 e.st.latch.windowLength)

/-- RELEASE_CONFIRM (R54). -/
def judgeReleaseConfirm (l : Link) (e : Ev) : Verdict :=
  Verdict.check [e.st.needPanelService l, e.st.needCommissioned, need (e.st.latch.state == .proposed) .state] fun _ =>
    Verdict.done e.releaseFull

def execFullClose (l : Link) (s : State) : Out := request l 0x11 judgeFullClose s
def execReleasePropose (l : Link) (s : State) : Out := request l 0x12 (judgeReleasePropose l) s
def execReleaseConfirm (l : Link) (s : State) : Out := request l 0x13 (judgeReleaseConfirm l) s

/-- JOINT_WINDOW_EXPIRY: acts when the window has run out (R53, log 4). -/
def execJointWindowExpiry (s : State) : Out :=
  .next (if s.latch.windowDue then s.event fun e => e.setLatch Latch.toLatched else s)

/-- The latch comparison at the completion of a write, for the value that the store reads then (R57). -/
def State.settleLatch (stored : LatchValue) (s : State) : State :=
  { s with latch := { s.latch with stored := stored },
           store := s.store.settleLatch s.latch.persisted stored }

/-- LATCH_WORD_WRITE_COMPLETE: acts when a latch word write is in flight (R57, log 4). -/
def execLatchWordWriteComplete (s : State) : Out :=
  .next (match s.store.inFlight with
    | some (.latchSlot second v g) =>
      (({ s with store := s.store.land (.latchSlot second v g) } : State).settleLatch v).attend Attn.store
    | _ => s)

end Sys2Proof.Machine
end

