-- ==== Sys2Proof/Machine/StoreCommands.lean ====
section
/-! DEFINITION. The commands of the commissioning store: STORE_WRITE, STORE_READ, PROTECT_SET, STORE_ERASE, STORE_SUM,
commissioning mode, COMMIT, the completions of writes, and HARDWARE_RESET (chapter 11). -/

namespace Sys2Proof.Machine

-- ---------------------------------------------------------------- writes and reads (R193, R195, R196, R197, R201)

/-- Change the store. -/
def Ev.onStore (f : Store → Store) (e : Ev) : Ev := e.on fun s => { s with store := f s.store }

/-- The write that a STORE_WRITE of an existing record begins (R195). -/
def recordWrite (region number : Nat) (bytes : List Byte) : Option StoreWrite :=
  if region = 0 then (if h : number < 53 then some (.description ⟨number, h⟩ (withCheck bytes)) else none)
  else if region = 1 then (if h : number < 128 then some (.library ⟨number, h⟩ (withCheck bytes)) else none)
  else none

/-- A write begins (R195). -/
def Store.begin (w : StoreWrite) (st : Store) : Store := { st with inFlight := some w }

/-- The protect flag of a region (R196). -/
def Store.isProtected (st : Store) (region : Nat) : Bool := if region = 0 then st.protectDesc else st.protectLib

/-- Set the protect flag of a region (R196). -/
def Store.protect (region : Nat) (st : Store) : Store :=
  if region = 0 then { st with protectDesc := true } else { st with protectLib := true }

/-- STORE_WRITE (R195). -/
def judgeStoreWrite (l : Link) (region number : Byte) (bytes : List Byte) (e : Ev) : Verdict :=
  let st := e.st.store
  Verdict.fitting (storeBytesFit region number bytes) fun _ =>
  Verdict.check
    [need (region.toNat ≤ 1) .range,
     need (if region = 0 then l == .panel else l != .avalanche) .authority,
     need (l != .panel || e.st.keyService) .key,
     need (region != 0 || st.modeOn) .state] fun _ =>
    match recordWrite region.toNat number.toNat bytes with
    | none => Verdict.deny .range
    | some w =>
      Verdict.check
        [need (!st.busy) .busy, need (!st.isProtected region.toNat) .isProtected,
         need (fieldsOk region.toNat number.toNat bytes) .range] fun _ =>
        Verdict.done (e.onStore (Store.begin w))

/-- The condition and bytes of a record in a STORE_READ reply (R193). -/
def readFields : Record → List Byte
  | .blank => byte1 0
  | .valid b => byte1 1 ++ b
  | .failing b => byte1 2 ++ b

/-- STORE_READ (R193). -/
def judgeStoreRead (region number : Byte) (e : Ev) : Verdict :=
  match e.st.store.record region.toNat number.toNat with
  | none => Verdict.deny .range
  | some r =>
    Verdict.answer e (if e.st.store.writing region.toNat number.toNat then byte1 3 else readFields r)

/-- PROTECT_SET (R196). -/
def judgeProtectSet (l : Link) (region : Byte) (e : Ev) : Verdict :=
  Verdict.check [e.st.needPanelService l, need (region.toNat ≤ 1) .range] fun _ =>
    if e.st.store.isProtected region.toNat then Verdict.done e
    else if e.st.store.busy then Verdict.deny .busy
    else Verdict.done (e.onStore fun st => (st.protect region.toNat).beginControlWrite st.commissionId)

/-- An erase begins: the working protect flags and the commission id become clear and 0 (R197). -/
def Store.beginErase (st : Store) : Store :=
  { st with inFlight := some .erase, protectDesc := false, protectLib := false, commissionId := 0 }

/-- STORE_ERASE (R197). -/
def judgeStoreErase (l : Link) (e : Ev) : Verdict :=
  Verdict.check [e.st.needPanelService l, need e.st.store.modeOn .state, need (!e.st.store.busy) .busy] fun _ =>
    Verdict.done (e.onStore Store.beginErase)

/-- What a record adds to the store sum; a blank one adds nothing (R201). -/
def recordSum : Record → Nat
  | .blank => 0
  | .valid b => byteSum b
  | .failing b => byteSum b

/-- The store sum (R201). -/
def Store.sum (st : Store) : Nat :=
  (((List.finRange 53).map fun i => recordSum (st.description.get i)).sum
    + ((List.finRange 128).map fun i => recordSum (st.library.get i)).sum + st.commissionId.toNat) % 65536

/-- STORE_SUM (R201). -/
def judgeStoreSum (e : Ev) : Verdict :=
  Verdict.check [need (!(e.st.store.inFlight == some .erase)) .busy] fun _ =>
    Verdict.answer e (byte2 e.st.store.sum)

-- ---------------------------------------------------------------- commissioning mode and COMMIT (R198, R199)

/-- COMMISSION_ENTER (R198). -/
def judgeCommissionEnter (l : Link) (e : Ev) : Verdict :=
  Verdict.check
    [e.st.needPanelService l,
     need (!e.st.store.enteredSince && (!e.st.commissioned || e.st.road.allClosed)) .state] fun _ =>
    Verdict.done (e.onStore fun st => { st with modeOn := true, enteredSince := true })

/-- COMMISSION_EXIT (R198). -/
def judgeCommissionExit (l : Link) (e : Ev) : Verdict :=
  Verdict.check [e.st.needPanelService l, need e.st.store.modeOn .state] fun _ =>
    Verdict.done (e.onStore fun st => { st with modeOn := false })

/-- The reload of a COMMIT, its control record write, and each block's COMMIT values (R28, R47, R60, R78, R98, R119, R157,
R175, R184, R199). -/
def Ev.commit (e : Ev) : Ev :=
  let since := e.st.since
  let faulty := e.st.board.line.faulty
  let id := e.st.store.commissionId + 1
  let e := e.on fun s =>
    let s := s.loadTables.placeStart since
    { s with valleyHeard := false, avalancheHeard := false, board := s.board.setLine SignLine.commit,
             store := s.store.beginControlWrite id }
  (e.attend (FlagSet.when (anyId fun i => faulty.get i) Attn.sign)).afterLoad

/-- COMMIT (R199). -/
def judgeCommit (l : Link) (e : Ev) : Verdict :=
  Verdict.check
    [e.st.needPanelService l, need e.st.store.modeOn .state, need e.st.road.allClosed .state,
     need e.st.notices.list.isEmpty .state, need (!e.st.store.busy) .busy, need e.st.store.loadOk .state] fun _ =>
    .accept e.commit fun s => Result.ok.code :: splitWord16 s.store.commissionId

def execStoreWrite (l : Link) (region number : Byte) (bytes : List Byte) (s : State) : Out :=
  request l 0x18 (judgeStoreWrite l region number bytes) s
def execStoreRead (l : Link) (region number : Byte) (s : State) : Out := request l 0x19 (judgeStoreRead region number) s
def execProtectSet (l : Link) (region : Byte) (s : State) : Out := request l 0x1A (judgeProtectSet l region) s
def execStoreErase (l : Link) (s : State) : Out := request l 0x1B (judgeStoreErase l) s
def execStoreSum (l : Link) (s : State) : Out := request l 0x1D judgeStoreSum s
def execCommissionEnter (l : Link) (s : State) : Out := request l 0x16 (judgeCommissionEnter l) s
def execCommissionExit (l : Link) (s : State) : Out := request l 0x17 (judgeCommissionExit l) s
def execCommit (l : Link) (s : State) : Out := request l 0x1C (judgeCommit l) s

-- ---------------------------------------------------------------- completions (R57, R154, R195, R197)

/-- A write lands: its record, STORE attention, the latch comparison for the value then stored (R57, R195). -/
def State.landWrite (w : StoreWrite) (stored : LatchValue) (s : State) : State :=
  (({ s with store := s.store.land w } : State).settleLatch stored).attend Attn.store

/-- The pages that a test names have been rewritten: their signs are recomposed, and the arbiter acts (R154). -/
def State.rewritten (p : Nat → Bool) (s : State) : State := s.lineStep (BoardEv.recomposeWhere s.store p)

/-- STORE_WRITE_COMPLETE: acts when a record write or a control record write is in flight (R195, log 4). -/
def execStoreWriteComplete (s : State) : Out :=
  .next (match s.store.inFlight with
    | some (.description n b) => s.landWrite (.description n b) s.latch.stored
    | some (.library n b) => (s.landWrite (.library n b) s.latch.stored).rewritten fun p => p == n.val
    | some (.control b) => s.landWrite (.control b) s.latch.stored
    | _ => s)

/-- ERASE_COMPLETE: acts when an erase is in flight; the stored value becomes CLEAR (R57, R197, log 4). -/
def execEraseComplete (s : State) : Out :=
  .next (match s.store.inFlight with
    | some .erase => (s.landWrite .erase .clear).rewritten fun _ => true
    | _ => s)

-- ---------------------------------------------------------------- HARDWARE_RESET (R200)

/-- A filter after the first sample (R63). -/
def firstSample (level : Bool) : Filter := ⟨level, 0⟩

/-- The filters of a gate's end switches after the first sample (R46, R63). -/
def resetGate (levels : Levels) (i : GateId) : Gate :=
  { State.idleGate with raisedSwitch := firstSample (levels.raised.get i),
                        loweredSwitch := firstSample (levels.lowered.get i) }

/-- The filter and the edge detector of a pulse input after the first sample (R63). -/
def resetChannel (levels : Levels) (i : ChanId) : Channel :=
  { State.idleChannel with filter := firstSample (levels.pulse.get i), edge := levels.pulse.get i }

/-- The part before the load: the store as the reset leaves it, with its working copies, the latch from its word, the
first samples, and the reset values that no description changes (R27, R59, R63, R124, R140, R173, R186, R192, R196,
R198). The queue of commands stands. -/
def resetBase (levels : Levels) (s : State) : State :=
  let st := (s.store.cut s.draws).reload
  let word := readLatchWord st.slot0 st.slot1
  { State.reset with
    key := keyPosition levels.keyA levels.keyB
    road := { segs := Vector.replicate 8 none, gates := Vector.ofFn (resetGate levels) }
    latch := { State.reset.latch with
               state := (match word with | .clear => .clear | .latched => .latched), stored := word }
    field := { channels := Vector.ofFn (resetChannel levels), keyA := firstSample levels.keyA,
               keyB := firstSample levels.keyB, sinceEpoch := 0 }
    store := st
    draws := if s.store.inFlight.isSome then s.draws + 1 else s.draws
    pending := s.pending }

/-- The load, its hold entries, the gates resolved, every sign selected, the line given away (R27, R46, R156, R173,
R200). -/
def afterReset (levels : Levels) (s : State) : State :=
  (((resetBase levels s).loadAtReset.placeStart none).event Ev.afterLoad)

/-- HARDWARE_RESET (R200). -/
def execHardwareReset (levels : Levels) (s : State) : Out := .next (afterReset levels s)

end Sys2Proof.Machine
end

