-- ==== Sys2Proof/Machine/FieldCommands.lean ====
section
/-! DEFINITION. The commands of the field input unit and of the time base: FIELD_RESTART, KEY_PIN_CHANGE,
PULSE_INPUT_CHANGE, CARRIER_LOSS, MEASUREMENT_GATE_END, SITE_PERIOD_CLOSE and INPUT_SAMPLE (R61 to R77, R81, R92, R191). -/

namespace Sys2Proof.Machine

-- ---------------------------------------------------------------- FIELD_RESTART (R191)

/-- The zone unit at a field restart, channel by channel (R120). -/
def Ev.restartQuals (e : Ev) : Ev := (List.finRange 16).foldl (fun e c => e.onQual c Qualification.restart) e

/-- The effects of a field restart, block by block; the arbiter acts on the freed line (R191). -/
def Ev.fieldRestart (e : Ev) : Ev :=
  let e := e.on fun s =>
    { s with field := s.field.restart, sites := mapIds (fun _ t => if t.inUse then t.restart else t) s.sites }
  (e.restartQuals.on fun s => { s with board := s.board.restart }).thenArbitrate

/-- FIELD_RESTART (R191). -/
def judgeFieldRestart (l : Link) (e : Ev) : Verdict :=
  Verdict.check [e.st.needValleyOrPanelService l, e.st.needCommissioned] fun _ => Verdict.done e.fieldRestart

def execFieldRestart (l : Link) (s : State) : Out := request l 0x14 (judgeFieldRestart l) s

-- ---------------------------------------------------------------- the key (R65)

/-- Decode the key position again; leaving SERVICE ends commissioning mode (R65, R198). -/
def State.decodeKey (s : State) : State :=
  let k := keyPosition s.field.keyA.level s.field.keyB.level
  { s with key := k,
           store := { s.store with modeOn := s.store.modeOn && !(s.key == .service && !(k == .service)) } }

/-- Set the filter of a key pin. -/
def FieldUnit.setPin (pin : KeyPin) (x : Filter) (f : FieldUnit) : FieldUnit :=
  match pin with
  | .a => { f with keyA := x }
  | .b => { f with keyB := x }

/-- The filter of a key pin. -/
def FieldUnit.pin (f : FieldUnit) : KeyPin → Filter
  | .a => f.keyA
  | .b => f.keyB

/-- An accepted change of a key pin (R65). -/
def Ev.acceptPin (pin : KeyPin) (level : Bool) (e : Ev) : Ev :=
  e.on fun s => ({ s with field := s.field.setPin pin ⟨level, 0⟩ } : State).decodeKey

/-- KEY_PIN_CHANGE: the accepted new level of one pin; a level that the pin already has is no change (R65, log 5). -/
def execKeyPinChange (pin : KeyPin) (level : Bool) (s : State) : Out :=
  .next (if (s.field.pin pin).level = level then s else s.event (Ev.acceptPin pin level))

-- ---------------------------------------------------------------- pulse inputs (R68, R71, R74, R92)

/-- The event of an accepted change of a pulse input, its level recorded (R68). -/
def Ev.pulseChange (c : ChanId) (level : Bool) (e : Ev) : Ev :=
  (e.setChannel c (Channel.setLevel level)).acceptPulse c level

/-- PULSE_INPUT_CHANGE: the accepted new level of one pulse input; a level that it already has is no change (R68, log 5,
log 20). -/
def execPulseInputChange (c : ChanId) (level : Bool) (s : State) : Out :=
  .next (if (s.field.channels.get c).acceptedLevel = level then s else s.event (Ev.pulseChange c level))

/-- CARRIER_LOSS: acts when the carrier counter has run out (R74, log 4). -/
def execCarrierLoss (c : ChanId) (s : State) : Out :=
  .next (if (s.field.channels.get c).carrierDue then s.event (Ev.loseCarrier c) else s)

/-- What one MEASUREMENT_GATE_END takes: the next delivery of the channel's site, with the close of the site period that it
ends, or the detector channel's own result (R72, R81, log 21). -/
def Ev.measurementGateEnd (c : ChanId) (e : Ev) : Ev :=
  match (e.st.field.channels.get c).owner with
  | .site i => e.siteGateEnd i
  | _ => e.endGate c

/-- MEASUREMENT_GATE_END: acts when the channel's gate end has been reached (R71, log 4). -/
def execMeasurementGateEnd (c : ChanId) (s : State) : Out :=
  .next (if s.field.gateDue c then s.event (Ev.measurementGateEnd c) else s)

/-- SITE_PERIOD_CLOSE: acts when the end of the period has been reached and nothing of the site before it is still to be
taken (R81, R92, log 4, log 21). -/
def execSitePeriodClose (i : SiteId) (s : State) : Out :=
  .next (if s.field.periodDue i (s.sites.get i) then s.event (Ev.sitePeriodEnd i) else s)

-- ---------------------------------------------------------------- INPUT_SAMPLE (R61, R62)

/-- One ms of a segment's timers. -/
def Segment.tick (sg : Segment) : Segment :=
  { sg with confirmWait := Timer.down sg.confirmWait, warningTimer := Timer.down sg.warningTimer }

/-- One ms of a gate's travel timer, up to T_max (R29, R36). -/
def Gate.tick (g : Gate) : Gate := { g with timer := g.timer.map fun e => min g.tMaxMs (e + 1) }

/-- One ms of a link: its silence timer, and the gap of a partial frame (R177, R183). -/
def LinkRecord.tick (r : LinkRecord) : LinkRecord :=
  { r with timer := Timer.down r.timer,
           receiver := match r.receiver with
             | .inFrame bytes gap => .inFrame bytes (gap + 1)
             | x => x }

/-- One ms of a probe timer (R163). -/
def ProbeTimer.tick : ProbeTimer → ProbeTimer
  | .running ms => .running (ms - 1)
  | x => x

/-- One ms of the sign line: the reply window and the probe timers (R159, R163). -/
def SignLine.tick (l : SignLine) : SignLine :=
  { l with sent := l.sent.map fun f => { f with window := Timer.down f.window },
           records := mapIds (fun _ r => { r with probe := r.probe.tick }) l.records }

/-- One ms of the whole part: every running timer, and the time since the measurement epoch (log 3, log 19). -/
def State.tick (s : State) : State :=
  { s with
    road := { segs := mapIds (fun _ o => o.map Segment.tick) s.road.segs, gates := mapIds (fun _ g => g.tick) s.road.gates }
    latch := { s.latch with window := Timer.down s.latch.window }
    field := { s.field with channels := mapIds (fun _ c => c.tick) s.field.channels,
                            sinceEpoch := s.field.sinceEpoch + 1 }
    notices := { s.notices with clock := { s.notices.clock with timer := Timer.down s.notices.clock.timer } }
    board := s.board.setLine SignLine.tick
    links := s.links.all LinkRecord.tick }

/-- One sample of an end switch (R61, R62, R64). -/
def Ev.sampleSwitch (g : GateId) (sw : Switch) (level : Bool) (e : Ev) : Ev :=
  let r := ((e.st.road.gates.get g).switch sw).sample Config.endSwitchNF level
  if r.2 then e.onRoad fun ctx => RoadEv.switchChange ctx g sw level
  else
    let write := fun (x : Gate) => match sw with
      | .raised => { x with raisedSwitch := r.1 }
      | .lowered => { x with loweredSwitch := r.1 }
    e.on fun s => { s with road := { s.road with gates := alter s.road.gates g write } }

/-- One sample of a key pin (R61, R62, R65). -/
def Ev.samplePin (pin : KeyPin) (level : Bool) (e : Ev) : Ev :=
  let r := (e.st.field.pin pin).sample Config.keyPinNF level
  if r.2 then e.acceptPin pin level else e.on fun s => { s with field := s.field.setPin pin r.1 }

/-- One sample of a pulse input: the filter, and the edge detector of a channel with NF 0 (R61, R62, R68, log 20). -/
def Ev.samplePulse (c : ChanId) (level : Bool) (e : Ev) : Ev :=
  let ch := e.st.field.channels.get c
  let r := ch.filter.sample ch.nf level
  let change : Bool := if ch.edgeDriven then !(level == ch.edge) else r.2
  let e := e.setChannel c fun ch => { ch with filter := r.1, edge := level }
  if change then e.acceptPulse c level else e

/-- Every input is sampled: the end switches of each gate, the key pins, the pulse inputs (R61, log 5). -/
def Ev.sampleAll (levels : Levels) (e : Ev) : Ev :=
  let e := (List.finRange 6).foldl
    (fun e g => (e.sampleSwitch g .raised (levels.raised.get g)).sampleSwitch g .lowered (levels.lowered.get g)) e
  let e := (e.samplePin .a levels.keyA).samplePin .b levels.keyB
  (List.finRange 16).foldl (fun e c => e.samplePulse c (levels.pulse.get c)) e

/-- INPUT_SAMPLE: one ms passes, and every input is sampled (R61, R62, log 3). -/
def execInputSample (levels : Levels) (s : State) : Out := .next (s.tick.event (Ev.sampleAll levels))

end Sys2Proof.Machine
end

