-- ==== Sys2Proof/Machine/LinkCommands.lean ====
section
/-! DEFINITION. STATUS, QUERY and ATTENTION_ENABLE (R188 to R190), and the link events that take no request: a frame
answered with FORMAT, the receiver's faults, the end of a reply, the silence expiry (R177, R178, R183). -/

namespace Sys2Proof.Machine

/-- STATUS: the report, and the flags reported leave the requesting link's attention set (R189). -/
def judgeStatus (l : Link) (e : Ev) : Verdict :=
  let body := statusBody e.st l
  let flags := (e.st.links.get l).attention
  .accept (e.on fun s => { s with links := s.links.alter l (LinkRecord.clearFlags flags) }) fun _ => body

/-- QUERY: the report; nothing changes (R190). -/
def judgeQuery (object id part : Byte) (e : Ev) : Verdict := .accept e fun s => queryBody s object id part

/-- ATTENTION_ENABLE (R188). -/
def judgeAttentionEnable (l : Link) (enable : Word16) (e : Ev) : Verdict :=
  Verdict.check [e.st.needCommissioned, need (enable.toNat < 2048) .range] fun _ =>
    let set : FlagSet := enable.setWidth 11
    .accept (e.on fun s => { s with links := s.links.alter l (LinkRecord.setEnable set) })
      fun s => Result.ok.code :: flagsField (s.links.get l).enable

/-- A valid frame of an unknown kind, or with a body that does not fit (R177). -/
def judgeFormat (_e : Ev) : Verdict := Verdict.deny .format

def execStatus (l : Link) (s : State) : Out := request l 0x01 (judgeStatus l) s
def execQuery (l : Link) (object id part : Byte) (s : State) : Out := request l 0x02 (judgeQuery object id part) s
def execAttentionEnable (l : Link) (enable : Word16) (s : State) : Out :=
  request l 0x15 (judgeAttentionEnable l enable) s
def execFormatRefusal (l : Link) (kind : Byte) (s : State) : Out := request l kind judgeFormat s

-- ---------------------------------------------------------------- the receiver (R177, R178)

/-- A fault of the receiver ends its frame and returns it to hunting; while the part sends its reply, bytes are
discarded (R177, R178). -/
def LinkRecord.hunt (r : LinkRecord) : LinkRecord := if r.replying then r else { r with receiver := .hunting }

/-- The last byte of the reply has left (R178). -/
def LinkRecord.endReply (r : LinkRecord) : LinkRecord := if r.replying then { r with receiver := .hunting } else r

/-- More than 20 ms have passed since the last byte of a partial frame (R177). -/
def LinkRecord.late (r : LinkRecord) : Bool :=
  match r.receiver with
  | .inFrame _ gap => gap > Config.interByteLimit
  | _ => false

/-- A partial frame whose gap has grown too long is discarded (R177). -/
def LinkRecord.dropLate (r : LinkRecord) : LinkRecord := if r.late then { r with receiver := .hunting } else r

/-- A change of one link's record and nothing else. -/
def State.onLink (l : Link) (f : LinkRecord → LinkRecord) (s : State) : State :=
  { s with links := s.links.alter l f }

/-- LINK_CHECK_FAILURE: the frame is discarded (R177). -/
def execLinkCheckFailure (l : Link) (s : State) : Out := .next (s.onLink l LinkRecord.hunt)
/-- LINK_BAD_LENGTH: the frame is discarded at once (R177). -/
def execLinkBadLength (l : Link) (s : State) : Out := .next (s.onLink l LinkRecord.hunt)
/-- LINK_FRAMING_ERROR: the partial frame is discarded (R177). -/
def execLinkFramingError (l : Link) (s : State) : Out := .next (s.onLink l LinkRecord.hunt)
/-- INTER_BYTE_TIMEOUT: a partial frame with more than 20 ms since its last byte is discarded (R177, log 4). -/
def execInterByteTimeout (l : Link) (s : State) : Out := .next (s.onLink l LinkRecord.dropLate)
/-- LINK_REPLY_SENT: the receiver returns to hunting (R178). -/
def execLinkReplySent (l : Link) (s : State) : Out := .next (s.onLink l LinkRecord.endReply)

-- ---------------------------------------------------------------- silence (R183)

namespace LinkRecord

/-- The silence timer has run out (R183). -/
def silenceDue (r : LinkRecord) : Bool := r.timer.due

/-- The link becomes SILENT and its timer stops (R183). -/
def silence (r : LinkRecord) : LinkRecord := { r with active := false, timer := none }

end LinkRecord

/-- The silence timer of a link expires: LINK attention, and a lost avalanche link makes every zone UNKNOWN (R104,
R183). -/
def Ev.silence (l : Link) (e : Ev) : Ev :=
  let was := (e.st.links.get l).active
  let e := e.on (State.onLink l LinkRecord.silence)
  let e := if was then e.attend Attn.link else e
  match l with
  | .avalanche => (List.finRange 6).foldl (fun e z => e.onZone z Zone.lose) e
  | _ => e

/-- LINK_SILENCE_EXPIRY: acts when the timer has run out (R183, log 4). -/
def execLinkSilenceExpiry (l : Link) (s : State) : Out :=
  .next (if (s.links.get l).silenceDue then s.event (Ev.silence l) else s)

end Sys2Proof.Machine
end

