-- ==== Sys2Proof/Machine/NoticeCommands.lean ====
section
/-! DEFINITION. The commands of the notice unit: TIME_SET, the four notice requests and the minute tick (R122, R123, R131
to R138). -/

namespace Sys2Proof.Machine

/-- The clock takes a value and its minute timer restarts (R122, R123). -/
def Ev.setClock (value : Nat) (e : Ev) : Ev :=
  e.on fun s => { s with notices := { s.notices with
    clock := { valid := true, value := value, timer := some Config.minute } } }

/-- TIME_SET (R123). -/
def judgeTimeSet (l : Link) (value : Word32) (e : Ev) : Verdict :=
  Verdict.check
    [need (l == .valley) .authority, e.st.needCommissioned, need (value.toNat ≤ Config.lastMinute) .range] fun _ =>
    .accept ((e.setClock value.toNat).attend Attn.clock).evaluate
      fun s => Result.ok.code :: byte4 s.notices.clock.value

/-- The state of a notice in a reply: its own, or 3 REMOVED (R132, R134, R181). -/
def noticeCode (l : List Notice) (id : Nat) : Nat :=
  match findNotice l id with
  | some n => n.state.code
  | none => 3

/-- NOTICE_CREATE (R131, R132). -/
def judgeNoticeCreate (l : Link) (kind : Byte) (body : NoticeBody) (e : Ev) : Verdict :=
  Verdict.fitting (segListFits body.segs) fun _ =>
  Verdict.check [need (l == .valley) .authority, e.st.needCommissioned, need (kind.toNat ≤ 1) .range] fun _ =>
    match checkBody e.st.road body with
    | none => Verdict.deny .range
    | some segs =>
      let full := Verdict.deny .full
      if e.st.notices.list.length ≥ Config.noticeCapacity then full
      else match freeId e.st.notices.list with
        | none => full
        | some id =>
          let n : Notice := { id := id, kind := if kind = 0 then .scheduled else .seasonal, segs := [], start := 0,
                              stop := none, lead := 0, page := none, revision := 0, state := .waiting }
          let e := (e.setNotices (insertNotice (n.withBody body segs))).noticeChange segs
          .accept e.evaluateIfValid fun s =>
            [Result.ok.code] ++ byte1 id ++ byte1 0 ++ byte1 (noticeCode s.notices.list id)

/-- Replace an amended notice in the list; it moves when its start has changed (R134). -/
def replaceNotice (old new : Notice) (l : List Notice) : List Notice :=
  if old.start = new.start then l.map fun m => if m.id = old.id then new else m
  else insertNotice new (dropNotice l old.id)

/-- The sources of an amended notice that is IN_FORCE are brought into line: first the gains, then the losses (R135). -/
def Ev.alignNotice (old new : Notice) (e : Ev) : Ev :=
  if old.state = .inForce then
    (e.addSource .notice old.id (new.segs.filter fun i => !old.segs.contains i)).removeSource .notice old.id
      (old.segs.filter fun i => !new.segs.contains i)
  else e

/-- NOTICE_AMEND (R133 to R135). A refusal carries the id, the revision and the state when the id is in the list. -/
def judgeNoticeAmend (l : Link) (id revision : Byte) (body : NoticeBody) (e : Ev) : Verdict :=
  Verdict.fitting (segListFits body.segs) fun _ =>
  let found := findNotice e.st.notices.list id.toNat
  let fields := match found with
    | some n => byte1 n.id ++ byte1 n.revision ++ byte1 n.state.code
    | none => []
  let deny (r : Result) : Verdict := .refuse (r.code :: fields)
  match firstFailure [need (l == .valley) .authority, e.st.needCommissioned] with
  | some r => deny r
  | none =>
    match found with
    | none => deny .unknownId
    | some n =>
      if !(n.revision == revision.toNat) then deny .stale
      else match checkBody e.st.road body with
        | none => deny .range
        | some segs =>
          if n.state == .inForce && !(body.start.toNat == n.start) then deny .state
          else if n.state == .inForce && n.kind == .seasonal && !laterEnd n.stop (body.stop.map BitVec.toNat) then
            deny .oneWay
          else
            let new := { n.withBody body segs with revision := (n.revision + 1) % 256 }
            let e := (e.setNotices (replaceNotice n new)).noticeChange (n.segs ++ segs)
            .accept (e.alignNotice n new).evaluateIfValid fun s =>
              [Result.ok.code] ++ byte1 n.id ++ byte1 new.revision ++ byte1 (noticeCode s.notices.list n.id)

/-- NOTICE_WITHDRAW (R136). -/
def judgeNoticeWithdraw (l : Link) (id : Byte) (e : Ev) : Verdict :=
  Verdict.check [need (l == .valley) .authority, e.st.needCommissioned] fun _ =>
    match findNotice e.st.notices.list id.toNat with
    | none => Verdict.deny .unknownId
    | some n =>
      if n.state = .inForce then Verdict.deny .state
      else Verdict.answer ((e.setNotices (dropNotice · n.id)).noticeChange n.segs) (byte1 n.id)

/-- NOTICE_LIFT (R137, R138). -/
def judgeNoticeLift (l : Link) (id : Byte) (e : Ev) : Verdict :=
  Verdict.check [e.st.needValleyOrSilentPanel l, e.st.needCommissioned] fun _ =>
    match findNotice e.st.notices.list id.toNat with
    | none => Verdict.deny .unknownId
    | some n =>
      if l == .panel && !(n.kind == .scheduled) then Verdict.deny .authority
      else if !(n.state == .inForce) then Verdict.deny .state
      else
        let e := (e.setNotices (dropNotice · n.id)).removeSource .notice n.id n.segs
        Verdict.answer (e.noticeChange n.segs) (byte1 n.id)

def execTimeSet (l : Link) (value : Word32) (s : State) : Out := request l 0x07 (judgeTimeSet l value) s
def execNoticeCreate (l : Link) (kind : Byte) (body : NoticeBody) (s : State) : Out :=
  request l 0x08 (judgeNoticeCreate l kind body) s
def execNoticeAmend (l : Link) (id revision : Byte) (body : NoticeBody) (s : State) : Out :=
  request l 0x09 (judgeNoticeAmend l id revision body) s
def execNoticeWithdraw (l : Link) (id : Byte) (s : State) : Out := request l 0x0A (judgeNoticeWithdraw l id) s
def execNoticeLift (l : Link) (id : Byte) (s : State) : Out := request l 0x0B (judgeNoticeLift l id) s

/-- The minute timer of a VALID clock has run out (R122). -/
def Clock.due (c : Clock) : Bool := c.valid && c.timer.due

/-- The minute tick: the value, the timer, one evaluation (R122). -/
def Ev.tickMinute (e : Ev) : Ev := (e.setClock (tickValue e.st.notices.clock.value)).evaluate

/-- MINUTE_TICK: acts when the minute timer has run out (R122, log 4). -/
def execMinuteTick (s : State) : Out := .next (if s.notices.clock.due then s.event Ev.tickMinute else s)

end Sys2Proof.Machine
end

