-- ==== Sys2Proof/Machine/SegmentCommands.lean ====
section
/-! DEFINITION. The commands of the segment table: HOLD_PLACE, HOLD_RELEASE, STARTUP_RELEASE, REOPEN, and the expiries
of its two timers (R11, R12, R17, R18, R22, R23, R26). -/

namespace Sys2Proof.Machine

/-- HOLD_PLACE (R22). -/
def judgeHoldPlace (l : Link) (reason : Option Byte) (segs : List Byte) (e : Ev) : Verdict :=
  Verdict.fitting (segListFits segs) fun _ =>
  Verdict.check [need (l != .panel || e.st.keyOperate) .key, e.st.needCommissioned] fun _ =>
    match segSet e.st.road segs with
    | none => Verdict.deny .range
    | some ids => Verdict.done (e.place (ownKind l) reason ids)

/-- HOLD_RELEASE (R23). -/
def judgeHoldRelease (l : Link) (kind : HoldKind) (segs : List Byte) (e : Ev) : Verdict :=
  Verdict.fitting (segListFits segs) fun _ =>
  Verdict.check [e.st.needReleaseAuthority l kind, e.st.needCommissioned] fun _ =>
    match segSet e.st.road segs with
    | none => Verdict.deny .range
    | some ids => Verdict.done (e.remove kind ids)

/-- STARTUP_RELEASE (R26). -/
def judgeStartupRelease (l : Link) (e : Ev) : Verdict :=
  Verdict.check [e.st.needPanelService l, e.st.needCommissioned] fun _ => Verdict.done (e.remove .startup e.segs)

/-- The first guard of R18 that fails for a segment; OK when it is to be taken. -/
def reopenOutcome (s : State) (i : SegId) : Result :=
  match s.road.segs.get i with
  | none => .range
  | some sg =>
    let approach := sg.signs.filter fun p => p.2 == .approach
    if !(sg.state == .closed) then .state
    else if !sg.holds.empty then .held
    else if sg.gates.any fun g => (s.road.gates.get g).state == .fault then .gateFault
    else if !approach.isEmpty && approach.all (fun p => (s.board.line.records.get p.1).state == .fault) then .signFault
    else .ok

/-- One segment of the list: judged, and taken when every guard passes (R18, R19). -/
def reopenOne (acc : Ev × List Result) (i : SegId) : Ev × List Result :=
  let r := reopenOutcome acc.1.st i
  (if r = .ok then acc.1.onRoad fun ctx => RoadEv.reopen ctx i else acc.1, acc.2 ++ [r])

/-- The overall outcome: OK when a segment was taken, else that of the first segment (R18). -/
def overall (l : List Result) : Result := if l.contains .ok then .ok else l.headD .range

/-- REOPEN (R17, R18). The outcomes of the segments follow the overall outcome without a count of their own (log 40). -/
def judgeReopen (l : Link) (segs : List Byte) (e : Ev) : Verdict :=
  Verdict.fitting (segListFits segs) fun _ =>
  Verdict.check [e.st.needValleyOrSilentPanel l, e.st.needCommissioned] fun _ =>
    match segList e.st.road segs with
    | none => Verdict.deny .range
    | some ids =>
      let r := ids.foldl reopenOne (e, [])
      .accept r.1 fun _ => (overall r.2).code :: r.2.map Result.code

def execHoldPlace (l : Link) (reason : Option Byte) (segs : List Byte) (s : State) : Out :=
  request l 0x03 (judgeHoldPlace l reason segs) s
def execHoldRelease (l : Link) (kind : HoldKind) (segs : List Byte) (s : State) : Out :=
  request l 0x04 (judgeHoldRelease l kind segs) s
def execStartupRelease (l : Link) (s : State) : Out := request l 0x05 (judgeStartupRelease l) s
def execReopen (l : Link) (segs : List Byte) (s : State) : Out := request l 0x06 (judgeReopen l segs) s

-- ---------------------------------------------------------------- the timers of a segment

/-- The confirmation wait of a segment in WARNING has run out (R11). -/
def Road.waitDue (r : Road) (i : SegId) : Bool :=
  match r.segs.get i with
  | some sg => sg.state == .warning && sg.confirmWait.due
  | none => false

/-- The warning timer of a segment in WARNING has run out (R12). -/
def Road.warningDue (r : Road) (i : SegId) : Bool :=
  match r.segs.get i with
  | some sg => sg.state == .warning && sg.warningTimer.due
  | none => false

/-- CONFIRMATION_WAIT_EXPIRY: acts when the wait has run out (R11, log 4). -/
def execConfirmationWaitExpiry (i : SegId) (s : State) : Out :=
  .next (if s.road.waitDue i
    then s.onRoadOnly fun r => { r with segs := alter r.segs i (Option.map RoadEv.startWarning) } else s)

/-- WARNING_TIMER_EXPIRY: acts when the timer has run out (R12, log 4). -/
def execWarningTimerExpiry (i : SegId) (s : State) : Out :=
  .next (if s.road.warningDue i then s.event fun e => e.onRoad fun ctx => RoadEv.warningExpiry ctx i else s)

end Sys2Proof.Machine
end

