-- ==== Sys2Proof/Machine/SignCommands.lean ====
section
/-! DEFINITION. SIGN_OVERRIDE (R155) and the events of the sign line: the probe timer, the end of a frame sent, the reply
window, discarded frames and the five replies (R158, R159, R163 to R168). -/

namespace Sys2Proof.Machine

/-- A field format code of a SIGN_OVERRIDE; codes above 3 name no format (R155, R180). -/
def overrideField (f : OverrideField) : Option (Option Field) :=
  if f.format = 0 then some none
  else if f.format = 1 then some (some { format := .integer, value := f.value.toInt })
  else if f.format = 2 then some (some { format := .tenths, value := f.value.toInt })
  else if f.format = 3 then some (some { format := .time, value := f.value.toInt })
  else none

/-- The page reference of an override, when it passes check 4 of R155; its values are kept as sent (R150). -/
def overrideRef (o : OverrideBody) : Option PageRef :=
  match overrideField o.fieldA, overrideField o.fieldB with
  | some a, some b =>
    if o.page.toNat ≤ 127 then some { page := o.page.toNat, fieldA := a, fieldB := b, flash := o.flash } else none
  | _, _ => none

/-- The override that a request carries: none, or a reference that must pass (R155). -/
def carriedOverride : Option OverrideBody → Option (Option PageRef)
  | none => some none
  | some o => (overrideRef o).map some

/-- Record or remove the override of a sign, and raise its re-selection (R155). -/
def Ev.setOverride (i : SignId) (o : Option PageRef) (e : Ev) : Ev :=
  (e.on fun s => { s with board := s.board.setSign i fun g => { g with override := o } }).raiseSigns [i]

/-- SIGN_OVERRIDE (R155). -/
def judgeSignOverride (l : Link) (sign : Byte) (o : Option OverrideBody) (e : Ev) : Verdict :=
  Verdict.check [need (l == .valley) .authority, e.st.needCommissioned] fun _ =>
    match idOf 12 sign with
    | none => Verdict.deny .range
    | some i =>
      match carriedOverride o with
      | none => Verdict.deny .range
      | some r =>
        .accept (e.setOverride i r) fun s =>
          [Result.ok.code, sign] ++
            (match (s.board.signs.get i).desired with | some d => byte1 d.cls.idx.val | none => [])

def execSignOverride (l : Link) (sign : Byte) (o : Option OverrideBody) (s : State) : Out :=
  request l 0x0C (judgeSignOverride l sign o) s

-- ---------------------------------------------------------------- the sign line

/-- The probe timer of a sign in FAULT has run out (R163). -/
def SignLine.probeTimerDue (l : SignLine) (i : SignId) : Bool :=
  let r := l.records.get i
  r.state == .fault && r.probe == .running 0

/-- PROBE_TIMER_EXPIRY: the probe is due, and the arbiter acts when the line is free (R162, R163, log 4). -/
def execProbeTimerExpiry (i : SignId) (s : State) : Out :=
  .next (if s.board.line.probeTimerDue i then
    ({ s with board := s.board.setRecord i fun r => { r with probe := .expired } } : State).arbitrate else s)

/-- SIGN_FRAME_SENT: the last byte of the frame sent last has left and its reply window opens (R159, log 33,
log 45). -/
def execSignFrameSent (s : State) : Out := .next { s with board := s.board.setLine SignLine.openWindow }

/-- REPLY_WINDOW_EXPIRY: acts when the window has run out; the silence is handled (R159, R166, R170, R172, log 4). -/
def execReplyWindowExpiry (s : State) : Out :=
  .next (if s.board.line.windowDue then s.lineStep BoardEv.silence else s)

/-- A reply of a sign: taken when a window is open for that sign, else discarded (R158, R159). A reply names no frame, so one
that comes late to a frame that a field restart or a COMMIT ended (R174, R175) is discarded while no window of its sign is
open, and within one it is judged against the frame sent last (log 44). -/
def State.takeReply (i : SignId) (r : SignReply) (s : State) : State :=
  if s.board.line.takes i then s.lineStep fun e => e.reply r else s

/-- SIGN_FRAME_DISCARD: a frame that R158 discards has no effect; one that it does not is the reply that it carries
(R158, log 34). -/
def execSignFrameDiscard (frame : List Byte) (s : State) : Out :=
  .next (match parseReply frame with
    | some (i, r) => s.takeReply i r
    | none => s)

/-- READY (R164, R167, R172). -/
def execReady (i : SignId) (width : Width) (sum : Word16) (s : State) : Out :=
  .next (s.takeReply i (.ready width sum.toNat))
/-- TAKE (R166). -/
def execTake (i : SignId) (s : State) : Out := .next (s.takeReply i .take)
/-- PAUSE (R167). -/
def execPause (i : SignId) (s : State) : Out := .next (s.takeReply i .pause)
/-- REFUSE (R166). -/
def execRefuse (i : SignId) (s : State) : Out := .next (s.takeReply i .refuse)
/-- SIGN_SHOWN (R168). -/
def execSignShown (i : SignId) (sum : Word16) (s : State) : Out := .next (s.takeReply i (.shown sum.toNat))

end Sys2Proof.Machine
end

