-- ==== Sys2Proof/Machine/ZoneCommands.lean ====
section
/-! DEFINITION. The commands of the zone unit: ZONE_LEVEL, DETECTOR_CLEAR, TEST_TRIP (R103, R114, R116, R117). -/

namespace Sys2Proof.Machine

/-- ZONE_LEVEL (R103). -/
def judgeZoneLevel (l : Link) (zone level : Byte) (e : Ev) : Verdict :=
  Verdict.check [need (l == .avalanche) .authority, e.st.needCommissioned] fun _ =>
    match idOf 6 zone with
    | none => Verdict.deny .range
    | some z =>
      .accept ((e.onZone z (Zone.setTo level.toNat)).judgeRelease) fun s =>
        let r := s.zoneUnit.zones.get z
        [Result.ok.code, zone] ++ byte1 r.setLevel ++ byte1 r.effective

/-- The channel that a byte names, with its qualification record, when it is a DETECTOR (R114, R116). -/
def State.detector (s : State) (channel : Byte) : Option (ChanId × Qualification) :=
  match idOf 16 channel with
  | none => none
  | some c =>
    if (s.field.channels.get c).kind = .detector then (s.zoneUnit.quals.get c).map fun q => (c, q) else none

/-- The fields of a refused DETECTOR_CLEAR: state, count, latest result and carrier, where the channel is a DETECTOR,
the carrier without a presence byte (R114, log 12). -/
def clearFields (s : State) (channel : Byte) : List Byte :=
  match s.detector channel with
  | none => []
  | some (c, q) =>
    byte1 q.state.code ++ byte1 q.count ++ optField byte2 q.latest
      ++ firstNamed (s.field.channels.get c).carrierPresent

/-- The latest result is present and not exceeding, and the carrier is PRESENT (R114). -/
def quietNow (s : State) (c : ChanId) (q : Qualification) : Bool :=
  (match q.latest with | some r => !q.exceeds r | none => false) && (s.field.channels.get c).carrierPresent

/-- DETECTOR_CLEAR (R114). -/
def judgeDetectorClear (l : Link) (channel : Byte) (e : Ev) : Verdict :=
  let deny (r : Result) : Verdict := .refuse (r.code :: clearFields e.st channel)
  match firstFailure [need (l == .avalanche) .authority, e.st.needCommissioned] with
  | some r => deny r
  | none =>
    match e.st.detector channel with
    | none => deny .range
    | some (c, q) =>
      if !q.state.closes then deny .state
      else if !quietNow e.st c q then deny .active
      else .accept (e.onQual c Qualification.clear) fun s =>
        Result.ok.code :: (match s.zoneUnit.quals.get c with | some q => byte1 q.state.code | none => [])

/-- TEST_TRIP (R116, R117). -/
def judgeTestTrip (l : Link) (channel : Byte) (e : Ev) : Verdict :=
  Verdict.check
    [need (l != .valley) .authority, need (l != .panel || e.st.keyService) .key, e.st.needCommissioned] fun _ =>
    match e.st.detector channel with
    | none => Verdict.deny .range
    | some (c, _) =>
      if (e.exposedBy c).all fun i => e.st.road.isIn i .closed then
        .accept (e.onQual c Qualification.testTrip) fun s =>
          Result.ok.code ::
            (match s.zoneUnit.quals.get c with | some q => byte1 q.state.code ++ byte1 q.count | none => [])
      else Verdict.deny .state

def execZoneLevel (l : Link) (zone level : Byte) (s : State) : Out := request l 0x0D (judgeZoneLevel l zone level) s
def execDetectorClear (l : Link) (channel : Byte) (s : State) : Out :=
  request l 0x0E (judgeDetectorClear l channel) s
def execTestTrip (l : Link) (channel : Byte) (s : State) : Out := request l 0x0F (judgeTestTrip l channel) s

end Sys2Proof.Machine
end

