-- ==== Sys2Proof/Machine/ByteCommands.lean ====
section
/-! DEFINITION. LINK_BYTE_RECEIVED: the receiver of a link, byte by byte, and the request that a completed frame takes
(R176 to R178). -/

namespace Sys2Proof.Machine

/-- How a request is judged; a command that is no request is judged as a frame of unknown kind (R177, R179). -/
def judgeOf : Instr → Ev → Verdict
  | .status l => judgeStatus l
  | .query _ object id part => judgeQuery object id part
  | .holdPlace l reason segs => judgeHoldPlace l reason segs
  | .holdRelease l kind segs => judgeHoldRelease l kind segs
  | .startupRelease l => judgeStartupRelease l
  | .reopen l segs => judgeReopen l segs
  | .timeSet l value => judgeTimeSet l value
  | .noticeCreate l kind body => judgeNoticeCreate l kind body
  | .noticeAmend l id revision body => judgeNoticeAmend l id revision body
  | .noticeWithdraw l id => judgeNoticeWithdraw l id
  | .noticeLift l id => judgeNoticeLift l id
  | .signOverride l sign o => judgeSignOverride l sign o
  | .zoneLevel l zone level => judgeZoneLevel l zone level
  | .detectorClear l channel => judgeDetectorClear l channel
  | .testTrip l channel => judgeTestTrip l channel
  | .gateFaultClear l gate => judgeGateFaultClear l gate
  | .fullClose _ => judgeFullClose
  | .releasePropose l => judgeReleasePropose l
  | .releaseConfirm l => judgeReleaseConfirm l
  | .fieldRestart l => judgeFieldRestart l
  | .attentionEnable l enable => judgeAttentionEnable l enable
  | .commissionEnter l => judgeCommissionEnter l
  | .commissionExit l => judgeCommissionExit l
  | .storeWrite l region number bytes => judgeStoreWrite l region number bytes
  | .storeRead _ region number => judgeStoreRead region number
  | .protectSet l region => judgeProtectSet l region
  | .storeErase l => judgeStoreErase l
  | .commit l => judgeCommit l
  | .storeSum _ => judgeStoreSum
  | _ => judgeFormat

/-- What one received byte makes of the receiver: its next state, and the kind and body of a frame that it completes
validly (R177). -/
def receiveByte (b : Byte) : Receiver → Receiver × Option (Byte × List Byte)
  | .replying frame => (.replying frame, none)
  | .hunting => (if b = 0x3C then .inFrame [] 0 else .hunting, none)
  | .inFrame bytes gap =>
    if gap > Config.interByteLimit then (if b = 0x3C then .inFrame [] 0 else .hunting, none)
    else
      match bytes with
      | [] => if within 1 250 b.toNat then (.inFrame [b] 0, none) else (.hunting, none)
      | n :: rest =>
        if rest.length + 1 < n.toNat + 2 then (.inFrame (bytes ++ [b]) 0, none)
        else
          let frame := rest ++ [b]
          let head := n :: frame.take n.toNat
          let valid : Bool := frame.drop n.toNat == splitWord16 (checkOf head)
          match frame.take n.toNat with
          | kind :: body => (.hunting, if valid then some (kind, body) else none)
          | [] => (.hunting, none)

/-- A frame found valid is the request that it carries (R177, R178). -/
def takeFrame (l : Link) (kind : Byte) (body : List Byte) (s : State) : State :=
  takeRequest l kind (judgeOf (decodeRequest l kind body)) s

/-- LINK_BYTE_RECEIVED (R177, R178). -/
def execLinkByteReceived (l : Link) (b : Byte) (s : State) : Out :=
  let r := receiveByte b (s.links.get l).receiver
  let s := s.onLink l fun x => { x with receiver := r.1 }
  .next (match r.2 with
    | some (kind, body) => takeFrame l kind body s
    | none => s)

end Sys2Proof.Machine
end

