-- ==== Sys2Proof/Machine/Dispatch.lean ====
section
/-! DEFINITION. The meaning of a command: one arm per row of spec/opcode_table.json. -/

namespace Sys2Proof.Machine

def exec (i : Instr) (s : State) : Host.Outcome State Fault Refusal :=
  match i with
  | .status l => Sys2Proof.Machine.execStatus l s
  | .query l object id part => Sys2Proof.Machine.execQuery l object id part s
  | .holdPlace l reason segs => Sys2Proof.Machine.execHoldPlace l reason segs s
  | .holdRelease l kind segs => Sys2Proof.Machine.execHoldRelease l kind segs s
  | .startupRelease l => Sys2Proof.Machine.execStartupRelease l s
  | .reopen l segs => Sys2Proof.Machine.execReopen l segs s
  | .timeSet l value => Sys2Proof.Machine.execTimeSet l value s
  | .noticeCreate l kind body => Sys2Proof.Machine.execNoticeCreate l kind body s
  | .noticeAmend l id revision body => Sys2Proof.Machine.execNoticeAmend l id revision body s
  | .noticeWithdraw l id => Sys2Proof.Machine.execNoticeWithdraw l id s
  | .noticeLift l id => Sys2Proof.Machine.execNoticeLift l id s
  | .signOverride l sign override => Sys2Proof.Machine.execSignOverride l sign override s
  | .zoneLevel l zone level => Sys2Proof.Machine.execZoneLevel l zone level s
  | .detectorClear l channel => Sys2Proof.Machine.execDetectorClear l channel s
  | .testTrip l channel => Sys2Proof.Machine.execTestTrip l channel s
  | .gateFaultClear l gate => Sys2Proof.Machine.execGateFaultClear l gate s
  | .fullClose l => Sys2Proof.Machine.execFullClose l s
  | .releasePropose l => Sys2Proof.Machine.execReleasePropose l s
  | .releaseConfirm l => Sys2Proof.Machine.execReleaseConfirm l s
  | .fieldRestart l => Sys2Proof.Machine.execFieldRestart l s
  | .attentionEnable l enable => Sys2Proof.Machine.execAttentionEnable l enable s
  | .commissionEnter l => Sys2Proof.Machine.execCommissionEnter l s
  | .commissionExit l => Sys2Proof.Machine.execCommissionExit l s
  | .storeWrite l region number bytes => Sys2Proof.Machine.execStoreWrite l region number bytes s
  | .storeRead l region number => Sys2Proof.Machine.execStoreRead l region number s
  | .protectSet l region => Sys2Proof.Machine.execProtectSet l region s
  | .storeErase l => Sys2Proof.Machine.execStoreErase l s
  | .commit l => Sys2Proof.Machine.execCommit l s
  | .storeSum l => Sys2Proof.Machine.execStoreSum l s
  | .formatRefusal l kind => Sys2Proof.Machine.execFormatRefusal l kind s
  | .linkCheckFailure l => Sys2Proof.Machine.execLinkCheckFailure l s
  | .linkBadLength l => Sys2Proof.Machine.execLinkBadLength l s
  | .linkFramingError l => Sys2Proof.Machine.execLinkFramingError l s
  | .interByteTimeout l => Sys2Proof.Machine.execInterByteTimeout l s
  | .linkReplySent l => Sys2Proof.Machine.execLinkReplySent l s
  | .linkSilenceExpiry l => Sys2Proof.Machine.execLinkSilenceExpiry l s
  | .hardwareReset levels => Sys2Proof.Machine.execHardwareReset levels s
  | .confirmationWaitExpiry seg => Sys2Proof.Machine.execConfirmationWaitExpiry seg s
  | .warningTimerExpiry seg => Sys2Proof.Machine.execWarningTimerExpiry seg s
  | .endSwitchChange gate switch level => Sys2Proof.Machine.execEndSwitchChange gate switch level s
  | .travelTimeout gate => Sys2Proof.Machine.execTravelTimeout gate s
  | .jointWindowExpiry => Sys2Proof.Machine.execJointWindowExpiry s
  | .latchWordWriteComplete => Sys2Proof.Machine.execLatchWordWriteComplete s
  | .storeWriteComplete => Sys2Proof.Machine.execStoreWriteComplete s
  | .eraseComplete => Sys2Proof.Machine.execEraseComplete s
  | .keyPinChange pin level => Sys2Proof.Machine.execKeyPinChange pin level s
  | .pulseInputChange channel level => Sys2Proof.Machine.execPulseInputChange channel level s
  | .carrierLoss channel => Sys2Proof.Machine.execCarrierLoss channel s
  | .measurementGateEnd channel => Sys2Proof.Machine.execMeasurementGateEnd channel s
  | .sitePeriodClose site => Sys2Proof.Machine.execSitePeriodClose site s
  | .minuteTick => Sys2Proof.Machine.execMinuteTick s
  | .probeTimerExpiry sign => Sys2Proof.Machine.execProbeTimerExpiry sign s
  | .signFrameSent => Sys2Proof.Machine.execSignFrameSent s
  | .replyWindowExpiry => Sys2Proof.Machine.execReplyWindowExpiry s
  | .signFrameDiscard frame => Sys2Proof.Machine.execSignFrameDiscard frame s
  | .ready sign width sum => Sys2Proof.Machine.execReady sign width sum s
  | .take sign => Sys2Proof.Machine.execTake sign s
  | .pause sign => Sys2Proof.Machine.execPause sign s
  | .refuse sign => Sys2Proof.Machine.execRefuse sign s
  | .signShown sign sum => Sys2Proof.Machine.execSignShown sign sum s
  | .linkByteReceived l byte => Sys2Proof.Machine.execLinkByteReceived l byte s
  | .inputSample levels => Sys2Proof.Machine.execInputSample levels s

end Sys2Proof.Machine
end

