-- ==== Sys2Proof/Safety.lean ====
section
/-! DEFINITION. The vocabulary of the statements: what "unchanged" means for a part of many blocks, what an answered
request leaves on the links, the moment at which a request is judged, and the laws that every step keeps. -/

namespace Sys2Proof.Machine

-- ---------------------------------------------------------------- frames

/-- The blocks of the state, for saying which of them a command leaves alone. -/
inductive Block where
  | commissioned | key | marks | road | latch | field | sites | zoneUnit | notices | board | links | store | draws
  | queue
  deriving DecidableEq, Repr

/-- A block holds the same in two states. -/
def Block.same (b : Block) (s t : State) : Prop :=
  match b with
  | .commissioned => t.commissioned = s.commissioned
  | .key => t.key = s.key
  | .marks => t.valleyHeard = s.valleyHeard ∧ t.avalancheHeard = s.avalancheHeard
  | .road => t.road = s.road
  | .latch => t.latch = s.latch
  | .field => t.field = s.field
  | .sites => t.sites = s.sites
  | .zoneUnit => t.zoneUnit = s.zoneUnit
  | .notices => t.notices = s.notices
  | .board => t.board = s.board
  | .links => t.links = s.links
  | .store => t.store = s.store
  | .draws => t.draws = s.draws
  | .queue => t.pending = s.pending

/-- Every block but the named ones holds the same. -/
def KeepsBut (changed : List Block) (s t : State) : Prop := ∀ b, b ∉ changed → b.same s t

/-- The segment record without its two warning timers. -/
def Segment.timeless (sg : Segment) : Segment := { sg with confirmWait := none, warningTimer := none }

/-- The road holds the same but for warning timers, which a re-selection of signs may start (R11, R152). -/
def SameRoad (s t : State) : Prop :=
  t.road.gates = s.road.gates ∧
    ∀ i, (t.road.segs.get i).map Segment.timeless = (s.road.segs.get i).map Segment.timeless

/-- The flags `f` have entered all three attention sets, and the links hold nothing else new, but for the attention
lines, which follow the sets (R186, R187). -/
def Gains (f : FlagSet) (s t : State) : Prop :=
  ∀ m, t.links.get m =
    { s.links.get m with attention := (s.links.get m).attention ||| f, line := (t.links.get m).line }

/-- The same, with the reply frame of a kind and a body leaving on link `l` (R176, R178). -/
def Answered (l : Link) (kind : Byte) (body : List Byte) (f : FlagSet) (s t : State) : Prop :=
  ∀ m, t.links.get m =
    { s.links.get m with
      receiver := if m = l then .replying (linkFrame (kind + 0x80) body) else (s.links.get m).receiver,
      attention := (s.links.get m).attention ||| f, line := (t.links.get m).line }

/-- The flags `f` lie within `mask`. -/
def Within (mask f : FlagSet) : Prop := f &&& ~~~mask = 0

/-- The flags of `mask` are all in `f`. -/
def Includes (mask f : FlagSet) : Prop := f &&& mask = mask

-- ---------------------------------------------------------------- the moment of judging a request (R178)

/-- The receiver of a link can take a request: it is not sending a reply (R178). -/
def Ready (l : Link) (s : State) : Prop := (s.links.get l).replying = false

/-- The event of a valid frame on a link before its request is judged: timer, link state and start-up mark (R178). -/
def hearing (l : Link) (s : State) : Ev := (Ev.start s).heard l

/-- The state in which a request of link `l` is judged. -/
def heardState (l : Link) (s : State) : State := (hearing l s).st

/-- The state that a valid frame on link `l` leaves when its request changes nothing. -/
def afterHearing (l : Link) (s : State) : State := (hearing l s).finish

/-- The frame sets the last start-up mark, so that the automatic start-up release happens in its event (R25). -/
def Releases (l : Link) (s : State) : Prop :=
  s.commissioned = true ∧ (∀ z, (s.zoneUnit.zones.get z).setSinceReset = true) ∧
    ((l = .valley ∧ s.valleyHeard = false ∧ s.avalancheHeard = true) ∨
      (l = .avalanche ∧ s.avalancheHeard = false ∧ s.valleyHeard = true))

/-- A request that changes only the named blocks, beside what hearing its frame brings with it. -/
def KeepsHeard (changed : List Block) (l : Link) (s t : State) : Prop :=
  KeepsBut (.road :: .board :: changed) (heardState l s) t ∧ SameRoad (heardState l s) t ∧
    (¬ Releases l s → KeepsBut changed (heardState l s) t)

/-- The request is refused with an outcome and changes nothing more (R179). -/
def Refused (l : Link) (kind : Byte) (r : Result) (s t : State) : Prop :=
  t = (afterHearing l s).startReply l kind [r.code]

-- ---------------------------------------------------------------- the road

/-- Where the chain of R42 can take a segment: an opening can end or be aborted, a closing can complete (R15, R19, R20). -/
def Moves (a b : SegState) : Prop := a = b ∨ (a = .opening ∧ b ≠ .warning) ∨ (a = .closing ∧ b = .closed)

/-- A gate in FAULT with a cause: drives OFF, timer stopped (R31, R41). -/
def FaultWith (c : GateFault) (g : Gate) : Prop :=
  g.state = .fault ∧ g.cause = some c ∧ g.check = none ∧ g.timer = none ∧ g.raiseDrive = false ∧ g.lowerDrive = false

/-- No listing segment of a gate is in CLOSING or OPENING, and at most two list it: no segment waits for the gate. -/
def Quiet (r : Road) (g : Gate) : Prop :=
  g.listing.length ≤ 2 ∧ ∀ i ∈ g.listing, r.isIn i .closing = false ∧ r.isIn i .opening = false

/-- The other segments of an event: their hold sets stand, and their states move only as the chain moves them. -/
def OthersStand (i : SegId) (s t : State) : Prop :=
  ∀ j, j ≠ i → (t.road.segs.get j).map (·.holds) = (s.road.segs.get j).map (·.holds) ∧
    ∀ a, s.road.segState j = some a → ∃ b, t.road.segState j = some b ∧ Moves a b

/-- Every hold set stands. -/
def HoldsStand (s t : State) : Prop :=
  ∀ j, (t.road.segs.get j).map (·.holds) = (s.road.segs.get j).map (·.holds)

-- ---------------------------------------------------------------- operands and authority, as the rules state them

/-- A non-empty list of ids of configured segments (R1, R18, R22, R23). -/
def NamesConfigured (r : Road) (segs : List Byte) : Prop :=
  segs ≠ [] ∧ ∀ b ∈ segs, ∃ i : SegId, b.toNat = i.val ∧ r.configured i = true

/-- A segment stands in a list of id bytes. -/
def lists (segs : List Byte) (i : SegId) : Bool := segs.any fun b => b.toNat == i.val

/-- HOLD_RELEASE may name a kind on a link (R23). -/
def MayRelease (s : State) (l : Link) (kind : HoldKind) : Prop :=
  (l = .valley ∧ kind = .valley) ∨ (l = .avalanche ∧ kind = .avalanche) ∨
    (l = .panel ∧ s.key ≠ .locked ∧ (kind = .panel ∨ (kind = .valley ∧ s.links.valley.active = false)))

/-- The valley link, or the panel link with the valley link SILENT and the key in OPERATE or SERVICE (R17, R137). -/
def ValleyOrSilentPanel (s : State) (l : Link) : Prop :=
  l = .valley ∨ (l = .panel ∧ s.links.valley.active = false ∧ s.key ≠ .locked)

/-- What an arrival at a segment leads to, by its state before (R9, R14, R20): an entry that it did not hold has joined. -/
def ArrivesAt (sg sg' : Segment) : Prop :=
  match sg.state with
  | .opened =>
    if sg.warningInterval = 0 then sg'.state.shut = true
    else sg'.state = .warning ∧
      ((sg'.confirmWait = some 30000 ∧ sg'.warningTimer = none) ∨
        (sg'.confirmWait = none ∧ sg'.warningTimer = some (sg.warningInterval * 1000)))
  | .warning => sg'.state = .warning
  | .closing => sg'.state.shut = true
  | .closed => sg'.state = .closed
  | .opening => sg'.state ≠ .opened ∧ sg'.state ≠ .opening

/-- What the removal of an entry leads to: a WARNING segment whose hold set empties returns to OPEN with both timers stopped
(R7, R13); otherwise its state moves only as the chain moves it. -/
def LeavesAt (sg sg' : Segment) : Prop :=
  if sg.state = .warning ∧ sg.holds.empty = false ∧ sg'.holds.empty = true then
    sg'.state = .opened ∧ sg'.confirmWait = none ∧ sg'.warningTimer = none
  else Moves sg.state sg'.state

/-- A segment's record that stands for one before. -/
def SegmentBecomes (s t : State) (P : SegId → Segment → Segment → Prop) : Prop :=
  ∀ i sg, s.road.segs.get i = some sg → ∃ sg', t.road.segs.get i = some sg' ∧ P i sg sg'

-- ---------------------------------------------------------------- REOPEN, as R18 states it

/-- The state after REOPEN has judged one segment: taken when every guard passes, else as it was (R18). -/
def afterReopen (u : State) (i : SegId) : State :=
  if reopenOutcome u i = .ok then ((Ev.start u).onRoad fun ctx => RoadEv.reopen ctx i).st else u

/-- The outcomes of a REOPEN in the order of its list, each judged on the state that those before it left (R18). -/
def reopenOutcomes (u : State) : List SegId → List Result
  | [] => []
  | i :: l => reopenOutcome u i :: reopenOutcomes (afterReopen u i) l

/-- No gate that stands LOWERED has its raised switch ACTIVE, so that none is in FAULT as soon as it is raised (R37). -/
def RaiseSafe (r : Road) : Prop :=
  ∀ g, (r.gates.get g).state = .lowered → (r.gates.get g).raisedSwitch.level = false

/-- A segment has left CLOSED for its reopening: OPENING, or OPEN already, not incomplete, the hold set as it was (R18, R19). -/
def Reopened (sg sg' : Segment) : Prop :=
  (sg'.state = .opening ∨ sg'.state = .opened) ∧ sg'.incomplete = false ∧ sg'.holds = sg.holds

-- ---------------------------------------------------------------- warning confirmation, as R11 states it

/-- The classes of full closure, warning and closure (R11, R151). -/
def closureClasses : List PageClass :=
  [.full, .closingSoon, .closedAvalanche, .closedWeather, .closedNotice, .closedGeneral]

/-- Condition 1 or 2 of R11: an APPROACH sign shows its desired page of a closure class, or every one is in FAULT. -/
def ConfirmsWarning (b : Board) (sg : Segment) : Prop :=
  (∃ p ∈ sg.signs, p.2 = .approach ∧ (b.line.records.get p.1).state = .current ∧
    ∃ d, (b.signs.get p.1).desired = some d ∧ d.cls ∈ closureClasses ∧
      (b.line.records.get p.1).confirmed.map (·.ref) = some d.ref) ∨
  ∀ p ∈ sg.signs, p.2 = .approach → (b.line.records.get p.1).state = .fault

/-- Warning confirmation is judged on board `b` for the segment that sign `i` serves as APPROACH: in WARNING with the warning
timer stopped and condition 1 or 2 met, its wait stops and its warning timer starts; the road holds the same else (R11). -/
def JudgesWarning (i : SignId) (b : Board) (s t : State) : Prop :=
  t.road.gates = s.road.gates ∧ ∀ j,
    let judged : Prop := (b.signs.get i).segment = j ∧ (b.signs.get i).role = .approach
    match s.road.segs.get j with
    | none => t.road.segs.get j = none
    | some sg =>
      (judged → sg.state = .warning → sg.warningTimer = none → ConfirmsWarning b sg →
        t.road.segs.get j = some { sg with confirmWait := none, warningTimer := some (sg.warningInterval * 1000) }) ∧
      (¬ (judged ∧ sg.state = .warning ∧ sg.warningTimer = none ∧ ConfirmsWarning b sg) → t.road.segs.get j = some sg)

-- ---------------------------------------------------------------- the choice of a page, as R146 to R153 state it

/-- The place of a hold kind in the order in which the leading one is sought (R149). -/
def leadPlace : HoldKind → Nat
  | .full => 0 | .detector => 1 | .zone => 2 | .avalanche => 3 | .weather => 4 | .notice => 5 | .valley => 6
  | .panel => 7 | .startup => 8

/-- A kind is present, and no kind before it in that order is (R149). -/
def Leads (h : HoldSet) (k : HoldKind) : Prop := h.has k = true ∧ ∀ j, leadPlace j < leadPlace k → h.has j = false

/-- A CLOSING or CLOSED segment whose leading hold kind is one of a list (R149). -/
def ClosedBy (sg : Segment) (kinds : List HoldKind) : Prop := sg.state.shut = true ∧ ∃ k ∈ kinds, Leads sg.holds k

/-- A class applies to a sign of segment `i` (R148, R149). -/
def ClassApplies (u : State) (sign : Sign) (i : SegId) (sg : Segment) : PageClass → Prop
  | .full => u.latch.state ≠ .clear
  | .closingSoon => sg.state = .warning
  | .closedAvalanche => ClosedBy sg [.detector, .zone, .avalanche]
  | .closedWeather => ClosedBy sg [.weather]
  | .closedNotice => ClosedBy sg [.notice]
  | .closedGeneral => sg.state = .opening ∨ (sg.state.shut = true ∧ ∀ k, sg.holds.has k = false) ∨
      ClosedBy sg [.full, .valley, .panel, .startup]
  | .override => sign.override.isSome = true
  | .avalancheWarning => ∃ z ∈ sg.zones, (u.zoneUnit.zones.get z).warning = true
  | .ban => sg.restriction.ban = true
  | .chains => sg.restriction.chains = true
  | .noticeAhead => ∃ n ∈ u.notices.list, n.state = .announced ∧ i ∈ n.segs
  | .advisory => 2 ≤ sg.restriction.advisory
  | .default => True

/-- The priority of a class (R148). -/
def priority : PageClass → Nat
  | .full => 1 | .override => 3 | .avalancheWarning => 4 | .ban => 5 | .chains => 6 | .noticeAhead => 7 | .advisory => 8
  | .default => 9
  | _ => 2

/-- The desired class: it applies, and none of a higher priority does (R148). -/
def DesiredClass (u : State) (sign : Sign) (i : SegId) (sg : Segment) (c : PageClass) : Prop :=
  ClassApplies u sign i sg c ∧ ∀ d, ClassApplies u sign i sg d → priority c ≤ priority d

/-- What a segment's site gives for a field; absent without a site (R146). -/
def ofSite (u : State) (sg : Segment) (f : Site → Option Int) : Option Int := (sg.site.map u.sites.get).bind f

/-- A temperature that is a value (R146). -/
def tempValue : Temp → Option Int
  | .value v => some v
  | _ => none

/-- Whole m/s of a wind in tenths (R146). -/
def windValue (x : Option Nat) : Option Int := x.map fun v => ((v / 10 : Nat) : Int)

/-- The notice that NOTICE_AHEAD shows: the first ANNOUNCED one that lists the segment (R148). -/
def noticeShown (u : State) (i : SegId) : Option Notice :=
  u.notices.list.find? fun n => n.state == .announced && n.segs.contains i

/-- The ends of the notices that are sources of a segment's NOTICE entry (R147). -/
def noticeEnds (u : State) (sg : Segment) : List Nat :=
  (u.notices.list.filter fun n => ((sg.holds.entry .notice).map (·.sources)).any fun l => l.contains n.id).filterMap (·.stop)

/-- The class value of R147. -/
def valueOfClass (u : State) (i : SegId) (sg : Segment) : PageClass → Option Int
  | .closedNotice => (noticeEnds u sg).min?.map Int.ofNat
  | .avalancheWarning =>
    (((sg.zones.map u.zoneUnit.zones.get).filter (·.warning)).map (·.effective)).max?.map Int.ofNat
  | .ban => ofSite u sg fun t => windValue t.vGust
  | .noticeAhead => (noticeShown u i).map fun n => Int.ofNat n.start
  | .advisory => ofSite u sg fun t => tempValue t.ts
  | _ => none

/-- The value that a field source gives (R146). -/
def valueOfSource (u : State) (c : PageClass) (i : SegId) (sg : Segment) : Source → Option Int
  | .none => none
  | .classValue => valueOfClass u i sg c
  | .segmentId => some i.val
  | .advisory => some sg.restriction.advisory
  | .surfaceTemp => ofSite u sg fun t => tempValue t.ts
  | .airTemp => ofSite u sg fun t => tempValue t.ta
  | .gust => ofSite u sg fun t => windValue t.vGust
  | .meanWind => ofSite u sg fun t => windValue t.vMean
  | .precip => ofSite u sg fun t => t.p.map Int.ofNat
  | .zoneLevel => ((sg.zones.map u.zoneUnit.zones.get).map (·.effective)).max?.map Int.ofNat

/-- `ref` is the reference that a desired class gives: the override as recorded, or the map entry's page, flash flag and
fields, with the chosen notice's page where it has one (R150). -/
def RefOf (u : State) (sign : Sign) (c : PageClass) (i : SegId) (sg : Segment) (ref : PageRef) : Prop :=
  (c = .override → sign.override = some ref) ∧
    ∀ k : Fin 12, k.val = c.idx.val →
      let e := u.board.pageMap.get k
      let field (format : Option Format) (src : Source) : Option Field :=
        format.bind fun f => (valueOfSource u c i sg src).map fun v => ⟨f, v⟩
      ref = { page := if c = .noticeAhead then ((noticeShown u i).bind (·.page)).getD e.page else e.page,
              fieldA := field e.formatA e.sourceA, fieldB := field e.formatB e.sourceB, flash := e.flash }

/-- The desired page matches the confirmed page (R153). -/
def MatchesConfirmed (b : Board) (i : SignId) (ref : PageRef) (sum : Nat) : Prop :=
  (∃ c, (b.line.records.get i).confirmed = some c ∧ c.ref = ref ∧ c.sum = sum) ∧ (b.signs.get i).contentMark = false

/-- The page that a number reads as: a valid record's codes, else 80 codes of 32 (R141). -/
def PageReads (st : Store) (page : Nat) (codes : List Byte) : Prop :=
  (∀ (n : Fin 128) (l : List Byte), n.val = page → st.library.get n = .valid l → codes = l.take 80) ∧
    ((∀ (n : Fin 128) (l : List Byte), n.val = page → st.library.get n ≠ .valid l) → codes = List.replicate 80 32)

/-- A change of a sign's desired page: its new record, and change pending when the sign is the target of the transfer in flight
(R152 to R154, R170). -/
def changedPage (b : Board) (i : SignId) (sign : Sign) : Board :=
  { b with
    signs := put b.signs i sign,
    line := { b.line with
      transfer := b.line.transfer.map fun t => if t.target = i then { t with changePending := true } else t } }

/-- The board `b` that a re-selection of sign `i` leaves in state `u`, and whether the desired page changed. An equal reference
leaves the desired page and urgency, and clears the need of a CURRENT sign whose page matches; a new one is recorded with its
class, urgency and composed page, and judged for service (R148 to R153, log 9). -/
def Selects (u : State) (i : SignId) (b : Board) (changed : Prop) : Prop :=
  let sign := u.board.signs.get i
  let current : Prop := (u.board.line.records.get i).state = .current
  let seg := sign.segment
  (∀ sg, u.road.segs.get seg = some sg →
    ∃ c ref page, DesiredClass u sign seg sg c ∧ RefOf u sign c seg sg ref ∧ PageReads u.store ref.page page ∧
      let codes := compose page ref
      let d : Desired := { cls := c, ref := ref, codes := codes, sum := byteSum codes }
      let settled : Prop := MatchesConfirmed u.board i ref d.sum
      (∀ old, sign.desired = some old → old.ref = ref → ¬ changed ∧
        ((MatchesConfirmed u.board i ref old.sum ∧ current) →
          b = { u.board with signs := put u.board.signs i { sign with needs := false } }) ∧
        (¬ (MatchesConfirmed u.board i ref old.sum ∧ current) → b = u.board)) ∧
      (sign.desired.map (·.ref) ≠ some ref → changed ∧ ∃ needs,
        (¬ settled → needs = true) ∧ (settled → current → needs = false) ∧ (settled → ¬ current → needs = sign.needs) ∧
        b = changedPage u.board i { sign with
          desired := some d, urgent := decide (c ∈ closureClasses), needs := needs })) ∧
  (u.road.segs.get seg = none → ¬ changed ∧ b = u.board)

/-- Every desired page is composed again, `codes` giving its codes: where they change, the codes and the sum are recorded, the
content mark and the need of service are set, and the transfer to that sign has a change pending; all else stands (R154,
R170). -/
def Recomposed (codes : Desired → List Byte) (b b' : Board) : Prop :=
  let changed (j : SignId) : Bool := (b.signs.get j).desired.any fun d => !(codes d == d.codes)
  b'.pageMap = b.pageMap ∧
    (∀ j, b'.signs.get j = if changed j then
        { b.signs.get j with
          desired := (b.signs.get j).desired.map fun d => { d with codes := codes d, sum := byteSum (codes d) },
          contentMark := true, needs := true }
      else b.signs.get j) ∧
    b'.line = { b.line with
      transfer := b.line.transfer.map fun t => if changed t.target then { t with changePending := true } else t }

-- ---------------------------------------------------------------- composition, as R142 and R143 state it

/-- The decimal digits of a number, without leading zeros (R143). -/
def Decimal (n : Nat) (text : List Byte) : Prop :=
  ∃ ds : List Nat, ds ≠ [] ∧ (∀ d ∈ ds, d < 10) ∧ (ds.head? = some 0 → ds = [0]) ∧
    ds.foldl (fun a d => 10 * a + d) 0 = n ∧ text = ds.map fun d => BitVec.ofNat 8 (48 + d)

/-- The five characters of a field: right-aligned with leading spaces, in its format, the value clamped (R143). -/
def Renders (f : Option Field) (out : List Byte) : Prop :=
  let aligned (text : List Byte) : Prop := out = List.replicate (5 - text.length) 32 ++ text
  let minus (v : Int) : List Byte := if v < 0 then [45] else []
  match f with
  | none => out = [32, 32, 32, 32, 32]
  | some ⟨.integer, v⟩ =>
    let c := max (-9999) (min 99999 v)
    ∃ ds, Decimal c.natAbs ds ∧ aligned (minus c ++ ds)
  | some ⟨.tenths, v⟩ =>
    let c := max (-999) (min 9999 v)
    ∃ ds, Decimal (c.natAbs / 10) ds ∧ aligned (minus c ++ ds ++ [46, BitVec.ofNat 8 (48 + c.natAbs % 10)])
  | some ⟨.time, v⟩ =>
    let m := (v % 1440).toNat
    let digit (n : Nat) : Byte := BitVec.ofNat 8 (48 + n)
    out = [digit (m / 60 / 10), digit (m / 60 % 10), 58, digit (m % 60 / 10), digit (m % 60 % 10)]

/-- `F` composes one block with the renderings of its two fields: a marker's run takes five characters, cut at the block's end,
and the scan goes on behind it; every other code stands (R142). -/
def Composes (a b : List Byte) (F : List Byte → List Byte) : Prop :=
  F [] = [] ∧ ∀ (c : Byte) (rest : List Byte),
    F (c :: rest) = if c = 1 then a.take (rest.length + 1) ++ F (rest.drop 4)
      else if c = 2 then b.take (rest.length + 1) ++ F (rest.drop 4) else c :: F rest

-- ---------------------------------------------------------------- the latch word, as R56 states it

/-- The newest slot (is it slot 1?) with its generation (R56). -/
def newestSlot (st : Store) : Option (Bool × Byte) :=
  match slotOf st.slot0, slotOf st.slot1 with
  | some (_, g0), some (_, g1) =>
    if g0 = g1 + 1 then some (false, g0) else if g1 = g0 + 1 then some (true, g1) else none
  | some (_, g0), none => some (false, g0)
  | none, some (_, g1) => some (true, g1)
  | none, none => none

/-- A latch word write of a value begins: into the slot other than the newest, with the generation above the newest; without a
newest slot into slot 0, with the generation above that of a valid slot 1, else 0 (R56). -/
def LatchWriteBegins (v : LatchValue) (st st' : Store) : Prop :=
  ∃ second g, st' = { st with inFlight := some (.latchSlot second v g), latchPending := false } ∧
    (∀ n, newestSlot st = some n → second = !n.1 ∧ g = n.2 + 1) ∧
    (newestSlot st = none → second = false ∧ g = match slotOf st.slot1 with | some (_, g1) => g1 + 1 | none => 0)

/-- A latch word write is requested: held pending behind a write in flight, else it begins (R56). -/
def LatchWriteRequested (v : LatchValue) (st st' : Store) : Prop :=
  (st.inFlight.isSome = true → st' = { st with latchPending := true }) ∧ (st.inFlight = none → LatchWriteBegins v st st')

-- ---------------------------------------------------------------- the records of DESCRIPTION, as R194 lays them out

/-- A number lies in a range. -/
def InRange (lo hi n : Nat) : Prop := lo ≤ n ∧ n ≤ hi

/-- The corridor record: two silence limits, the window length, and twelve page map entries of a page, a flash flag and the
format and source of two fields (R49, R146, R183, R194). -/
def CorridorFields (l : List Byte) : Prop :=
  InRange 30 600 (at2 l 0) ∧ InRange 30 600 (at2 l 2) ∧ InRange 60 900 (at2 l 4) ∧
    ∀ c : Fin 12, let o := 6 + 6 * c.val
      at1 l o ≤ 127 ∧ at1 l (o + 1) ≤ 1 ∧ at1 l (o + 2) ≤ 3 ∧ at1 l (o + 3) ≤ 9 ∧ at1 l (o + 4) ≤ 3 ∧ at1 l (o + 5) ≤ 9

/-- A segment record: undefined with its fields unused, or defined with its warning interval, site or 255, and options (R1,
R194). -/
def SegmentFields (l : List Byte) : Prop :=
  (at1 l 0 = 0 ∧ at2 l 1 = 0 ∧ at1 l 3 = 0 ∧ at1 l 4 = 0) ∨
    (at1 l 0 = 1 ∧ at2 l 1 ≤ 600 ∧ (at1 l 3 ≤ 3 ∨ at1 l 3 = 255) ∧ at1 l 4 ≤ 3)

/-- A gate record: one or two segments, the second byte unused with one, T_min and the greater T_max (R29, R194). -/
def GateFields (l : List Byte) : Prop :=
  (at1 l 0 = 1 ∧ at1 l 2 = 0 ∨ at1 l 0 = 2 ∧ at1 l 2 ≤ 7) ∧ at1 l 1 ≤ 7 ∧ InRange 1 60 (at1 l 3) ∧
    InRange 2 240 (at1 l 4) ∧ at1 l 3 < at1 l 4

/-- A sign record: segment and role (R145, R194). -/
def SignFields (l : List Byte) : Prop := at1 l 0 ≤ 7 ∧ at1 l 1 ≤ 1

/-- A zone record: link-loss level and two ordered thresholds; every bit of its exposed segments is a segment (R100, R194). -/
def ZoneFields (l : List Byte) : Prop :=
  at1 l 0 ≤ 5 ∧ InRange 1 5 (at1 l 1) ∧ InRange 1 5 (at1 l 2) ∧ at1 l 1 ≤ at1 l 2

/-- A channel record: kind, owner, gate length code and NF; the carrier and qualification fields of a DETECTOR, unused for the
other kinds, as the owner is for UNUSED (R66, R107, R194). -/
def ChannelFields (l : List Byte) : Prop :=
  at1 l 0 ≤ 5 ∧ at1 l 2 ≤ 3 ∧ at1 l 3 ≤ 63 ∧
    (at1 l 0 = 5 → at1 l 1 ≤ 5 ∧ 1 ≤ at1 l 4 ∧ 1 ≤ at2 l 5 ∧ InRange 1 8 (at1 l 7) ∧ InRange (at1 l 7) 15 (at1 l 8) ∧
      at1 l 9 ≤ 3) ∧
    (at1 l 0 ≠ 5 → at1 l 1 ≤ (if at1 l 0 = 0 then 0 else 3) ∧ at1 l 4 = 0 ∧ at2 l 5 = 0 ∧ at1 l 7 = 0 ∧ at1 l 8 = 0 ∧
      at1 l 9 = 0)

/-- A site record: period code, calibrations, ordered grade and wind thresholds, ring length and fail grade (R79, R194). -/
def SiteFields (l : List Byte) : Prop :=
  at1 l 0 ≤ 3 ∧ InRange 1 4095 (at2 l 1) ∧ at2 l 3 ≤ 20000 ∧ 1 ≤ at1 l 5 ∧ 1 ≤ at1 l 6 ∧ 1 ≤ at1 l 11 ∧
    at1 l 11 < at1 l 10 ∧ at1 l 10 < at1 l 9 ∧ at1 l 9 < at1 l 8 ∧ at1 l 8 ≤ 100 ∧ 1 ≤ at2 l 12 ∧ at2 l 12 < at2 l 14 ∧
    at2 l 14 ≤ 999 ∧ InRange 1 15 (at1 l 16) ∧ at1 l 17 ≤ 4

/-- Every field of the DESCRIPTION record of a number lies in its range, judged on that record alone (R194, R195, log 15). -/
def FieldsInRange (number : Nat) (l : List Byte) : Prop :=
  if number = 0 then CorridorFields l
  else if number ≤ 8 then SegmentFields l
  else if number ≤ 14 then GateFields l
  else if number ≤ 26 then SignFields l
  else if number ≤ 32 then ZoneFields l
  else if number ≤ 48 then ChannelFields l
  else SiteFields l

/-- The record of gate `g` names segment `i` (R194). -/
def namesSegment (st : Store) (g : GateId) (i : SegId) : Bool :=
  let l := st.desc (9 + g.val)
  at1 l 1 == i.val || (at1 l 0 == 2 && at1 l 2 == i.val)

/-- The record of zone `z` exposes segment `i` (R194). -/
def exposesSegment (st : Store) (z : ZoneId) (i : SegId) : Bool := (at1 (st.desc (27 + z.val)) 3).testBit i.val

/-- The channels whose records have a kind code and an owner (R194). -/
def describedChannels (st : Store) (kind owner : Nat) : List ChanId :=
  (List.finRange 16).filter fun c => at1 (st.desc (33 + c.val)) 0 == kind && at1 (st.desc (33 + c.val)) 1 == owner

/-- A site is in use: a channel record of kind 1 to 4 names it (R80). -/
def InUse (st : Store) (t : SiteId) : Prop := ∃ kind, InRange 1 4 kind ∧ describedChannels st kind t.val ≠ []

/-- The load checks: every record valid with its fields in range; a defined segment; gates naming one or two distinct defined
segments, and no segment more than two gates (log 16); signs and zones naming defined segments; at most four detectors a zone;
the channel rules of a site in use; segments naming sites in use; format 0 only beside source NONE (R80, R101, R200). -/
def PassesLoad (st : Store) : Prop :=
  let defined (i : SegId) : Prop := at1 (st.desc (1 + i.val)) 0 = 1
  (∀ n : Fin 53, ∃ b, st.description.get n = .valid b) ∧ (∀ n : Fin 53, FieldsInRange n.val (st.desc n.val)) ∧
    (∃ i, defined i) ∧
    (∀ g : GateId, (at1 (st.desc (9 + g.val)) 0 = 2 → at1 (st.desc (9 + g.val)) 1 ≠ at1 (st.desc (9 + g.val)) 2) ∧
      ∀ i, namesSegment st g i = true → defined i) ∧
    (∀ i, ((List.finRange 6).filter fun g => namesSegment st g i).length ≤ 2) ∧
    (∀ (j : SignId) (i : SegId), at1 (st.desc (15 + j.val)) 0 = i.val → defined i) ∧
    (∀ z i, exposesSegment st z i = true → defined i) ∧
    (∀ z : ZoneId, (describedChannels st 5 z.val).length ≤ 4) ∧
    (∀ t : SiteId, InUse st t → (describedChannels st 2 t.val).length = 1 ∧
      ∀ kind ∈ [1, 3, 4], (describedChannels st kind t.val).length ≤ 1) ∧
    (∀ (i : SegId) (t : SiteId), defined i → at1 (st.desc (1 + i.val)) 3 = t.val → InUse st t) ∧
    ∀ c : Fin 12, let o := 6 + 6 * c.val
      (at1 (st.desc 0) (o + 2) = 0 → at1 (st.desc 0) (o + 3) = 0) ∧
      (at1 (st.desc 0) (o + 4) = 0 → at1 (st.desc 0) (o + 5) = 0)

-- ---------------------------------------------------------------- the tables of a load (R2, R27, R28, R46, R47, R76, R97, R118, R194)

/-- A gate as its record describes it, in UNKNOWN under the demand LOWER, its two switches as they read (R46, R47, R194); the
listing segments ascend (log 17). -/
def describedGate (st : Store) (g : GateId) (raised lowered : Filter) : Gate :=
  let l := st.desc (9 + g.val)
  { listing := (List.finRange 8).filter (namesSegment st g), tMin := at1 l 3, tMax := at1 l 4, state := .unknown,
    cause := none, demand := .lower, check := none, timer := none, raisedSwitch := raised, loweredSwitch := lowered,
    raiseDrive := false, lowerDrive := false }

/-- The gate after the load is the described one resolved by its switches: LOWERED, a CHECKED travel down from the raised rest,
an UNCHECKED one, or FAULT CONFLICT (R45 to R47). -/
def GateAtLoad (st : Store) (g : GateId) (raised lowered : Filter) (new : Gate) : Prop :=
  let loaded := describedGate st g raised lowered
  new = match raised.level, lowered.level with
    | false, true => loaded.rest .lowered
    | true, false => loaded.travel .lower .checked
    | false, false => loaded.travel .lower .unchecked
    | true, true => loaded.fail .conflict

/-- A segment has the gates and signs that name it and the zones that expose it, ascending, and the site, options and warning
interval of its record (R1, R2, R194). -/
def SegmentAsDescribed (st : Store) (i : SegId) (sg : Segment) : Prop :=
  let l := st.desc (1 + i.val)
  sg.gates = (List.finRange 6).filter (fun g => namesSegment st g i) ∧
    sg.signs = ((List.finRange 12).filter fun j => at1 (st.desc (15 + j.val)) 0 == i.val).map
      (fun j => (j, if at1 (st.desc (15 + j.val)) 1 = 1 then .info else .approach)) ∧
    (∀ t, sg.site = some t ↔ at1 l 3 = t.val) ∧ sg.zones = (List.finRange 6).filter (fun z => exposesSegment st z i) ∧
    sg.iceAuto = (at1 l 4).testBit 0 ∧ sg.windAuto = (at1 l 4).testBit 1 ∧ sg.warningInterval = at2 l 1

/-- A channel after a load: its kind, owner, gate length and NF as described, count 0, no last result, and for a DETECTOR the
carrier PRESENT with its counter at the limit; its filter and edge level as given (R66, R67, R76, R78, R194). -/
def ChannelAtLoad (st : Store) (c : ChanId) (filter : Filter) (edge : Bool) (new : Channel) : Prop :=
  let l := st.desc (33 + c.val)
  let limit := 10 * at1 l 4
  [ChanKind.unused, .wind, .surfaceTemp, .airTemp, .precip, .detector][at1 l 0]? = some new.kind ∧
    (match new.owner with
      | .none => new.kind = .unused
      | .zone z => new.kind = .detector ∧ at1 l 1 = z.val
      | .site t => new.kind ≠ .unused ∧ new.kind ≠ .detector ∧ at1 l 1 = t.val) ∧
    [1, 2, 4, 8][at1 l 2]? = some new.gateLength ∧ new.nf = at1 l 3 ∧ new.count = 0 ∧ new.last = none ∧
    new.gatesEnded = 0 ∧ new.filter = filter ∧ new.edge = edge ∧
    new.carrier = if new.kind = .detector then some { limit := limit, present := true, counter := some limit, phase := 0 }
      else none

/-- A qualification record after a load: for a DETECTOR its thresholds and notify mode, QUIET, count 0, no latest result and no
test flag; none for another kind (R107, R118, R194). -/
def QualAtLoad (st : Store) (c : ChanId) (new : Option Qualification) : Prop :=
  let l := st.desc (33 + c.val)
  if at1 l 0 = 5 then ∃ notify, [NotifyMode.none, .enter, .leave, .both][at1 l 9]? = some notify ∧
    new = some { trip := at2 l 5, np := at1 l 7, nc := at1 l 8, notify := notify, state := .quiet, count := 0,
                 latest := none, test := false }
  else new = none

/-- A site after a load: in use as its channels say, its configuration as described, an empty accumulator, the rings at the
fail grade and at 0, and no latest value (R79, R80, R97, R98, R194). -/
def SiteAtLoad (st : Store) (i : SiteId) (new : Site) : Prop :=
  let l := st.desc (49 + i.val)
  (new.inUse = true ↔ InUse st i) ∧ [8, 16, 32, 64][at1 l 0]? = some new.config.period ∧
    new.config = { period := new.config.period, w := at2 l 1, f0 := at2 l 3, s := at1 l 5, pg := at1 l 6, mg := at1 l 7,
                   t1 := at1 l 8, t2 := at1 l 9, t3 := at1 l 10, t4 := at1 l 11, wBan := at2 l 12, wClose := at2 l 14,
                   len := at1 l 16, fail := at1 l 17 } ∧
    new = { inUse := new.inUse, config := new.config, acc := ⟨0, 0, 0, none, none⟩, gradeRing := [at1 l 17],
            windRing := [0], ts := .absent, ta := .absent, vMean := none, vGust := none, p := none, g := .absent,
            penalties := none, computedGrade := none, reportedGrade := at1 l 17, computedWind := none, reportedWind := 0,
            periodsEnded := 0 }

/-- A zone after a load: UNKNOWN at set level 0, so at the link-loss level, with its flags judged and its exposed segments as
described; not set since reset (R100, R102, R118, R119, R194). -/
def ZoneAtLoad (st : Store) (z : ZoneId) (new : Zone) : Prop :=
  let l := st.desc (27 + z.val)
  new = { setLevel := 0, status := .unknown, linkLoss := at1 l 0, warnThreshold := at1 l 1, closeThreshold := at1 l 2,
          effective := at1 l 0, warning := decide (at1 l 1 ≤ at1 l 0), closure := decide (at1 l 2 ≤ at1 l 0),
          exposed := (List.finRange 8).filter (exposesSegment st z), setSinceReset := false }

/-- A page map entry after a load, in the class order of R146 (R146, R194). -/
def EntryAtLoad (st : Store) (c : Fin 12) (new : MapEntry) : Prop :=
  let l := st.desc 0
  let o := 6 + 6 * c.val
  let formats : List (Option Format) := [none, some .integer, some .tenths, some .time]
  let sources : List Source := [.none, .classValue, .segmentId, .advisory, .surfaceTemp, .airTemp, .gust, .meanWind,
    .precip, .zoneLevel]
  new.page = at1 l o ∧ new.flash = (at1 l (o + 1) == 1) ∧ formats[at1 l (o + 2)]? = some new.formatA ∧
    sources[at1 l (o + 3)]? = some new.sourceA ∧ formats[at1 l (o + 4)]? = some new.formatB ∧
    sources[at1 l (o + 5)]? = some new.sourceB

/-- A segment after a load, in state `t`: CLOSED with both timers stopped, not incomplete, its restriction record from the fail
grade of its site, and its hold set: STARTUP; FULL while the latch is not CLEAR; ZONE for the zones in zone closure; ICE where
the fail grade is 4 and the option is on; no other entry (R1, R3, R27, R28, R93). -/
def SegmentAtLoad (since : Option Nat) (t : State) (sg : Segment) : Prop :=
  let placed (l : List Nat) : HoldEntry := { since := since, reason := none, sources := l }
  let closed := (sg.zones.filter fun z => (t.zoneUnit.zones.get z).closure).map (·.val)
  let grade := match sg.site with | some j => (t.sites.get j).config.fail | none => 0
  let ice : Bool := grade == 4 && sg.iceAuto
  sg.state = .closed ∧ sg.confirmWait = none ∧ sg.warningTimer = none ∧ sg.incomplete = false ∧
    sg.restriction = { advisory := grade, chains := decide (3 ≤ grade), ban := false } ∧
    sg.holds.entry .startup = some (placed []) ∧
    sg.holds.entry .full = (if t.latch.state = .clear then none else some (placed [])) ∧
    sg.holds.entry .zone = (if closed = [] then none else some (placed closed)) ∧
    sg.holds.entry .weather = (if ice then some (placed [causeIce]) else none) ∧
    ∀ k ∈ [HoldKind.valley, .avalanche, .panel, .detector, .notice], sg.holds.entry k = none

/-- A sign after a load: its segment and role as described, no override, no content mark, a desired page of a closure class,
urgent and needing service; its line record STALE, or SENDING for the target of the first transfer (R156, R157, R173, R175). -/
def SignAtLoad (st : Store) (t : State) (i : SignId) : Prop :=
  let g := t.board.signs.get i
  let l := st.desc (15 + i.val)
  g.segment.val = at1 l 0 ∧ g.role = (if at1 l 1 = 1 then .info else .approach) ∧
    g.override = none ∧ g.contentMark = false ∧
    g.needs = true ∧ g.urgent = true ∧ (∃ d, g.desired = some d ∧ d.cls ∈ closureClasses) ∧
    ((t.board.line.records.get i).state = .stale ∨ ((t.board.line.records.get i).state = .sending ∧
      ∃ tr, t.board.line.transfer = some tr ∧ tr.target = i))

-- ---------------------------------------------------------------- deliveries, as R82 and R112 state them

/-- A site's accumulator after the gate result of one of its channels (R82). -/
def afterResult (w : Nat) (a : Accumulator) (c : Channel) : Accumulator :=
  match c.kind with
  | .wind => { a with
      windSum := a.windSum + c.count
      gustMax := let speed := min 999 (c.count * w / (c.gateLength * 100)); if a.gustMax < speed then speed else a.gustMax }
  | .precip => { a with precipSum := a.precipSum + c.count }
  | .surfaceTemp => { a with surface := some c.count }
  | .airTemp => { a with air := some c.count }
  | _ => a

/-- A result or a test trip that takes a detector from `q` to `q'` sets DETECTOR attention: at an entry to CONFIRMED or FAILED,
and by the notify mode at an entry to PENDING and at a return from PENDING to QUIET (R112). -/
def NotifiesDetector (q q' : Qualification) : Prop :=
  (q'.state ≠ q.state ∧ (q'.state = .confirmed ∨ q'.state = .failed)) ∨
    (q.state ≠ .pending ∧ q'.state = .pending ∧ (q.notify = .enter ∨ q.notify = .both)) ∨
    (q.state = .pending ∧ q'.state = .quiet ∧ (q.notify = .leave ∨ q.notify = .both))

-- ---------------------------------------------------------------- notices, as R127 and R131 state them

/-- What an evaluation at `now` makes of a notice: gone, or its record with the state that the table of R127 gives. -/
def afterEvaluation (now : Nat) (n : Notice) : Option Notice :=
  let ended : Bool := match n.stop with
    | some e => e ≤ now
    | none => false
  if ended then none
  else match n.state with
    | .inForce => some n
    | .announced => some (if n.start ≤ now then { n with state := .inForce } else n)
    | .waiting =>
      some (if n.start ≤ now then { n with state := .inForce }
        else if (n.start : Int) - n.lead ≤ now then { n with state := .announced } else n)

/-- The carried fields lie in their ranges (check 3 of R131). -/
def BodyOk (r : Road) (b : NoticeBody) : Prop :=
  NamesConfigured r b.segs ∧ b.start.toNat ≤ 1048575 ∧
    (∀ e, b.stop = some e → b.start.toNat < e.toNat ∧ e.toNat ≤ 1048575) ∧ ∀ p, b.page = some p → p.toNat ≤ 127

/-- A notice holds the carried fields: its segments each once, its lead clamped to 4320 (R131, R133). -/
def Carries (n : Notice) (b : NoticeBody) : Prop :=
  (∀ i, i ∈ n.segs ↔ lists b.segs i = true) ∧ n.segs.Nodup ∧ n.start = b.start.toNat ∧
    n.stop = b.stop.map BitVec.toNat ∧ n.lead = min 4320 b.lead.toNat ∧ n.page = b.page.map BitVec.toNat

/-- The list holds exactly the notices of `P`, each taken through an evaluation while the clock is VALID (R127, R132). -/
def ListBecomes (t : State) (P : Notice → Prop) : Prop :=
  ∀ m, m ∈ t.notices.list ↔
    if t.notices.clock.valid = true then ∃ n, P n ∧ afterEvaluation t.notices.clock.value n = some m else P m

/-- Only entries of the named kind may differ. -/
def OnlyKind (kind : HoldKind) (s t : State) : Prop :=
  SegmentBecomes s t fun _ sg sg' => ∀ k, k ≠ kind → sg'.holds.entry k = sg.holds.entry k

-- ---------------------------------------------------------------- laws that every step keeps

/-- A link's attention line is asserted exactly while its two sets have a flag in common (R187). -/
def LineLaw (s : State) : Prop :=
  ∀ l, (s.links.get l).line = true ↔
    ∃ flag : Fin 11, (s.links.get l).attention.getLsbD flag = true ∧ (s.links.get l).enable.getLsbD flag = true

/-- The rings hold 1 to L entries, the reported values are their largest, and a valid G lies in 10..100 (R90, R91). -/
def SiteLaw (t : Site) : Prop :=
  1 ≤ t.config.len ∧ t.config.fail ≤ 4 ∧
    (1 ≤ t.gradeRing.length ∧ t.gradeRing.length ≤ t.config.len) ∧
    (1 ≤ t.windRing.length ∧ t.windRing.length ≤ t.config.len) ∧
    t.reportedGrade = reportedOf t.gradeRing ∧ t.reportedWind = reportedOf t.windRing ∧
    (∀ x ∈ t.gradeRing, x ≤ 4) ∧ (∀ x ∈ t.windRing, x ≤ 2) ∧ ∀ g, t.g = .value g → 10 ≤ g ∧ g ≤ 100

/-- A zone's effective level and flags follow its set level and status (R102), and its levels lie in 0..5 (R100). -/
def ZoneLaw (z : Zone) : Prop := z.judge = z ∧ z.setLevel ≤ 5 ∧ z.linkLoss ≤ 5 ∧ z.warnThreshold ≤ z.closeThreshold

/-- A gate's drives follow its state, and its cause, check and timer are present exactly in the states that R29 gives
them; the timer stays within T_max (R29, R31). -/
def GateLaw (g : Gate) : Prop :=
  g.raiseDrive = (g.state == .raising) ∧ g.lowerDrive = (g.state == .lowering) ∧
    g.cause.isSome = (g.state == .fault) ∧ g.check.isSome = g.state.target.isSome ∧
    g.timer.isSome = g.state.target.isSome ∧ ∀ ms, g.timer = some ms → ms ≤ g.tMaxMs

/-- The laws of single records of sites, zones and gates. -/
def RecordLaws (s : State) : Prop :=
  (∀ i, SiteLaw (s.sites.get i)) ∧ (∀ z, ZoneLaw (s.zoneUnit.zones.get z)) ∧ ∀ g, GateLaw (s.road.gates.get g)

/-- The notice list: at most 16, ids 1..16 and distinct, ordered by start and id (R126); an end lies after its start
(R131); the lead is within 4320 (R131). -/
def NoticeLaw (s : State) : Prop :=
  s.notices.list.length ≤ 16 ∧ (∀ n ∈ s.notices.list, 1 ≤ n.id ∧ n.id ≤ 16) ∧
    (s.notices.list.map (·.id)).Nodup ∧ s.notices.list.Pairwise (fun a b => a.before b = true) ∧
    ∀ n ∈ s.notices.list, n.lead ≤ 4320 ∧ n.start ≤ Config.lastMinute ∧
      ∀ e, n.stop = some e → n.start < e ∧ e ≤ Config.lastMinute

/-- Is a hold kind one with sources (R4)? -/
def sourced : HoldKind → Bool
  | .zone => true
  | .detector => true
  | .weather => true
  | .notice => true
  | _ => false

/-- Is a hold kind placed from a link, and so able to carry a reason code (R4)? -/
def linkPlaced : HoldKind → Bool
  | .valley => true
  | .avalanche => true
  | .panel => true
  | _ => false

/-- The entries of a hold set have sources exactly for the kinds with sources, and a reason code only for the link-placed
kinds (R4). -/
def EntryLaw (h : HoldSet) : Prop :=
  ∀ k e, h.entry k = some e → e.sources.isEmpty = !sourced k ∧ (e.reason.isSome = true → linkPlaced k = true)

/-- A segment with holds is in WARNING, CLOSING or CLOSED (R9); in WARNING it has holds (R13) and exactly one of its two
timers runs (R10, R11), and in every other state both are stopped (R9, R15). -/
def SegmentLaw (sg : Segment) : Prop :=
  EntryLaw sg.holds ∧
    (sg.state = .opened ∨ sg.state = .opening → sg.holds.empty = true) ∧
    (sg.state = .warning → sg.holds.empty = false ∧ sg.confirmWait.isSome = !sg.warningTimer.isSome) ∧
    (sg.state ≠ .warning → sg.confirmWait = none ∧ sg.warningTimer = none)

/-- While the latch is not CLEAR every configured segment holds FULL, and only then; a segment with FULL is shut (R50).
The window and the proposer are present exactly in PROPOSED (R49). -/
def LatchLaw (s : State) : Prop :=
  (∀ i sg, s.road.segs.get i = some sg →
    sg.holds.has .full = (s.latch.state != .clear) ∧ (sg.holds.has .full = true → sg.state.shut = true)) ∧
  s.latch.window.isSome = (s.latch.state == .proposed) ∧ s.latch.proposer.isSome = (s.latch.state == .proposed)

/-- The laws of segments and latch. -/
def SegmentLaws (s : State) : Prop := (∀ i sg, s.road.segs.get i = some sg → SegmentLaw sg) ∧ LatchLaw s

/-- The sign line: one transfer or one probe at most, a frame waited on exactly while one is in flight; the target is the
one sign in SENDING; a probed sign is in FAULT; a cause is present exactly in FAULT (R160, R161). -/
def SignLineLaw (s : State) : Prop :=
  let l := s.board.line
  (∀ t, l.transfer = some t → l.probing = none ∧ (l.records.get t.target).state = .sending) ∧
    (∀ i, (l.records.get i).state = .sending → ∃ t, l.transfer = some t ∧ t.target = i) ∧
    (∀ i, l.probing = some i → (l.records.get i).state = .fault) ∧
    (l.sent.isSome = (l.transfer.isSome || l.probing.isSome)) ∧
    ∀ i, (l.records.get i).cause.isSome = ((l.records.get i).state == .fault)

/-- A segment's hold entry of a kind has a source. -/
def HasSource (s : State) (i : SegId) (k : HoldKind) (source : Nat) : Prop :=
  ∀ sg, s.road.segs.get i = some sg → ∃ e, sg.holds.entry k = some e ∧ source ∈ e.sources

/-- Every standing cause holds its segments: a CONFIRMED or FAILED detector those that its zone exposes (R113), a zone in
closure those it exposes (R105), a notice IN_FORCE those it lists (R129), a reported grade 4 or wind class 2 the segments of
the site with that option on (R94). -/
def CauseLaw (s : State) : Prop :=
  (∀ c z q i, (s.field.channels.get c).owner = .zone z → s.zoneUnit.quals.get c = some q → q.state.closes = true →
    i ∈ (s.zoneUnit.zones.get z).exposed → HasSource s i .detector c.val) ∧
  (∀ z i, (s.zoneUnit.zones.get z).closure = true → i ∈ (s.zoneUnit.zones.get z).exposed → HasSource s i .zone z.val) ∧
  (∀ n i, n ∈ s.notices.list → n.state = .inForce → i ∈ n.segs → HasSource s i .notice n.id) ∧
  ∀ i sg t, s.road.segs.get i = some sg → sg.site = some t →
    ((s.sites.get t).reportedGrade = 4 → sg.iceAuto = true → HasSource s i .weather causeIce) ∧
    ((s.sites.get t).reportedWind = 2 → sg.windAuto = true → HasSource s i .weather causeWind)

/-- Every source stands for a cause that stands: a DETECTOR source for a CONFIRMED or FAILED detector of a zone that exposes the
segment (R113), a ZONE source for a zone in closure that exposes it (R105), a NOTICE source for a notice IN_FORCE that lists it
(R129), a WEATHER source for the reported grade 4 or wind class 2 of its site with the option on (R94). -/
def SourceLaw (s : State) : Prop :=
  ∀ i sg, s.road.segs.get i = some sg →
    (∀ e, sg.holds.entry .detector = some e → ∀ n ∈ e.sources, ∃ (c : ChanId) (z : ZoneId), n = c.val ∧
      (s.field.channels.get c).owner = .zone z ∧ i ∈ (s.zoneUnit.zones.get z).exposed ∧
      ∃ q, s.zoneUnit.quals.get c = some q ∧ q.state.closes = true) ∧
    (∀ e, sg.holds.entry .zone = some e → ∀ n ∈ e.sources, ∃ z : ZoneId, n = z.val ∧
      (s.zoneUnit.zones.get z).closure = true ∧ i ∈ (s.zoneUnit.zones.get z).exposed) ∧
    (∀ e, sg.holds.entry .notice = some e → ∀ n ∈ e.sources, ∃ m ∈ s.notices.list, m.id = n ∧ m.state = .inForce ∧
      i ∈ m.segs) ∧
    ∀ e, sg.holds.entry .weather = some e → ∀ n ∈ e.sources, ∃ t, sg.site = some t ∧
      ((n = causeIce ∧ (s.sites.get t).reportedGrade = 4 ∧ sg.iceAuto = true) ∨
        (n = causeWind ∧ (s.sites.get t).reportedWind = 2 ∧ sg.windAuto = true))

/-- The lists of segments and gates name each other, each gate has at most two listing segments and each segment at most
two gates (R2, R29, R200). -/
def ListsAgree (r : Road) : Prop :=
  (∀ g, (r.gates.get g).listing.Nodup ∧ (r.gates.get g).listing.length ≤ 2) ∧
    (∀ i sg, r.segs.get i = some sg → sg.gates.Nodup ∧ sg.gates.length ≤ 2 ∧
      ∀ g, g ∈ sg.gates ↔ i ∈ (r.gates.get g).listing) ∧
    ∀ g i, i ∈ (r.gates.get g).listing → r.configured i = true

/-- Every gate's demand is the one its segments give (R32), and its raising drive is ON only in RAISING, under a RAISE
demand (R31). -/
def DemandLaw (r : Road) : Prop :=
  ∀ g, (r.gates.get g).demand = r.demandOf (r.gates.get g) ∧
    ((r.gates.get g).raiseDrive = true → (r.gates.get g).state = .raising) ∧
    ((r.gates.get g).state = .raising → (r.gates.get g).demand = .raise)

/-- The two laws of the road by which the raising law holds. -/
def RoadLaw (s : State) : Prop := ListsAgree s.road ∧ DemandLaw s.road

/-- A gate's raising drive is energised only while none of the segments that list it is in CLOSING or CLOSED (R31). -/
def RaisingLaw (s : State) : Prop :=
  ∀ g i, (s.road.gates.get g).raiseDrive = true → i ∈ (s.road.gates.get g).listing → s.road.holdsDown i = false

end Sys2Proof.Machine
end

