-- ==== Sys2Proof/Certificates/Slice0/Obligations.lean ====
section
/-! DEFINITION. The statements for the provers, in the order of OBLIGATIONS.json: the queue and the links, then the blocks
in the order of the chapters, then the laws that every step keeps. A statement about a request describes the state that it
leaves beside `heardState`, the state in which the request is judged once its frame has been heard (R178). -/

section

open Sys2Proof Sys2Proof.Machine

-- ================================================================ the queue, the links

/-- A step runs the command at the front of the queue on the state with the queue's rest, and every command ends in a next
state, with no fault and no refusal; with an empty queue the part idles (log 3, the model's choice). -/
def Obligations.StepTakesTheFrontCommand : Prop :=
  (∀ (c : Instr) (rest : List Instr) (s : State), s.pending = c :: rest → step s = exec c { s with pending := rest }) ∧
    (∀ (c : Instr) (s : State), ∃ t, exec c s = .next t) ∧ ∀ s : State, s.pending = [] → step s = .next s

/-- While the part sends its reply on a link, a request or a byte that arrives on that link is lost (R178). -/
def Obligations.ReplyingLinkLosesWhatArrives : Prop :=
  ∀ (l : Link) (s : State), (s.links.get l).replying = true →
    (∀ c k b, encodeRequest c = some (l, k, b) → exec c s = .next s) ∧
    (∀ k, exec (.formatRefusal l k) s = .next s) ∧ (∀ b, exec (.linkByteReceived l b) s = .next s) ∧
    exec (.linkCheckFailure l) s = .next s ∧ exec (.linkBadLength l) s = .next s ∧
    exec (.linkFramingError l) s = .next s ∧ exec (.interByteTimeout l) s = .next s

/-- Decoding the kind and body that a well-formed request is sent with gives that request, with every operand at every
value (R177, R180). -/
def Obligations.RequestsDecodeAsEncoded : Prop :=
  ∀ (c : Instr) (l : Link) (k : Byte) (b : List Byte),
    c.wellFormed = true → encodeRequest c = some (l, k, b) → decodeRequest l k b = c

/-- Outside the moment that completes a frame, one received byte moves the receiver as R177 says and changes nothing else:
hunting for 0x3C, the length byte, the bytes of the frame, a frame whose check fails, a late byte. A failed check, a bad
length and a framing error discard the partial frame of a receiver that is not sending; more than 20 ms since the last byte
do the same, and a shorter gap does nothing; the end of a reply returns the receiver to hunting (R177, R178). That the
expiry of the gap acts only when it is due is the model's choice (log 4). -/
def Obligations.ReceiverFollowsBytesAndFaults : Prop :=
  (∀ (l : Link) (b : Byte) (s : State),
     let becomes (r : Receiver) : Prop :=
       exec (.linkByteReceived l b) s = .next (s.onLink l fun x => { x with receiver := r })
     let hunts : Prop := becomes (if b = 0x3C then .inFrame [] 0 else .hunting)
     ((s.links.get l).receiver = .hunting → hunts) ∧
     ∀ bytes gap, (s.links.get l).receiver = .inFrame bytes gap →
       (20 < gap → hunts) ∧
       (gap ≤ 20 → bytes = [] → becomes (if 1 ≤ b.toNat ∧ b.toNat ≤ 250 then .inFrame [b] 0 else .hunting)) ∧
       ∀ (n : Byte) (rest : List Byte), gap ≤ 20 → bytes = n :: rest →
         (rest.length + 1 < n.toNat + 2 → becomes (.inFrame (bytes ++ [b]) 0)) ∧
         (n.toNat + 2 = rest.length + 1 →
           (rest ++ [b]).drop n.toNat ≠ splitWord16 (checkOf (n :: (rest ++ [b]).take n.toNat)) → becomes .hunting)) ∧
  ∀ (l : Link) (s : State),
    let hunts : State := s.onLink l fun x => { x with receiver := .hunting }
    (Ready l s → exec (.linkCheckFailure l) s = .next hunts ∧ exec (.linkBadLength l) s = .next hunts ∧
      exec (.linkFramingError l) s = .next hunts) ∧
    (∀ bytes gap, (s.links.get l).receiver = .inFrame bytes gap →
      exec (.interByteTimeout l) s = .next (if 20 < gap then hunts else s)) ∧
    ∀ frame, (s.links.get l).receiver = .replying frame → exec (.linkReplySent l) s = .next hunts

/-- The second check byte of a valid frame takes the request that the frame carries, on the link that is hunting again; an
unknown kind or a body that does not fit is the FORMAT refusal (R176 to R178). -/
def Obligations.CompletedFrameTakesItsRequest : Prop :=
  ∀ (l : Link) (b n kind : Byte) (rest body : List Byte) (gap : Nat) (s : State),
    (s.links.get l).receiver = .inFrame (n :: rest) gap → gap ≤ 20 → n.toNat = body.length + 1 →
    rest ++ [b] = kind :: body ++ splitWord16 (checkOf (n :: kind :: body)) →
    ∃ t, exec (.linkByteReceived l b) s = .next t ∧
      exec (decodeRequest l kind body) (s.onLink l fun x => { x with receiver := .hunting }) = .next t

/-- A valid frame of an unknown kind, or with a body that does not fit, is answered with FORMAT under its kind plus 0x80.
Like every valid frame it makes its link ACTIVE, reloads its timer to the limit, sets LINK attention when the link was
SILENT and sets the start-up mark of its link; it changes nothing more, but for the automatic start-up release when the
mark was the last thing missing, which removes every STARTUP entry (R25, R177, R178, R183). -/
def Obligations.FormatRefusalHearsItsFrame : Prop :=
  ∀ (l : Link) (kind : Byte) (s : State), Ready l s →
    ∃ t, exec (.formatRefusal l kind) s = .next t ∧
      (t.links.get l).receiver = .replying (linkFrame (kind + 0x80) [0x01]) ∧
      (t.links.get l).active = true ∧ (t.links.get l).timer = (s.links.get l).limit.map (· * 1000) ∧
      t.valleyHeard = (s.valleyHeard || l == .valley) ∧ t.avalancheHeard = (s.avalancheHeard || l == .avalanche) ∧
      KeepsBut [.marks, .links, .road, .board] s t ∧
      (∀ m, (t.links.get m).enable = (s.links.get m).enable ∧ (t.links.get m).limit = (s.links.get m).limit) ∧
      (∀ m, m ≠ l → (t.links.get m).active = (s.links.get m).active ∧
        (t.links.get m).timer = (s.links.get m).timer ∧ (t.links.get m).receiver = (s.links.get m).receiver) ∧
      (¬ Releases l s → t.road = s.road ∧ t.board = s.board ∧
        ∀ m, (t.links.get m).attention =
          (s.links.get m).attention ||| (if (s.links.get l).active then 0 else Attn.link)) ∧
      (Releases l s → SegmentBecomes s t fun _ sg sg' =>
        (∀ k, sg'.holds.entry k = if k = .startup then none else sg.holds.entry k) ∧ LeavesAt sg sg')

/-- STATUS reports the fields of R189 in their order, and in the same event takes the reported flags out of the attention
set of its own link, whose line is judged again; the other links' sets and every block stand. -/
def Obligations.StatusReportsAndClearsOneLink : Prop :=
  ∀ (l : Link) (s : State), Ready l s →
    ∃ t, exec (.status l) s = .next t ∧
      let h := heardState l s
      let bit (b : Bool) (n : Nat) : Nat := if b then n else 0
      (t.links.get l).receiver = .replying (linkFrame 0x81 (
        [0x00] ++ byte2 (h.links.get l).attention.toNat
          ++ byte1 (bit h.links.valley.active 1 + bit h.links.avalanche.active 2 + bit h.links.panel.active 4)
          ++ byte1 h.latch.state.code ++ byte1 h.key.code ++ [if h.notices.clock.valid then 1 else 0]
          ++ byte4 h.notices.clock.value
          ++ byte1 (if h.store.modeOn then 2 else if h.commissioned then 1 else 0) ++ byte1 h.store.activity
          ++ byte1 h.road.configuredIds.length ++ h.road.configuredIds.flatMap (statusSegment h.road))) ∧
      (t.links.get l).attention = 0 ∧ (t.links.get l).line = false ∧
      (∀ m, m ≠ l → t.links.get m =
        { h.links.get m with line := (t.links.get m).line }) ∧
      (t.links.get l).active = (h.links.get l).active ∧ (t.links.get l).timer = (h.links.get l).timer ∧
      (t.links.get l).enable = (h.links.get l).enable ∧ KeepsHeard [.links] l s t

/-- QUERY answers with the report of the state as it stands and changes nothing (R190). RANGE: an object above 9, a part
that the object does not have, an id of no configured segment, a GATE or ZONE above 5, a SIGN above 11, a CHANNEL above 15,
a SITE above 3, a NOTICE 0 or above 16, a LINK above 2. UNKNOWN_ID: a NOTICE id of 1 to 16 that is not in the list. Else the
reply carries OK, the object, the id, the part and the report: the record's fields, for GATE, NOTICE, NOTICE_LIST, LATCH and
LINK spelled here in their order, for the others as the named encoders give them; a set as its count and its members (the
flags of a LINK report by their numbers of R186); for the parts 1 to 3 of a SIGN the codes behind a presence byte. The
model's choices: the part judged before the id (log 13), the fields that R190 leaves open (logs 10 and 11), the key position
behind the report of the panel link (R61, log 43), the unreadable mark of a SIGN report as 1 where it stands (log 42). -/
def Obligations.QueryReportsAndChangesNothing : Prop :=
  ∀ (l : Link) (object id part : Byte) (s : State), Ready l s →
    ∃ t, exec (.query l object id part) s = .next t ∧
      let h := afterHearing l s
      let reports (fields : List Byte) : Prop := t = h.startReply l 0x02 ([0x00, object, id, part] ++ fields)
      (9 < object.toNat → Refused l 0x02 .range s t) ∧
      (object.toNat ≤ 9 → (object = 2 ∧ 3 < part.toNat) ∨ (object ≠ 2 ∧ part ≠ 0) → Refused l 0x02 .range s t) ∧
      (object = 2 → part.toNat ≤ 3 → 12 ≤ id.toNat → Refused l 0x02 .range s t) ∧
      (part = 0 →
        (object = 0 → (∀ i : SegId, id.toNat = i.val → h.road.segs.get i = none) → Refused l 0x02 .range s t) ∧
        (object = 1 ∨ object = 3 → 6 ≤ id.toNat → Refused l 0x02 .range s t) ∧
        (object = 4 → 16 ≤ id.toNat → Refused l 0x02 .range s t) ∧
        (object = 5 → 4 ≤ id.toNat → Refused l 0x02 .range s t) ∧
        (object = 6 → id = 0 ∨ 16 < id.toNat → Refused l 0x02 .range s t) ∧
        (object = 6 → id ≠ 0 → id.toNat ≤ 16 → (∀ n ∈ h.notices.list, n.id ≠ id.toNat) →
          Refused l 0x02 .unknownId s t) ∧
        (object = 9 → 3 ≤ id.toNat → Refused l 0x02 .range s t)) ∧
      (part = 0 →
        (∀ i sg, object = 0 → id.toNat = i.val → h.road.segs.get i = some sg → reports (segmentFields sg)) ∧
        (∀ i : GateId, object = 1 → id.toNat = i.val →
          let g := h.road.gates.get i
          reports (listField idField g.listing ++ byte1 g.tMin ++ byte1 g.tMax ++ byte1 g.state.code
            ++ optField (fun c => byte1 c.code) g.cause ++ byte1 g.demand.code
            ++ optField (fun c => byte1 c.code) g.check ++ timerField g.timer ++ firstNamed g.raisedSwitch.level
            ++ firstNamed g.loweredSwitch.level ++ firstNamed g.raiseDrive ++ firstNamed g.lowerDrive)) ∧
        (∀ z : ZoneId, object = 3 → id.toNat = z.val → reports (zoneFields h z)) ∧
        (∀ c : ChanId, object = 4 → id.toNat = c.val → reports (channelFields h.field c)) ∧
        (∀ i : SiteId, object = 5 → id.toNat = i.val → reports (siteFields h.field (h.sites.get i) i)) ∧
        (∀ n, object = 6 → id ≠ 0 → id.toNat ≤ 16 →
          h.notices.list.find? (fun m => m.id == id.toNat) = some n →
          reports (byte1 n.id ++ byte1 n.kind.code ++ listField idField n.segs ++ byte3 n.start
            ++ optField byte3 n.stop ++ byte2 n.lead ++ optField byte1 n.page ++ byte1 n.revision
            ++ byte1 n.state.code)) ∧
        (object = 7 → reports (byte1 h.notices.list.length
          ++ h.notices.list.flatMap fun n => byte1 n.id ++ byte3 n.start ++ byte1 n.state.code)) ∧
        (object = 8 → reports (byte1 h.latch.state.code ++ optField (fun p => byte1 p.code) h.latch.proposer
          ++ timerField h.latch.window ++ byte2 h.latch.windowLength ++ flag1 h.store.wordWriting
          ++ [h.latch.stored.code])) ∧
        ∀ m : Link, object = 9 → id.toNat = (match m with | .valley => 0 | .avalanche => 1 | .panel => 2) →
          let r := h.links.get m
          let flags (f : FlagSet) : List Nat := (List.range 11).filter fun n => f.getLsbD n
          reports (byte1 (if r.active then 0 else 1) ++ optField byte2 r.limit ++ timerField r.timer
            ++ byte1 (flags r.attention).length ++ (flags r.attention).flatMap byte1
            ++ byte1 (flags r.enable).length ++ (flags r.enable).flatMap byte1
            ++ if m = .panel then byte1 h.key.code else [])) ∧
      ∀ i : SignId, object = 2 → id.toNat = i.val →
        let transfer := h.board.line.transfer.filter fun x => x.target == i
        let unread := ((h.board.signs.get i).desired.map fun d => (h.store.pageCodes d.ref.page).isNone).getD false
        (part = 0 → reports (signFields (h.board.signs.get i) ++ lineFields (h.board.line.records.get i)
          ++ optField transferFields transfer ++ flag1 unread)) ∧
        (part = 1 → reports (optField (·.codes) (h.board.signs.get i).desired)) ∧
        (part = 2 → reports (optField (·.codes) (h.board.line.records.get i).confirmed)) ∧
        (part = 3 → reports (optField (fun x => x.page.codes) transfer))

/-- ATTENTION_ENABLE replaces the enable set of its own link: refused with STATE while the part is uncommissioned and with
RANGE when one of bits 11 to 15 is 1; else the set takes bits 0 to 10, the line is judged again, the reply carries the set
now in force, and the attention set and the other links' enable sets stand. An empty enable set releases the line whatever the
attention set holds. On the panel link the key position does not matter (R188). -/
def Obligations.AttentionEnableReplacesOneSet : Prop :=
  ∀ (l : Link) (enable : Word16) (s : State), Ready l s →
    ∃ t, exec (.attentionEnable l enable) s = .next t ∧
      (s.commissioned = false → Refused l 0x15 .state s t) ∧
      (s.commissioned = true → 2048 ≤ enable.toNat → Refused l 0x15 .range s t) ∧
      (s.commissioned = true → enable.toNat < 2048 →
        let h := heardState l s
        (t.links.get l).enable = enable.setWidth 11 ∧ (t.links.get l).attention = (h.links.get l).attention ∧
        (t.links.get l).line = LinkRecord.lineOf (h.links.get l).attention (enable.setWidth 11) ∧
        (enable = 0 → (t.links.get l).line = false) ∧
        (t.links.get l).receiver = .replying (linkFrame 0x95 (0x00 :: splitWord16 enable)) ∧
        (t.links.get l).active = (h.links.get l).active ∧ (t.links.get l).timer = (h.links.get l).timer ∧
        (∀ m, m ≠ l → t.links.get m = { h.links.get m with line := (t.links.get m).line }) ∧
        KeepsHeard [.links] l s t) ∧
      ∀ attention, LinkRecord.lineOf attention 0 = false

/-- The silence timer of the valley or the avalanche link expires: the link is SILENT, its timer stops, LINK attention is
set in all three sets when the link was ACTIVE. The valley link's silence changes nothing more. The avalanche link's makes
every SET zone UNKNOWN, with ZONE attention exactly when some zone was SET, its effective level and flags computed again and its
ZONE sources placed where zone closure begins; every hold entry of another kind stands, with since and reason (R24, R102, R104 to
R106, R183). -/
def Obligations.SilenceTimerExpires : Prop :=
  ∀ (s : State),
    (s.links.valley.timer = some 0 → ∃ t, exec (.linkSilenceExpiry .valley) s = .next t ∧
      KeepsBut [.links] s t ∧ t.links.valley.active = false ∧ t.links.valley.timer = none ∧
      ∀ m, (t.links.get m).attention =
          (s.links.get m).attention ||| (if s.links.valley.active then Attn.link else 0) ∧
        (t.links.get m).receiver = (s.links.get m).receiver ∧ (t.links.get m).enable = (s.links.get m).enable ∧
        (m ≠ .valley → (t.links.get m).active = (s.links.get m).active ∧
          (t.links.get m).timer = (s.links.get m).timer)) ∧
    (s.links.avalanche.timer = some 0 → ∃ t, exec (.linkSilenceExpiry .avalanche) s = .next t ∧
      KeepsBut [.links, .zoneUnit, .road, .board] s t ∧ t.links.avalanche.active = false ∧
      t.links.avalanche.timer = none ∧ t.zoneUnit.quals = s.zoneUnit.quals ∧
      (∃ f, (∀ m, (t.links.get m).attention = (s.links.get m).attention ||| f) ∧
        (Includes Attn.link f ↔ s.links.avalanche.active = true) ∧
        (Includes Attn.zone f ↔ ∃ z, (s.zoneUnit.zones.get z).status = .set) ∧
        Within (Attn.link ||| Attn.zone ||| Attn.segment ||| Attn.gate) f) ∧
      (∀ m, (t.links.get m).receiver = (s.links.get m).receiver ∧ (t.links.get m).enable = (s.links.get m).enable ∧
        (m ≠ .avalanche → (t.links.get m).active = (s.links.get m).active ∧
          (t.links.get m).timer = (s.links.get m).timer)) ∧
      (∀ z, let old := s.zoneUnit.zones.get z
        let level := max old.setLevel old.linkLoss
        t.zoneUnit.zones.get z = match old.status with
          | .unknown => old
          | .set => { old with status := .unknown, effective := level, warning := decide (old.warnThreshold ≤ level),
                               closure := decide (old.closeThreshold ≤ level) }) ∧
      (∀ z i, (s.zoneUnit.zones.get z).closure = false → (t.zoneUnit.zones.get z).closure = true →
        i ∈ (s.zoneUnit.zones.get z).exposed → HasSource t i .zone z.val) ∧
      SegmentBecomes s t fun _ sg sg' => ∀ k, k ≠ .zone → sg'.holds.entry k = sg.holds.entry k)

-- ================================================================ segments and holds (chapter 1)

/-- HOLD_PLACE: KEY on the panel with the key LOCKED, then STATE while uncommissioned, then RANGE for an empty list or an id
of no configured segment. Else each listed segment takes the link's kind: a new entry with since and the carried reason, or
the reason replaced with since kept; a new entry is an arrival. Every other entry of every segment stands (R5, R6, R9,
R20, R22). -/
def Obligations.HoldPlaceCreatesOrUpdates : Prop :=
  ∀ (l : Link) (reason : Option Byte) (segs : List Byte) (s : State), Ready l s → segListFits segs = true →
    ∃ t, exec (.holdPlace l reason segs) s = .next t ∧
      (l = .panel ∧ s.key = .locked → Refused l 0x03 .key s t) ∧
      ((l ≠ .panel ∨ s.key ≠ .locked) → s.commissioned = false → Refused l 0x03 .state s t) ∧
      ((l ≠ .panel ∨ s.key ≠ .locked) → s.commissioned = true → ¬ NamesConfigured s.road segs →
        Refused l 0x03 .range s t) ∧
      ((l ≠ .panel ∨ s.key ≠ .locked) → s.commissioned = true → NamesConfigured s.road segs →
        let h := heardState l s
        KeepsBut [.links, .road, .board] h t ∧
        (∃ f, Answered l 0x03 [0x00] f h t ∧ Within (Attn.segment ||| Attn.gate) f ∧
          ((∃ i sg, lists segs i = true ∧ h.road.segs.get i = some sg ∧ sg.holds.has (ownKind l) = false) →
            Includes Attn.segment f)) ∧
        SegmentBecomes h t fun i sg sg' =>
          (lists segs i = true → sg'.holds.entry (ownKind l) = match sg.holds.entry (ownKind l) with
            | some old => some { old with reason := reason }
            | none => some { since := if s.notices.clock.valid then some s.notices.clock.value else none,
                             reason := reason, sources := [] }) ∧
          (∀ k, k ≠ ownKind l ∨ lists segs i = false → sg'.holds.entry k = sg.holds.entry k) ∧
          (lists segs i = true ∧ sg.holds.has (ownKind l) = false → ArrivesAt sg sg') ∧
          (lists segs i = false ∨ sg.holds.has (ownKind l) = true → Moves sg.state sg'.state))

/-- HOLD_RELEASE: refused with AUTHORITY or KEY where R23 does not let the link name the kind, then with STATE while
uncommissioned, then with RANGE. Else the named entry leaves each listed segment, an absent entry changing nothing; every
other entry stands, and only a WARNING segment whose hold set empties changes state for it (R7, R13, R23). -/
def Obligations.HoldReleaseRemovesTheNamedKind : Prop :=
  ∀ (l : Link) (kind : HoldKind) (segs : List Byte) (s : State), Ready l s → segListFits segs = true →
    ∃ t, exec (.holdRelease l kind segs) s = .next t ∧
      let keyAlone : Prop :=
        l = .panel ∧ s.key = .locked ∧ (kind = .panel ∨ (kind = .valley ∧ s.links.valley.active = false))
      (¬ MayRelease s l kind → ¬ keyAlone → Refused l 0x04 .authority s t) ∧
      (keyAlone → Refused l 0x04 .key s t) ∧
      (MayRelease s l kind → s.commissioned = false → Refused l 0x04 .state s t) ∧
      (MayRelease s l kind → s.commissioned = true → ¬ NamesConfigured s.road segs → Refused l 0x04 .range s t) ∧
      (MayRelease s l kind → s.commissioned = true → NamesConfigured s.road segs →
        let h := heardState l s
        KeepsBut [.links, .road, .board] h t ∧
        (∃ f, Answered l 0x04 [0x00] f h t ∧ Within (Attn.segment ||| Attn.gate) f) ∧
        SegmentBecomes h t fun i sg sg' =>
          (∀ k, sg'.holds.entry k = if k = kind ∧ lists segs i = true then none else sg.holds.entry k) ∧ LeavesAt sg sg')

/-- STARTUP_RELEASE: AUTHORITY on the valley and avalanche links, KEY on the panel unless the key is in SERVICE, STATE while
uncommissioned. When accepted, the STARTUP entry leaves every configured segment, the reply is OK whether or not any held
one, the start-up marks stand, and where no segment holds one nothing changes; nor does an automatic release that finds
none change the road (R26). -/
def Obligations.StartupReleaseRemovesStartup : Prop :=
  ∀ (l : Link) (s : State), Ready l s →
    ∃ t, exec (.startupRelease l) s = .next t ∧
      (l ≠ .panel → Refused l 0x05 .authority s t) ∧
      (l = .panel → s.key ≠ .service → Refused l 0x05 .key s t) ∧
      (l = .panel → s.key = .service → s.commissioned = false → Refused l 0x05 .state s t) ∧
      (l = .panel → s.key = .service → s.commissioned = true →
        let h := heardState l s
        KeepsBut [.links, .road, .board] h t ∧ t.valleyHeard = s.valleyHeard ∧ t.avalancheHeard = s.avalancheHeard ∧
        (∃ f, Answered l 0x05 [0x00] f h t ∧ Within (Attn.segment ||| Attn.gate) f) ∧
        SegmentBecomes h t fun _ sg sg' =>
          (∀ k, sg'.holds.entry k = if k = .startup then none else sg.holds.entry k) ∧ LeavesAt sg sg') ∧
      (l = .panel → s.key = .service → s.commissioned = true →
        (∀ i sg, s.road.segs.get i = some sg → sg.holds.entry .startup = none) →
        KeepsBut [.links] (afterHearing l s) t ∧ Answered l 0x05 [0x00] 0 (afterHearing l s) t) ∧
      ((∀ i sg, s.road.segs.get i = some sg → sg.holds.entry .startup = none) →
        ∀ m, (afterHearing m s).road = s.road)

/-- REOPEN as a whole: AUTHORITY on the avalanche link, and on the panel link while the valley link is ACTIVE; KEY on the
panel with the key LOCKED; STATE while uncommissioned; RANGE for an empty list or an id of no configured segment. Else each
listed segment is judged in the order of the list, on the state that those before it left: the first of the four guards that
fails gives its outcome and leaves it as it was, and a segment that passes all of them is taken. The reply carries the outcomes
in that order behind an overall outcome that is OK when some segment was taken and the first segment's outcome otherwise; the
outcomes have no count of their own (log 40). No hold set changes. On a lawful road whose LOWERED gates have their raised switch
INACTIVE, every listed segment that passes the guards when the request is judged has left CLOSED afterwards: it is in OPENING or
OPEN, not incomplete (R17 to R19). -/
def Obligations.ReopenAnswersForEachSegment : Prop :=
  (∀ (l : Link) (segs : List Byte) (s : State), Ready l s → segListFits segs = true →
    ∃ t, exec (.reopen l segs) s = .next t ∧
      (l = .avalanche ∨ (l = .panel ∧ s.links.valley.active = true) → Refused l 0x06 .authority s t) ∧
      (l = .panel → s.links.valley.active = false → s.key = .locked → Refused l 0x06 .key s t) ∧
      (ValleyOrSilentPanel s l → s.commissioned = false → Refused l 0x06 .state s t) ∧
      (ValleyOrSilentPanel s l → s.commissioned = true → ¬ NamesConfigured s.road segs →
        Refused l 0x06 .range s t) ∧
      (ValleyOrSilentPanel s l → s.commissioned = true → NamesConfigured s.road segs →
        let h := heardState l s
        let ids := segs.filterMap (idOf 8)
        let outcomes := reopenOutcomes h ids
        let overall : Result := if outcomes.contains .ok then .ok else outcomes.headD .ok
        KeepsBut [.links, .road, .board] h t ∧ HoldsStand h t ∧ SameRoad (ids.foldl afterReopen h) t ∧
        ids.map (fun i => BitVec.ofNat 8 i.val) = segs ∧
        (∃ f, Answered l 0x06 (overall.code :: outcomes.map Result.code) f h t ∧
          Within (Attn.segment ||| Attn.gate) f) ∧
        (RoadLaw h → RaiseSafe h.road → ∀ i sg, h.road.segs.get i = some sg → lists segs i = true →
          reopenOutcome h i = .ok → ∃ sg', t.road.segs.get i = some sg' ∧ Reopened sg sg'))) ∧
  ∀ (u : State) (i : SegId) (sg : Segment), u.road.segs.get i = some sg →
    let gateFault : Prop := ∃ g ∈ sg.gates, (u.road.gates.get g).state = .fault
    let approach := sg.signs.filter fun p => p.2 == .approach
    let signFault : Prop := approach ≠ [] ∧ ∀ p ∈ approach, (u.board.line.records.get p.1).state = .fault
    (sg.state ≠ .closed → reopenOutcome u i = .state) ∧
    (sg.state = .closed → sg.holds.empty = false → reopenOutcome u i = .held) ∧
    (sg.state = .closed → sg.holds.empty = true → gateFault → reopenOutcome u i = .gateFault) ∧
    (sg.state = .closed → sg.holds.empty = true → ¬ gateFault → signFault → reopenOutcome u i = .signFault) ∧
    (sg.state = .closed → sg.holds.empty = true → ¬ gateFault → ¬ signFault → reopenOutcome u i = .ok) ∧
    (reopenOutcome u i ≠ .ok → afterReopen u i = u) ∧
    (reopenOutcome u i = .ok → RoadLaw u → RaiseSafe u.road →
      ∃ sg', (afterReopen u i).road.segs.get i = some sg' ∧ Reopened sg sg')

/-- REOPEN of one configured segment with the authority given: the first of the four guards that fails gives the outcome
and nothing changes. A segment that passes all of them is taken, its hold set empty as it was: on a lawful road where no listed
LOWERED gate has its raised switch ACTIVE it has left CLOSED, not incomplete, each of its gates is demanded RAISE unless another
listing segment holds it down, and it is OPEN when the reply is sent exactly when every one of its gates is RAISED or held down
by another listing segment, else in OPENING (R19). A segment without gates is OPEN (R21); one whose single gate, listed by it
alone, stands LOWERED under a LOWER demand is in OPENING with that gate in a fresh CHECKED travel to RAISED (R18, R31, R33,
R36). The outcomes carry no count (log 40). -/
def Obligations.ReopenOfOneSegment : Prop :=
  ∀ (l : Link) (i : SegId) (s : State) (sg : Segment), Ready l s → ValleyOrSilentPanel s l → s.commissioned = true →
    (heardState l s).road.segs.get i = some sg →
    ∃ t, exec (.reopen l [BitVec.ofNat 8 i.val]) s = .next t ∧
      let h := heardState l s
      let refused (r : Result) : Prop := t = (afterHearing l s).startReply l 0x06 [r.code, r.code]
      let gateFault : Prop := ∃ g ∈ sg.gates, (h.road.gates.get g).state = .fault
      let approach := sg.signs.filter fun p => p.2 == .approach
      let signFault : Prop := approach ≠ [] ∧ ∀ p ∈ approach, (h.board.line.records.get p.1).state = .fault
      (sg.state ≠ .closed → refused .state) ∧
      (sg.state = .closed → sg.holds.empty = false → refused .held) ∧
      (sg.state = .closed → sg.holds.empty = true → gateFault → refused .gateFault) ∧
      (sg.state = .closed → sg.holds.empty = true → ¬ gateFault → signFault → refused .signFault) ∧
      (sg.state = .closed → sg.holds.empty = true → ¬ gateFault → ¬ signFault →
        KeepsBut [.links, .road, .board] h t ∧ OthersStand i h t ∧
        (∃ f, Answered l 0x06 [0x00, 0x00] f h t ∧ Includes Attn.segment f) ∧
        ∃ sg', t.road.segs.get i = some sg' ∧ sg'.holds = sg.holds ∧ sg'.state ≠ .warning ∧
          (RoadLaw h → (∀ g ∈ sg.gates, (h.road.gates.get g).state = .lowered →
              (h.road.gates.get g).raisedSwitch.level = false) →
            let heldDown (u : State) (g : GateId) : Prop :=
              ∃ j ∈ (u.road.gates.get g).listing, j ≠ i ∧ u.road.holdsDown j = true
            Reopened sg sg' ∧
            (∀ g ∈ sg.gates, (t.road.gates.get g).demand = .lower ↔ heldDown h g) ∧
            (sg'.state = .opened ↔ ∀ g ∈ sg.gates, (t.road.gates.get g).state = .raised ∨
              ((t.road.gates.get g).demand = .lower ∧ heldDown t g))) ∧
          (sg.gates = [] → sg'.state = .opened ∧ sg'.incomplete = false) ∧
          ∀ g, sg.gates = [g] → (h.road.gates.get g).listing = [i] → (h.road.gates.get g).state = .lowered →
            (h.road.gates.get g).demand = .lower → (h.road.gates.get g).raisedSwitch.level = false →
            sg'.state = .opening ∧ sg'.incomplete = false ∧
            t.road.gates.get g = { h.road.gates.get g with
              state := .raising, cause := none, demand := .raise, check := some .checked, timer := some 0,
              raiseDrive := true, lowerDrive := false })

/-- The confirmation wait of a WARNING segment with its warning timer stopped runs out: the wait stops and the warning timer
starts at the full warning interval; nothing else changes (condition 3 of R11). The warning timer of a WARNING segment runs
out: the segment enters CLOSING, or is CLOSED already when its gates are down; both timers are stopped, no hold set
changes. Without gates it is CLOSED and not incomplete (R21); a single gate listed by it alone, RAISED under a RAISE demand,
is in a fresh CHECKED travel to LOWERED (R12, R15, R33, R36). -/
def Obligations.SegmentTimersExpire : Prop :=
  (∀ (i : SegId) (s : State) (sg : Segment), s.road.segs.get i = some sg → sg.state = .warning →
     sg.warningTimer = none → sg.confirmWait = some 0 →
     let confirmed : Segment := { sg with confirmWait := none, warningTimer := some (sg.warningInterval * 1000) }
     exec (.confirmationWaitExpiry i) s =
       .next { s with road := { s.road with segs := put s.road.segs i (some confirmed) } }) ∧
  ∀ (i : SegId) (s : State) (sg : Segment), s.road.segs.get i = some sg → sg.state = .warning →
    sg.warningTimer = some 0 →
    ∃ t, exec (.warningTimerExpiry i) s = .next t ∧ KeepsBut [.links, .road, .board] s t ∧ OthersStand i s t ∧
      (∃ f, Gains f s t ∧ Within (Attn.segment ||| Attn.gate) f ∧ Includes Attn.segment f) ∧
      ∃ sg', t.road.segs.get i = some sg' ∧ sg'.holds = sg.holds ∧ sg'.state.shut = true ∧
        sg'.confirmWait = none ∧ sg'.warningTimer = none ∧
        (sg.gates = [] → sg'.state = .closed ∧ sg'.incomplete = false) ∧
        ∀ g, sg.gates = [g] → (s.road.gates.get g).listing = [i] → (s.road.gates.get g).state = .raised →
          (s.road.gates.get g).demand = .raise → (s.road.gates.get g).loweredSwitch.level = false →
          sg'.state = .closing ∧
          t.road.gates.get g = { s.road.gates.get g with
            state := .lowering, cause := none, demand := .lower, check := some .checked, timer := some 0,
            raiseDrive := false, lowerDrive := true }

-- ================================================================ gates (chapter 2)

/-- GATE_FAULT_CLEAR: AUTHORITY off the panel, KEY unless SERVICE, STATE while uncommissioned, RANGE for an id above 5, STATE
when the gate is not in FAULT. When accepted the gate is resolved at once and the reply shows its state and cause. With no
listing segment waiting for it: BOTH is FAULT CONFLICT, DOWN and UP are the rest or, against the demand, a CHECKED travel
from it, MID is an UNCHECKED travel to the demand (R33, R44, R45). -/
def Obligations.GateFaultClearResolvesTheGate : Prop :=
  ∀ (l : Link) (gate : Byte) (s : State), Ready l s →
    ∃ t, exec (.gateFaultClear l gate) s = .next t ∧
      (l ≠ .panel → Refused l 0x10 .authority s t) ∧
      (l = .panel → s.key ≠ .service → Refused l 0x10 .key s t) ∧
      (l = .panel → s.key = .service → s.commissioned = false → Refused l 0x10 .state s t) ∧
      (l = .panel → s.key = .service → s.commissioned = true → 6 ≤ gate.toNat → Refused l 0x10 .range s t) ∧
      ∀ g : GateId, l = .panel → s.key = .service → s.commissioned = true → gate.toNat = g.val →
        let h := heardState l s
        let old := h.road.gates.get g
        let new := t.road.gates.get g
        (old.state ≠ .fault → Refused l 0x10 .state s t) ∧
        (old.state = .fault →
          KeepsBut [.links, .road, .board] h t ∧ HoldsStand h t ∧
          (∃ f, Answered l 0x10 (0x00 :: (byte1 new.state.code ++ optField (fun c => byte1 c.code) new.cause)) f h t ∧
            Within (Attn.segment ||| Attn.gate) f ∧ Includes Attn.gate f) ∧
          (Quiet h.road old →
            (old.reading = .both → FaultWith .conflict new) ∧
            (old.reading = .down → new = if old.demand = .lower then old.rest .lowered
              else (old.rest .lowered).travel .raise .checked) ∧
            (old.reading = .up → new = if old.demand = .raise then old.rest .raised
              else (old.rest .raised).travel .lower .checked) ∧
            (old.reading = .mid → new = old.travel old.demand .unchecked)))

/-- An accepted change of an end switch is recorded, and the gate takes it in its state. At rest: the rest switch drops is
FAULT DISPLACED, BOTH is FAULT CONFLICT. In a travel: BOTH is FAULT CONFLICT; the target switch alone is the arrival, EARLY
below T_min in a CHECKED travel, else the rest that the travel was for, where the demand agrees; under the other demand the
gate leaves that rest at once in a fresh CHECKED travel, so that one that arrives at LOWERED under RAISE is in RAISING (R33,
R34); any other change lets the travel go on. GATE attention is set exactly when the state of a gate has changed (R43). In
UNKNOWN and in FAULT it is recorded and changes nothing else. No hold set changes, nor any other switch (R30, R37, R39 to
R41). The arrival that brings the last gate of a closing down completes it: a segment in CLOSING whose single gate, listed
by it alone, reaches LOWERED enters CLOSED in the same event, not incomplete, and incomplete when that event puts the gate
in FAULT instead (R15, R42). Likewise a segment in OPENING whose single gate, listed by it alone, reaches RAISED is done and
enters OPEN in the same event (R19), and when the arrival is EARLY its opening is aborted: it is CLOSED, incomplete, with
its hold set as it was (R20). -/
def Obligations.EndSwitchChangeMovesTheGate : Prop :=
  (∀ (g : GateId) (sw : Switch) (level : Bool) (s : State),
     ((s.road.gates.get g).switch sw).level ≠ level →
     ∃ t, exec (.endSwitchChange g sw level) s = .next t ∧
       let old := RoadEv.setSwitch sw level (s.road.gates.get g)
       let new := t.road.gates.get g
       let onTarget : Prop := old.state.target = some sw ∧ level = true ∧ old.reading ≠ .both
       let early : Prop := old.check = some .checked ∧ old.timer.getD 0 < old.tMinMs
       KeepsBut [.links, .road, .board] s t ∧ HoldsStand s t ∧
       (∃ f, Gains f s t ∧ Within (Attn.segment ||| Attn.gate) f ∧
         (Includes Attn.gate f ↔ ∃ j, (t.road.gates.get j).state ≠ (s.road.gates.get j).state)) ∧
       new.raisedSwitch = old.raisedSwitch ∧ new.loweredSwitch = old.loweredSwitch ∧
       (∀ j, j ≠ g → (t.road.gates.get j).raisedSwitch = (s.road.gates.get j).raisedSwitch ∧
         (t.road.gates.get j).loweredSwitch = (s.road.gates.get j).loweredSwitch) ∧
       ((old.state = .raised ∧ sw = .raised ∧ level = false) ∨
         (old.state = .lowered ∧ sw = .lowered ∧ level = false) →
         FaultWith .displaced new) ∧
       ((old.state = .raised ∨ old.state = .lowered ∨ old.state = .raising ∨ old.state = .lowering) →
         old.reading = .both → FaultWith .conflict new) ∧
       (onTarget → early → FaultWith .early new) ∧
       (onTarget → ¬ early → Quiet s.road old ∨ RoadLaw s →
         (old.state = .raising → new =
           if old.demand = .raise then old.rest .raised else (old.rest .raised).travel .lower .checked) ∧
         (old.state = .lowering → new =
           if old.demand = .lower then old.rest .lowered else (old.rest .lowered).travel .raise .checked)) ∧
       (old.state.target.isSome = true → old.reading ≠ .both → ¬ onTarget → t.road.gates = put s.road.gates g old) ∧
       (old.state = .raised ∨ old.state = .lowered → old.reading ≠ .both →
         ¬ ((old.state = .raised ∧ sw = .raised ∨ old.state = .lowered ∧ sw = .lowered) ∧ level = false) →
         t.road.gates = put s.road.gates g old) ∧
       (old.state = .unknown ∨ old.state = .fault →
         t.road = { s.road with gates := put s.road.gates g old } ∧ t.board = s.board)) ∧
  (∀ (g : GateId) (i : SegId) (s : State) (sg : Segment), s.road.segs.get i = some sg → sg.state = .opening →
    sg.gates = [g] → (s.road.gates.get g).listing = [i] → (s.road.gates.get g).state = .raising →
    (s.road.gates.get g).demand = .raise → (s.road.gates.get g).loweredSwitch.level = false →
    (s.road.gates.get g).raisedSwitch.level = false →
    let old := s.road.gates.get g
    let early : Prop := old.check = some .checked ∧ old.timer.getD 0 < old.tMin * 1000
    ∃ t sg', exec (.endSwitchChange g .raised true) s = .next t ∧ t.road.segs.get i = some sg' ∧ sg'.holds = sg.holds ∧
      (early → FaultWith .early (t.road.gates.get g) ∧ sg'.state = .closed ∧ sg'.incomplete = true) ∧
      (¬ early → (t.road.gates.get g).state = .raised ∧ (t.road.gates.get g).raiseDrive = false ∧
        sg'.state = .opened ∧ sg'.incomplete = sg.incomplete)) ∧
  ∀ (g : GateId) (i : SegId) (s : State) (sg : Segment), s.road.segs.get i = some sg → sg.state = .closing →
    sg.gates = [g] → (s.road.gates.get g).listing = [i] → (s.road.gates.get g).state = .lowering →
    (s.road.gates.get g).demand = .lower → (s.road.gates.get g).loweredSwitch.level = false →
    ∃ t sg', exec (.endSwitchChange g .lowered true) s = .next t ∧ t.road.segs.get i = some sg' ∧
      sg'.state = .closed ∧ sg'.holds = sg.holds ∧
      sg'.incomplete = ((s.road.gates.get g).raisedSwitch.level ||
        ((s.road.gates.get g).check == some .checked &&
          decide ((s.road.gates.get g).timer.getD 0 < (s.road.gates.get g).tMin * 1000)))

/-- The travel timer of a gate in RAISING or LOWERING reaches T_max: FAULT STALL, the drive OFF, the timer stopped, GATE
attention set; no hold set changes (R38). Every listing segment that was in OPENING has its opening aborted: it is in
CLOSING or CLOSED, also where two of them share the gate (R20, R42); that the gate's fault is handed to both of them before
anything follows from one is the model's reading (log 25). -/
def Obligations.TravelTimeoutStalls : Prop :=
  ∀ (g : GateId) (s : State), (s.road.gates.get g).state = .raising ∨ (s.road.gates.get g).state = .lowering →
    (s.road.gates.get g).timer = some ((s.road.gates.get g).tMax * 1000) →
    ∃ t, exec (.travelTimeout g) s = .next t ∧ FaultWith .stall (t.road.gates.get g) ∧
      KeepsBut [.links, .road, .board] s t ∧ HoldsStand s t ∧
      (∃ f, Gains f s t ∧ Within (Attn.segment ||| Attn.gate) f ∧ Includes Attn.gate f) ∧
      (∀ i ∈ (s.road.gates.get g).listing, ∀ sg, s.road.segs.get i = some sg → sg.state = .opening →
        ∃ sg', t.road.segs.get i = some sg' ∧ sg'.state.shut = true) ∧
      ∀ j, (t.road.gates.get j).raisedSwitch = (s.road.gates.get j).raisedSwitch ∧
        (t.road.gates.get j).loweredSwitch = (s.road.gates.get j).loweredSwitch

-- ================================================================ full closure (chapter 3)

/-- FULL_CLOSE on any link with any key position: STATE while uncommissioned; from CLEAR the latch is LATCHED, every
configured segment holds FULL, one that did not hold it before is in CLOSING or CLOSED, and a latch word write of LATCHED is
requested, which begins in the slot other than the newest, or is held pending behind a write in flight; from PROPOSED the
latch is LATCHED with the window and the proposer gone, and no hold and no write; in LATCHED nothing changes. FULL attention
is set when the state changes (R50, R51, R55, R56). -/
def Obligations.FullCloseLatches : Prop :=
  ∀ (l : Link) (s : State), Ready l s →
    ∃ t, exec (.fullClose l) s = .next t ∧
      let h := heardState l s
      (s.commissioned = false → Refused l 0x11 .state s t) ∧
      (s.commissioned = true → s.latch.state = .clear →
        t.latch = { s.latch with state := .latched, proposer := none, window := none } ∧
        LatchWriteRequested .latched s.store t.store ∧ KeepsBut [.links, .road, .board, .latch, .store] h t ∧
        (∃ f, Answered l 0x11 [0x00] f h t ∧ Includes Attn.full f ∧
          Within (Attn.full ||| Attn.segment ||| Attn.gate) f) ∧
        SegmentBecomes h t fun _ sg sg' =>
          (∀ k, k ≠ .full → sg'.holds.entry k = sg.holds.entry k) ∧
          sg'.holds.has .full = true ∧
          (sg.holds.has .full = false → sg'.state.shut = true ∧
            sg'.holds.entry .full = some { since := s.since, reason := none, sources := [] })) ∧
      (s.commissioned = true → s.latch.state = .proposed →
        t.latch = { s.latch with state := .latched, proposer := none, window := none } ∧
        KeepsBut [.links, .road, .board, .latch] h t ∧ SameRoad h t ∧ Answered l 0x11 [0x00] Attn.full h t) ∧
      (s.commissioned = true → s.latch.state = .latched → t = (afterHearing l s).startReply l 0x11 [0x00])

/-- RELEASE_PROPOSE: AUTHORITY on the panel, and on the avalanche link while the valley link is ACTIVE; STATE while
uncommissioned; STATE while CLEAR. Else the latch is PROPOSED by the sender's link with a full window, also when it was
PROPOSED before; the reply carries the window length; no hold changes and no latch word write is requested. A valid frame
on any link, which may make it ACTIVE, leaves the latch alone (R52, R55). -/
def Obligations.ReleaseProposeOpensTheWindow : Prop :=
  ∀ (l : Link) (s : State), Ready l s →
    ∃ t, exec (.releasePropose l) s = .next t ∧
      let h := heardState l s
      let entitled : Prop := l = .valley ∨ (l = .avalanche ∧ s.links.valley.active = false)
      (¬ entitled → Refused l 0x12 .authority s t) ∧
      (entitled → s.commissioned = false → Refused l 0x12 .state s t) ∧
      (entitled → s.commissioned = true → s.latch.state = .clear → Refused l 0x12 .state s t) ∧
      (entitled → s.commissioned = true → s.latch.state ≠ .clear →
        t.latch = { s.latch with
          state := .proposed, proposer := some (if l = .valley then .valley else .avalanche),
          window := some (s.latch.windowLength * 1000) } ∧
        KeepsBut [.links, .road, .board, .latch] h t ∧ SameRoad h t ∧
        Answered l 0x12 (0x00 :: byte2 s.latch.windowLength) (if s.latch.state = .latched then Attn.full else 0) h t) ∧
      ∀ m, (afterHearing m s).latch = s.latch

/-- RELEASE_CONFIRM: AUTHORITY off the panel, KEY unless SERVICE, STATE while uncommissioned, STATE unless PROPOSED. When
accepted the latch is CLEAR with no window and no proposer, FULL has left every configured segment and a latch word write of
CLEAR is requested (it begins, or is held pending behind a write in flight); every other entry stands and no closed segment
opens (R50, R54, R56). -/
def Obligations.ReleaseConfirmClears : Prop :=
  ∀ (l : Link) (s : State), Ready l s →
    ∃ t, exec (.releaseConfirm l) s = .next t ∧
      let h := heardState l s
      (l ≠ .panel → Refused l 0x13 .authority s t) ∧
      (l = .panel → s.key ≠ .service → Refused l 0x13 .key s t) ∧
      (l = .panel → s.key = .service → s.commissioned = false → Refused l 0x13 .state s t) ∧
      (l = .panel → s.key = .service → s.commissioned = true → s.latch.state ≠ .proposed →
        Refused l 0x13 .state s t) ∧
      (l = .panel → s.key = .service → s.commissioned = true → s.latch.state = .proposed →
        t.latch = { s.latch with state := .clear, proposer := none, window := none } ∧
        LatchWriteRequested .clear s.store t.store ∧ KeepsBut [.links, .road, .board, .latch, .store] h t ∧
        (∃ f, Answered l 0x13 [0x00] f h t ∧ Includes Attn.full f ∧
          Within (Attn.full ||| Attn.segment ||| Attn.gate) f) ∧
        SegmentBecomes h t fun _ sg sg' =>
          (∀ k, sg'.holds.entry k = if k = .full then none else sg.holds.entry k) ∧ LeavesAt sg sg' ∧
          (sg.state.shut = true → sg'.state.shut = true))

/-- The joint window runs out: the latch goes from PROPOSED to LATCHED, the window stops, the proposer is removed, the FULL
entries stay, no latch word write is requested. Outside PROPOSED there is nothing to expire; a RELEASE_CONFIRM that finds
LATCHED is refused with STATE, a RELEASE_PROPOSE that finds it starts a full window, a FULL_CLOSE that finds it changes
nothing; taken before the expiry, they leave CLEAR without a window, PROPOSED with a full window, and LATCHED without a
window (R53). That the expiry acts only when the window has run out, and changes nothing outside PROPOSED, is the model's choice
(logs 4 and 32). -/
def Obligations.JointWindowExpires : Prop :=
  ∀ (s : State),
    (s.latch.state = .proposed → s.latch.window = some 0 →
      ∃ t, exec .jointWindowExpiry s = .next t ∧
        t.latch = { s.latch with state := .latched, proposer := none, window := none } ∧
        KeepsBut [.links, .road, .board, .latch] s t ∧ SameRoad s t ∧ Gains Attn.full s t) ∧
    (s.latch.state ≠ .proposed ∨ s.latch.window = none → exec .jointWindowExpiry s = .next s) ∧
    (s.latch.state = .latched → s.commissioned = true → s.key = .service → Ready .panel s →
      ∃ t, exec (.releaseConfirm .panel) s = .next t ∧ Refused .panel 0x13 .state s t) ∧
    (s.latch.state = .proposed → s.commissioned = true → s.key = .service → Ready .panel s →
      ∃ t, exec (.releaseConfirm .panel) s = .next t ∧ t.latch.state = .clear ∧ t.latch.window = none) ∧
    (s.latch.state = .latched ∨ s.latch.state = .proposed → s.commissioned = true → Ready .valley s →
      ∃ t, exec (.releasePropose .valley) s = .next t ∧ t.latch.state = .proposed ∧
        t.latch.window = some (s.latch.windowLength * 1000)) ∧
    (∀ l, s.latch.state = .latched → s.commissioned = true → Ready l s →
      exec (.fullClose l) s = .next ((afterHearing l s).startReply l 0x11 [0x00])) ∧
    ∀ l, s.latch.state = .proposed → s.commissioned = true → Ready l s →
      ∃ t, exec (.fullClose l) s = .next t ∧ t.latch.state = .latched ∧ t.latch.window = none

/-- A latch word write completes: its slot is valid with the value and the generation, the stored value is the written one,
STORE attention is set; then a further write of the persisted value begins when it differs from the stored one, and else
none is in flight and none pending (R56, R57). -/
def Obligations.LatchWordWriteCompletes : Prop :=
  ∀ (s : State) (second : Bool) (v : LatchValue) (g : Byte), s.store.inFlight = some (.latchSlot second v g) →
    ∃ t, exec .latchWordWriteComplete s = .next t ∧
      let written := Record.valid (withCheck [v.code, g])
      t.store.slot0 = (if second then s.store.slot0 else written) ∧
      t.store.slot1 = (if second then written else s.store.slot1) ∧
      t.latch = { s.latch with stored := v } ∧ KeepsBut [.links, .latch, .store] s t ∧ Gains Attn.store s t ∧
      t.store.description = s.store.description ∧ t.store.library = s.store.library ∧
      t.store.control = s.store.control ∧ t.store.latchPending = false ∧
      (s.latch.persisted = v → t.store.inFlight = none) ∧
      (s.latch.persisted ≠ v → t.store.inFlight = some (.latchSlot (nextSlot t.store.slot0 t.store.slot1).1
        s.latch.persisted (nextSlot t.store.slot0 t.store.slot1).2))

/-- Whatever the two slots hold, a latch word write that completes is what the store reads next; and where the newest slot was
known before, a write that a reset cuts short, leaving its slot failing, still reads as the value before it. The word reads by
the table of R58: two blank slots CLEAR; one valid slot beside a blank or failing one, its value; two valid slots, the value of
the one whose generation is one above the other, else LATCHED; no valid slot and one that is not blank, LATCHED (R56, R58). -/
def Obligations.LatchWordReadsBackItsLastWrite : Prop :=
  (∀ (v v0 v1 : LatchValue) (g g0 g1 : Byte) (r r' : Record),
    let slot (v : LatchValue) (g : Byte) : Record := .valid (withCheck [v.code, g])
    let invalid (r : Record) : Prop := r = .blank ∨ ∃ b, r = .failing b
    readLatchWord .blank .blank = .clear ∧
    (invalid r → readLatchWord (slot v g) r = v ∧ readLatchWord r (slot v g) = v) ∧
    (g0 = g1 + 1 → readLatchWord (slot v0 g0) (slot v1 g1) = v0 ∧ readLatchWord (slot v1 g1) (slot v0 g0) = v0) ∧
    (g0 ≠ g1 + 1 → g1 ≠ g0 + 1 → readLatchWord (slot v0 g0) (slot v1 g1) = .latched) ∧
    (invalid r → invalid r' → ¬ (r = .blank ∧ r' = .blank) → readLatchWord r r' = .latched)) ∧
  ∀ (s0 s1 : Record) (v : LatchValue),
    let n := nextSlot s0 s1
    let written := Record.valid (withCheck [v.code, n.2])
    (if n.1 then readLatchWord s0 written else readLatchWord written s1) = v ∧
    ∀ torn, (∀ v0 g0 v1 g1, slotOf s0 = some (v0, g0) → slotOf s1 = some (v1, g1) → g0 = g1 + 1 ∨ g1 = g0 + 1) →
      (slotOf s0).isSome = true ∨ (slotOf s1).isSome = true →
      (if n.1 then readLatchWord s0 (.failing torn) else readLatchWord (.failing torn) s1) = readLatchWord s0 s1

-- ================================================================ store and commissioning (chapter 11)

/-- STORE_WRITE, check by check (R195): RANGE above region 1; AUTHORITY; KEY on the panel unless SERVICE; STATE for
DESCRIPTION outside commissioning mode; RANGE for a number outside the region; BUSY while a write is in flight or a latch
word write is pending; PROTECTED; RANGE for a field out of its range, as the record tables of R194 give it. When all pass,
the write of the record with its check begins, and nothing else changes. The model's choices: a body that names no record
fits and meets RANGE (log 28), and the last check judges the relations between fields of the one record but for the two that
are left to the load (log 15). -/
def Obligations.StoreWriteBegins : Prop :=
  ∀ (l : Link) (region number : Byte) (bytes : List Byte) (s : State), Ready l s →
    storeBytesFit region number bytes = true →
    ∃ t, exec (.storeWrite l region number bytes) s = .next t ∧
      let may : Prop := (region = 1 ∧ l ≠ .avalanche) ∨ (region = 0 ∧ l = .panel)
      let keyed : Prop := l = .panel → s.key = .service
      let mode : Prop := region = 0 → s.store.modeOn = true
      let named : Prop := (region = 0 ∧ number.toNat < 53) ∨ (region = 1 ∧ number.toNat < 128)
      let busy : Prop := s.store.inFlight.isSome = true ∨ s.store.latchPending = true
      let protect : Prop := (region = 0 ∧ s.store.protectDesc = true) ∨ (region = 1 ∧ s.store.protectLib = true)
      let fields : Prop := region = 0 → FieldsInRange number.toNat bytes
      (2 ≤ region.toNat → Refused l 0x18 .range s t) ∧
      (region.toNat < 2 → ¬ may → Refused l 0x18 .authority s t) ∧
      (may → ¬ keyed → Refused l 0x18 .key s t) ∧
      (may → keyed → ¬ mode → Refused l 0x18 .state s t) ∧
      (may → keyed → mode → ¬ named → Refused l 0x18 .range s t) ∧
      (may → keyed → mode → named → busy → Refused l 0x18 .busy s t) ∧
      (may → keyed → mode → named → ¬ busy → protect → Refused l 0x18 .isProtected s t) ∧
      (may → keyed → mode → named → ¬ busy → ¬ protect → ¬ fields → Refused l 0x18 .range s t) ∧
      (may → keyed → mode → named → ¬ busy → ¬ protect → fields →
        Answered l 0x18 [0x00] 0 (heardState l s) t ∧ KeepsHeard [.links, .store] l s t ∧
        (∀ n : Fin 53, region = 0 → number.toNat = n.val →
          t.store = { s.store with inFlight := some (.description n (withCheck bytes)) }) ∧
        ∀ n : Fin 128, region = 1 → number.toNat = n.val →
          t.store = { s.store with inFlight := some (.library n (withCheck bytes)) })

/-- A record write or a control record write completes: the record is valid with the new bytes, STORE attention is set, and
the latch comparison leaves no write in flight, or begins a latch word write when the persisted value differs from the
stored one. A rewritten library page recomposes the signs whose desired reference names it: where the codes change the new
codes and sum are recorded, the content mark and the need of service are set, and a transfer to such a sign has a change
pending; every other sign, the line and the page map stand, and then the arbiter acts (R162, log 31). A DESCRIPTION write
changes no working table (R57, R154, R170, R195). -/
def Obligations.StoreWriteCompletes : Prop :=
  ∀ (s : State),
    let settled (t : State) : Prop :=
      t.latch = s.latch ∧ Gains Attn.store s t ∧ t.store.slot0 = s.store.slot0 ∧ t.store.slot1 = s.store.slot1 ∧
      t.store.latchPending = false ∧ t.store.commissionId = s.store.commissionId ∧ t.store.modeOn = s.store.modeOn ∧
      t.store.enteredSince = s.store.enteredSince ∧ t.store.protectDesc = s.store.protectDesc ∧
      t.store.protectLib = s.store.protectLib ∧
      t.store.inFlight = if s.latch.persisted = s.latch.stored then none
        else some (.latchSlot (nextSlot s.store.slot0 s.store.slot1).1 s.latch.persisted
          (nextSlot s.store.slot0 s.store.slot1).2)
    (∀ n b, s.store.inFlight = some (.description n b) → ∃ t, exec .storeWriteComplete s = .next t ∧
      settled t ∧ KeepsBut [.store, .links] s t ∧ t.store.description = put s.store.description n (.valid b) ∧
      t.store.library = s.store.library ∧ t.store.control = s.store.control) ∧
    (∀ b, s.store.inFlight = some (.control b) → ∃ t, exec .storeWriteComplete s = .next t ∧
      settled t ∧ KeepsBut [.store, .links] s t ∧ t.store.control = .valid b ∧
      t.store.description = s.store.description ∧ t.store.library = s.store.library) ∧
    (∀ n b, s.store.inFlight = some (.library n b) → ∃ t, exec .storeWriteComplete s = .next t ∧
      settled t ∧ KeepsBut [.store, .links, .board] s t ∧ t.store.library = put s.store.library n (.valid b) ∧
      t.store.description = s.store.description ∧ t.store.control = s.store.control ∧
      ∃ board, Recomposed (fun d => if d.ref.page = n.val then compose (b.take 80) d.ref else d.codes) s.board board ∧
        t.board = board.arbitrate)

/-- STORE_READ is accepted everywhere: RANGE where region and number name no record, else the condition and, for a valid or
failing record that is not being written, its bytes. STORE_SUM is BUSY during an erase, else it reports the sum of R201:
every byte of the DESCRIPTION and LIBRARY records as they stand, blank ones counted as zeros, and the commission id, modulo 65536;
its low byte is that of the commission id when every record is valid. Neither changes anything (R193, R201). -/
def Obligations.StoreReadAndStoreSumReport : Prop :=
  ∀ (l : Link) (s : State), Ready l s →
    (∀ region number : Byte, ∃ t, exec (.storeRead l region number) s = .next t ∧
      let answer (body : List Byte) : Prop := t = (afterHearing l s).startReply l 0x19 body
      let r := s.store.record region.toNat number.toNat
      (r = none → Refused l 0x19 .range s t) ∧
      (r.isSome = true → s.store.writing region.toNat number.toNat = true → answer [0x00, 0x03]) ∧
      (s.store.writing region.toNat number.toNat = false →
        (r = some .blank → answer [0x00, 0x00]) ∧ (∀ b, r = some (.valid b) → answer (0x00 :: 0x01 :: b)) ∧
        ∀ b, r = some (.failing b) → answer (0x00 :: 0x02 :: b)) ∧
      ((3 ≤ region.toNat ∨ (region = 0 ∧ 53 ≤ number.toNat) ∨ (region = 1 ∧ 128 ≤ number.toNat) ∨
        (region = 2 ∧ 3 ≤ number.toNat)) → r = none)) ∧
    ∃ t, exec (.storeSum l) s = .next t ∧
      let bytes (r : Record) : List Byte := match r with | .blank => [] | .valid b => b | .failing b => b
      let added (l : List Record) : Nat := (l.map fun r => ((bytes r).map BitVec.toNat).sum).sum
      let sum := (added s.store.description.toList + added s.store.library.toList + s.store.commissionId.toNat) % 65536
      (s.store.inFlight = some .erase → Refused l 0x1D .busy s t) ∧
      (s.store.inFlight ≠ some .erase →
        t = (afterHearing l s).startReply l 0x1D (0x00 :: byte2 sum) ∧
        ((∀ i, ∃ b, s.store.description.get i = .valid (withCheck b)) →
          (∀ i, ∃ b, s.store.library.get i = .valid (withCheck b)) →
          sum % 256 = s.store.commissionId.toNat % 256))

/-- PROTECT_SET: AUTHORITY off the panel, KEY unless SERVICE, RANGE above region 1; a flag already set answers OK and
changes nothing; BUSY while a write is in flight or a latch word write is pending; else the flag is set at once and a
control record write of the commission id and both flags begins (R196). COMMISSION_ENTER: AUTHORITY off the panel, KEY
unless SERVICE, STATE after an earlier entry since reset or, in a commissioned part, while a configured segment is not
CLOSED; else both marks become true. COMMISSION_EXIT: the same authority, STATE outside the mode; else the mode ends
(R198). -/
def Obligations.ProtectionAndCommissioningMode : Prop :=
  (∀ (l : Link) (region : Byte) (s : State), Ready l s →
     ∃ t, exec (.protectSet l region) s = .next t ∧
       let already : Bool := if region = 0 then s.store.protectDesc else s.store.protectLib
       let busy : Prop := s.store.inFlight.isSome = true ∨ s.store.latchPending = true
       let desc := s.store.protectDesc || region == 0
       let lib := s.store.protectLib || region == 1
       (l ≠ .panel → Refused l 0x1A .authority s t) ∧
       (l = .panel → s.key ≠ .service → Refused l 0x1A .key s t) ∧
       (l = .panel → s.key = .service → 2 ≤ region.toNat → Refused l 0x1A .range s t) ∧
       (l = .panel → s.key = .service → region.toNat < 2 → already = true →
         t = (afterHearing l s).startReply l 0x1A [0x00]) ∧
       (l = .panel → s.key = .service → region.toNat < 2 → already = false → busy → Refused l 0x1A .busy s t) ∧
       (l = .panel → s.key = .service → region.toNat < 2 → already = false → ¬ busy →
         Answered l 0x1A [0x00] 0 (heardState l s) t ∧ KeepsBut [.links, .store] (heardState l s) t ∧
         t.store = { s.store with
           protectDesc := desc, protectLib := lib,
           inFlight := some (.control (withCheck (splitWord16 s.store.commissionId ++
             [(if desc then 1 else 0) + (if lib then 2 else 0)]))) })) ∧
  ∀ (l : Link) (s : State), Ready l s →
    let admitted : Prop := s.store.enteredSince = false ∧
      (s.commissioned = false ∨ ∀ i sg, s.road.segs.get i = some sg → sg.state = .closed)
    (∃ t, exec (.commissionEnter l) s = .next t ∧
      (l ≠ .panel → Refused l 0x16 .authority s t) ∧
      (l = .panel → s.key ≠ .service → Refused l 0x16 .key s t) ∧
      (l = .panel → s.key = .service → ¬ admitted → Refused l 0x16 .state s t) ∧
      (l = .panel → s.key = .service → admitted →
        Answered l 0x16 [0x00] 0 (heardState l s) t ∧ KeepsBut [.links, .store] (heardState l s) t ∧
        t.store = { s.store with modeOn := true, enteredSince := true })) ∧
    ∃ t, exec (.commissionExit l) s = .next t ∧
      (l ≠ .panel → Refused l 0x17 .authority s t) ∧
      (l = .panel → s.key ≠ .service → Refused l 0x17 .key s t) ∧
      (l = .panel → s.key = .service → s.store.modeOn = false → Refused l 0x17 .state s t) ∧
      (l = .panel → s.key = .service → s.store.modeOn = true →
        Answered l 0x17 [0x00] 0 (heardState l s) t ∧ KeepsBut [.links, .store] (heardState l s) t ∧
        t.store = { s.store with modeOn := false })

/-- STORE_ERASE: AUTHORITY off the panel, KEY unless SERVICE, STATE outside commissioning mode, BUSY; else the erase begins and
the working protect flags and commission id are clear and 0. At its completion every record is blank, the stored value is
CLEAR, STORE attention is set, and a latch word write of LATCHED into slot 0 with generation 0 begins when the latch is not
CLEAR; the latch, the road and every other working table stand, but that each sign's desired page is composed again from pages
of 80 spaces: where the codes change the new codes and sum are recorded, the content mark and the need of service are set, and a
transfer to such a sign has a change pending, and then the arbiter acts (R162, log 31) (R57, R141, R154, R170, R197). -/
def Obligations.EraseBlanksTheStore : Prop :=
  (∀ (l : Link) (s : State), Ready l s →
    ∃ t, exec (.storeErase l) s = .next t ∧
      let busy : Prop := s.store.inFlight.isSome = true ∨ s.store.latchPending = true
      (l ≠ .panel → Refused l 0x1B .authority s t) ∧
      (l = .panel → s.key ≠ .service → Refused l 0x1B .key s t) ∧
      (l = .panel → s.key = .service → s.store.modeOn = false → Refused l 0x1B .state s t) ∧
      (l = .panel → s.key = .service → s.store.modeOn = true → busy → Refused l 0x1B .busy s t) ∧
      (l = .panel → s.key = .service → s.store.modeOn = true → ¬ busy →
        Answered l 0x1B [0x00] 0 (heardState l s) t ∧ KeepsBut [.links, .store] (heardState l s) t ∧
        t.store = { s.store with
          inFlight := some .erase, protectDesc := false, protectLib := false, commissionId := 0 })) ∧
  ∀ s : State, s.store.inFlight = some .erase →
    ∃ t, exec .eraseComplete s = .next t ∧ KeepsBut [.store, .links, .latch, .board] s t ∧ Gains Attn.store s t ∧
      t.latch = { s.latch with stored := .clear } ∧ (∀ i, t.store.description.get i = .blank) ∧
      (∀ i, t.store.library.get i = .blank) ∧ t.store.control = .blank ∧ t.store.slot0 = .blank ∧
      t.store.slot1 = .blank ∧ t.store.latchPending = false ∧
      t.store.protectDesc = s.store.protectDesc ∧ t.store.protectLib = s.store.protectLib ∧
      t.store.commissionId = s.store.commissionId ∧ t.store.modeOn = s.store.modeOn ∧
      t.store.enteredSince = s.store.enteredSince ∧
      t.store.inFlight = (if s.latch.state = .clear then none else some (.latchSlot false .latched 0)) ∧
      ∃ board, Recomposed (fun d => compose (List.replicate 80 32) d.ref) s.board board ∧ t.board = board.arbitrate

/-- COMMIT, check by check, STATE for a description that fails a load check, and its effect by the record layouts of R194:
the part is commissioned; exactly the defined segments are configured, each as described and CLOSED with both timers
stopped, not incomplete, its restriction record from the fail grade of its site, holding STARTUP, FULL exactly while the
latch is not CLEAR, ZONE for its zones in closure, ICE where the fail grade is 4, and no other entry; every gate is as
described and resolved by its switches (LOWERED, a travel down, or CONFLICT); the start-up marks are clear; sites, zones,
qualification records, channels and page map are as described; the limits and the window length are new; every sign has its
new segment and role, no override and no content mark, needs service, is urgent, and has left FAULT, which sets SIGN
attention beside SEGMENT and GATE; every probe timer is stopped, no probe is in flight, the marks are 11, so that sign 0 is
served first; the latch, the clock, the key, the key pins, the link states and timers, the other links' receivers, the
enable sets, the confirmed pages and widths stand; the commission id goes up by 1 and its control record write begins; the
reply carries the new id (R28, R43, R47, R60, R63, R78, R93, R98, R119, R157, R175, R184, R192, R194, R199, R200). A gate's
listing in ascending order is log 17; that a segment named by more than two gates fails the load is log 16. -/
def Obligations.CommitReloads : Prop :=
  ∀ (l : Link) (s : State), Ready l s →
    ∃ t, exec (.commit l) s = .next t ∧
      let closed : Prop := ∀ i sg, s.road.segs.get i = some sg → sg.state = .closed
      let busy : Prop := s.store.inFlight.isSome = true ∨ s.store.latchPending = true
      let st := s.store
      let since := if s.notices.clock.valid then some s.notices.clock.value else none
      (l ≠ .panel → Refused l 0x1C .authority s t) ∧
      (l = .panel → s.key ≠ .service → Refused l 0x1C .key s t) ∧
      (l = .panel → s.key = .service → st.modeOn = false ∨ ¬ closed ∨ s.notices.list ≠ [] →
        Refused l 0x1C .state s t) ∧
      (l = .panel → s.key = .service → st.modeOn = true → closed → s.notices.list = [] → busy →
        Refused l 0x1C .busy s t) ∧
      (l = .panel → s.key = .service → st.modeOn = true → closed → s.notices.list = [] → ¬ busy →
        ¬ PassesLoad st → Refused l 0x1C .state s t) ∧
      (l = .panel → s.key = .service → st.modeOn = true → closed → s.notices.list = [] → ¬ busy →
        PassesLoad st →
        KeepsBut [.commissioned, .marks, .road, .latch, .field, .sites, .zoneUnit, .board, .links, .store] s t ∧
        t.commissioned = true ∧ t.valleyHeard = false ∧ t.avalancheHeard = false ∧
        t.latch = { s.latch with windowLength := at2 (st.desc 0) 4 } ∧
        t.store = { st with
          commissionId := st.commissionId + 1, inFlight := some (.control (st.controlBytes (st.commissionId + 1))) } ∧
        (∀ i, (t.road.segs.get i).isSome = true ↔ at1 (st.desc (1 + i.val)) 0 = 1) ∧
        (∀ i sg, t.road.segs.get i = some sg → SegmentAtLoad since t sg ∧ SegmentAsDescribed st i sg) ∧
        (∀ g, GateAtLoad st g (s.road.gates.get g).raisedSwitch (s.road.gates.get g).loweredSwitch (t.road.gates.get g)) ∧
        (∀ j, SignAtLoad st t j) ∧ (∀ m, (t.links.get m).attention = ((heardState l s).links.get m).attention |||
          Attn.segment ||| Attn.gate |||
          (if ∃ j, (s.board.line.records.get j).state = .fault then Attn.sign else 0)) ∧
        (∀ i, SiteAtLoad st i (t.sites.get i)) ∧ (∀ z, ZoneAtLoad st z (t.zoneUnit.zones.get z)) ∧
        (∀ c, QualAtLoad st c (t.zoneUnit.quals.get c)) ∧ (∀ k, EntryAtLoad st k (t.board.pageMap.get k)) ∧
        (∀ c, ChannelAtLoad st c (s.field.channels.get c).filter (s.field.channels.get c).edge (t.field.channels.get c)) ∧
        t.field.sinceEpoch = 0 ∧
        (∀ j, (t.board.line.records.get j).confirmed = (s.board.line.records.get j).confirmed ∧
          (t.board.line.records.get j).width = (s.board.line.records.get j).width ∧
          (t.board.line.records.get j).cause = none ∧ (t.board.line.records.get j).probe = .stopped ∧
          (t.board.signs.get j).override = none) ∧
        t.board.line.transfer.map (·.target) = some 0 ∧ t.board.line.probing = none ∧ t.board.line.lastServed = 0 ∧
        t.board.line.probeMark = 11 ∧ t.field.keyA = s.field.keyA ∧ t.field.keyB = s.field.keyB ∧
        (t.links.get l).receiver = .replying (linkFrame 0x9C (0x00 :: splitWord16 (st.commissionId + 1))) ∧
        t.links.valley.limit = some (at2 (st.desc 0) 0) ∧ t.links.avalanche.limit = some (at2 (st.desc 0) 2) ∧
        (∀ m, (t.links.get m).enable = (s.links.get m).enable ∧
          (m ≠ l → (t.links.get m).active = (s.links.get m).active ∧
            (t.links.get m).timer = (s.links.get m).timer ∧ (t.links.get m).receiver = (s.links.get m).receiver)))

/-- HARDWARE_RESET: the store as the reset leaves it, no write in flight and commissioning mode off with both its marks
clear, protect flags and commission id as the control record reads; the part is commissioned exactly when the DESCRIPTION
passes the load checks, and exactly then its defined segments are configured, each CLOSED with STARTUP, FULL, ZONE and ICE
as a load gives them, with no since, every gate is as described and resolved by its switches, sites, zones, channels,
qualification records and page map are as described by the layouts of R194, every sign needs service under a closure class
and sign 0 is served first; otherwise these records have the values of an uncommissioned part, its gates, channels and page
map among them; the latch is as its word reads, with no window; the key is decoded from the first samples; the clock is
INVALID, no notice stands, the start-up marks are clear, every link is SILENT and hunting with all flags enabled, attention
holding SEGMENT and GATE when a description was loaded and nothing otherwise; no sign has a confirmed page, every width is
FULL, no probe timer runs and none is in FAULT. Without a write in flight every store record stands; a cut record write
leaves that record failing and every other one as it stood; a cut latch word write leaves its slot failing or complete; a
cut erase leaves each record blank, untouched or failing; which bytes and how far are free values (log 14). The model's
choices: a segment that more than two gates name fails the load (log 16), a gate's listing in ascending order (log 17),
fields of an uncommissioned part without a default (log 18) (R27, R46, R58, R59, R63, R65, R67, R76, R80, R97, R101, R118,
R124, R140, R156, R173, R186, R192, R194 to R198, R200). -/
def Obligations.HardwareResetStartsUp : Prop :=
  ∀ (levels : Levels) (s : State),
    ∃ t, exec (.hardwareReset levels) s = .next t ∧
      let st := (s.store.cut s.draws).reload
      let word := readLatchWord st.slot0 st.slot1
      t.store = st ∧ st.inFlight = none ∧ st.latchPending = false ∧ st.modeOn = false ∧ st.enteredSince = false ∧
      (let old := s.store
        let regions (x : Store) := (x.description, x.library, x.control, x.slot0, x.slot1)
        let left (a b : Record) : Prop := b = .blank ∨ b = a ∨ ∃ torn, b = .failing torn
        match old.inFlight with
        | none => regions st = regions old ∧ t.draws = s.draws
        | some (.description n _) =>
          ∃ torn, regions st = regions { old with description := put old.description n (.failing torn) }
        | some (.library n _) => ∃ torn, regions st = regions { old with library := put old.library n (.failing torn) }
        | some (.control _) => ∃ torn, regions st = regions { old with control := .failing torn }
        | some (.latchSlot second v g) =>
          ∃ slot, (slot = .valid (withCheck [v.code, g]) ∨ ∃ torn, slot = .failing torn) ∧
            regions st = regions (if second then { old with slot1 := slot } else { old with slot0 := slot })
        | some .erase =>
          (∀ i, left (old.description.get i) (st.description.get i)) ∧
            (∀ i, left (old.library.get i) (st.library.get i)) ∧ left old.control st.control ∧
            left old.slot0 st.slot0 ∧ left old.slot1 st.slot1) ∧
      (st.control = .blank → st.protectDesc = false ∧ st.protectLib = false ∧ st.commissionId = 0) ∧
      (∀ b, st.control = .failing b → st.protectDesc = true ∧ st.protectLib = true ∧ st.commissionId = 0) ∧
      (∀ a b flags check, st.control = .valid [a, b, flags, check] → st.protectDesc = flags.getLsbD 0 ∧
        st.protectLib = flags.getLsbD 1 ∧ st.commissionId.toNat = 256 * a.toNat + b.toNat) ∧
      (t.commissioned = true ↔ PassesLoad st) ∧ t.pending = s.pending ∧
      t.key = keyPosition levels.keyA levels.keyB ∧ t.valleyHeard = false ∧ t.avalancheHeard = false ∧
      t.latch.state = (match word with | .clear => .clear | .latched => .latched) ∧ t.latch.stored = word ∧
      t.latch.window = none ∧ t.latch.proposer = none ∧
      t.notices = { clock := { valid := false, value := 0, timer := none }, list := [] } ∧
      (∀ i, (t.road.segs.get i).isSome = true ↔ t.commissioned = true ∧ at1 (st.desc (1 + i.val)) 0 = 1) ∧
      (∀ i sg, t.road.segs.get i = some sg → SegmentAtLoad none t sg ∧ SegmentAsDescribed st i sg) ∧
      (t.commissioned = true →
        (∀ g, GateAtLoad st g ⟨levels.raised.get g, 0⟩ ⟨levels.lowered.get g, 0⟩ (t.road.gates.get g)) ∧
        (∀ i, SiteAtLoad st i (t.sites.get i)) ∧ (∀ z, ZoneAtLoad st z (t.zoneUnit.zones.get z)) ∧
        (∀ c, QualAtLoad st c (t.zoneUnit.quals.get c)) ∧ (∀ j, SignAtLoad st t j) ∧
        (∀ c, ChannelAtLoad st c ⟨levels.pulse.get c, 0⟩ (levels.pulse.get c) (t.field.channels.get c)) ∧
        (∀ k, EntryAtLoad st k (t.board.pageMap.get k)) ∧ t.board.line.transfer.map (·.target) = some 0 ∧
        t.board.line.probing = none ∧ t.board.line.lastServed = 0 ∧ t.board.line.probeMark = 11 ∧
        t.latch.windowLength = at2 (st.desc 0) 4 ∧ t.links.valley.limit = some (at2 (st.desc 0) 0) ∧
        t.links.avalanche.limit = some (at2 (st.desc 0) 2)) ∧
      (t.commissioned = false →
        (∀ i, t.sites.get i = State.idleSite) ∧ (∀ z, t.zoneUnit.zones.get z = State.idleZone) ∧
        (∀ c, t.zoneUnit.quals.get c = none) ∧ (∀ j, t.board.signs.get j = State.idleSign) ∧
        t.board.line = State.idleSignLine ∧ t.latch.windowLength = 300 ∧ t.links.valley.limit = some 120 ∧
        t.links.avalanche.limit = some 60 ∧
        (∀ c, (t.field.channels.get c).kind = .unused ∧ (t.field.channels.get c).owner = .none ∧
          (t.field.channels.get c).gateLength = 1 ∧ (t.field.channels.get c).nf = 0 ∧
          (t.field.channels.get c).last = none ∧ (t.field.channels.get c).carrier = none) ∧
        ∀ k, t.board.pageMap.get k =
          { page := 0, flash := false, formatA := none, sourceA := .none, formatB := none, sourceB := .none }) ∧
      (∀ m, (t.links.get m).attention = (if t.commissioned then Attn.segment ||| Attn.gate else 0) ∧
        (t.links.get m).line = t.commissioned) ∧
      (∀ m, (t.links.get m).active = false ∧ (t.links.get m).timer = none ∧ (t.links.get m).receiver = .hunting ∧
        (t.links.get m).enable = 0x7FF) ∧
      (∀ j, (t.board.line.records.get j).confirmed = none ∧ (t.board.line.records.get j).state ≠ .fault ∧
        (t.board.line.records.get j).cause = none ∧ (t.board.line.records.get j).width = .full ∧
        (t.board.line.records.get j).probe = .stopped) ∧
      (∀ c, (t.field.channels.get c).filter = ⟨levels.pulse.get c, 0⟩ ∧ (t.field.channels.get c).count = 0) ∧
      (∀ g, (t.road.gates.get g).raisedSwitch = ⟨levels.raised.get g, 0⟩ ∧
        (t.road.gates.get g).loweredSwitch = ⟨levels.lowered.get g, 0⟩) ∧ t.field.sinceEpoch = 0 ∧
      (t.commissioned = false → ∀ g, t.road.gates.get g =
        { listing := [], tMin := 1, tMax := 2, state := .unknown, cause := none, demand := .lower, check := none,
          timer := none, raisedSwitch := ⟨levels.raised.get g, 0⟩, loweredSwitch := ⟨levels.lowered.get g, 0⟩,
          raiseDrive := false, lowerDrive := false })

-- ================================================================ field inputs (chapter 4)

/-- An accepted change of a key pin decodes the key position again from both pins (A alone OPERATE, B alone SERVICE, else
LOCKED), and leaving SERVICE ends commissioning mode; nothing else changes (R65, R198). -/
def Obligations.KeyPinChangeDecodesTheKey : Prop :=
  ∀ (pin : KeyPin) (level : Bool) (s : State), (s.field.pin pin).level ≠ level →
    let f := s.field.setPin pin ⟨level, 0⟩
    let key : KeyPosition := if f.keyA.level = f.keyB.level then .locked else if f.keyA.level then .operate else .service
    exec (.keyPinChange pin level) s = .next { s with
      field := f, key := key,
      store := { s.store with
        modeOn := if s.key = .service ∧ key ≠ .service then false else s.store.modeOn } }

/-- An accepted change of a pulse input counts one when it rises on a channel of a counting kind, saturating at 65535, and
reloads the carrier counter of a detector to the full limit, restoring a LOST carrier with DETECTOR attention; the last
result, the other channels and every other block stand (R68, R69, R73, R75). -/
def Obligations.PulseChangeCountsAndFeedsTheCarrier : Prop :=
  ∀ (c : ChanId) (level : Bool) (s : State), (s.field.channels.get c).acceptedLevel ≠ level →
    ∃ t, exec (.pulseInputChange c level) s = .next t ∧
      let old := s.field.channels.get c
      let new := t.field.channels.get c
      KeepsBut [.field, .links] s t ∧ (∀ j, j ≠ c → t.field.channels.get j = s.field.channels.get j) ∧
      t.field.keyA = s.field.keyA ∧ t.field.keyB = s.field.keyB ∧ t.field.sinceEpoch = s.field.sinceEpoch ∧
      new.acceptedLevel = level ∧ new.last = old.last ∧ new.kind = old.kind ∧ new.owner = old.owner ∧
      new.gateLength = old.gateLength ∧ new.nf = old.nf ∧ new.gatesEnded = old.gatesEnded ∧
      new.count = (if level = true ∧ old.kind ≠ .unused then min 65535 (old.count + 1) else old.count) ∧
      new.carrier = old.carrier.map (fun k => { k with present := true, counter := some k.limit, phase := 0 }) ∧
      Gains (match old.carrier with | some k => if k.present then 0 else Attn.detector | none => 0) s t

/-- The carrier counter of a detector channel runs out: the carrier is LOST and its counter stopped, the channel is FAILED
from any state with count, latest result and test flag kept, DETECTOR attention is set; a channel that was not closing
becomes a DETECTOR source of every segment that its zone exposes, and such a segment that held no DETECTOR entry is in
CLOSING or CLOSED (R74, R110, R112, R113). -/
def Obligations.CarrierLossFailsTheDetector : Prop :=
  ∀ (c : ChanId) (s : State) (k : Carrier) (q : Qualification), (s.field.channels.get c).carrier = some k →
    k.counter = some 0 → s.zoneUnit.quals.get c = some q →
    ∃ t, exec (.carrierLoss c) s = .next t ∧
      t.field = { s.field with channels := put s.field.channels c { s.field.channels.get c with
        carrier := some { k with present := false, counter := none, phase := 0 } } } ∧
      t.zoneUnit = { s.zoneUnit with quals := put s.zoneUnit.quals c (some { q with state := .failed }) } ∧
      KeepsBut [.field, .zoneUnit, .links, .road, .board] s t ∧ OnlyKind .detector s t ∧
      (∃ f, Gains f s t ∧ Includes Attn.detector f) ∧
      ∀ z, (s.field.channels.get c).owner = .zone z → q.state = .quiet ∨ q.state = .pending →
        ∀ i ∈ (s.zoneUnit.zones.get z).exposed, HasSource t i .detector c.val ∧
          ∀ sg, s.road.segs.get i = some sg → sg.holds.has .detector = false →
            ∃ sg', t.road.segs.get i = some sg' ∧ sg'.state.shut = true

/-- A measurement gate ends: the count becomes the last result and starts again from 0. The channels of one site that end at one
moment end together, the earliest such moment first, and their results enter the site's accumulator in ascending channel id; at a
period end this delivery closes the period in the same event, as SITE_PERIOD_CLOSE does. A detector's result becomes its latest
result and moves its count and state as the table of R108 gives, with DETECTOR attention at an entry to CONFIRMED and, by the
notify mode, at an entry to PENDING and a return to QUIET; a detector that becomes CONFIRMED becomes a DETECTOR source of the
segments its zone exposes (R71, R72, R81, R82, R108, R112, R113). One delivery for each command is the model's choice
(log 21). -/
def Obligations.MeasurementGateDelivers : Prop :=
  ∀ (c : ChanId) (s : State), s.field.gateDue c = true →
    let ch := s.field.channels.get c
    let ended (x : Channel) : Channel := { x with last := some x.count, count := 0, gatesEnded := x.gatesEnded + 1 }
    let ends (j : ChanId) : Nat := ((s.field.channels.get j).gatesEnded + 1) * (s.field.channels.get j).gateLength * 1000
    (∀ i, ch.owner = .site i →
      let due := (s.field.ofSite i).filter fun j => (s.field.ofSite i).all fun k => ends j ≤ ends k
      let periodEnd := ((s.sites.get i).periodsEnded + 1) * (s.sites.get i).config.period * 1000
      ((s.sites.get i).inUse = true → (∃ j ∈ due, ends j = periodEnd) →
        exec (.measurementGateEnd c) s = exec (.sitePeriodClose i) s) ∧
      ((s.sites.get i).inUse = false ∨ (∀ j ∈ due, ends j ≠ periodEnd) →
      ∃ t, exec (.measurementGateEnd c) s = .next t ∧
      KeepsBut [.field, .sites] s t ∧
      (∀ j, t.field.channels.get j =
        if due.contains j then ended (s.field.channels.get j) else s.field.channels.get j) ∧
      t.field.sinceEpoch = s.field.sinceEpoch ∧
      t.sites = put s.sites i { s.sites.get i with
        acc := due.foldl (fun a j => afterResult (s.sites.get i).config.w a (s.field.channels.get j)) (s.sites.get i).acc })) ∧
    (∀ z q, ch.owner = .zone z → s.zoneUnit.quals.get c = some q → ∃ t q', exec (.measurementGateEnd c) s = .next t ∧
      t.zoneUnit = { s.zoneUnit with quals := put s.zoneUnit.quals c (some q') } ∧
      t.field = { s.field with channels := put s.field.channels c (ended ch) } ∧
      KeepsBut [.field, .zoneUnit, .links, .road, .board] s t ∧ OnlyKind .detector s t ∧
      (∃ f, Gains f s t ∧ Within (Attn.detector ||| Attn.segment ||| Attn.gate) f ∧
        (Includes Attn.detector f ↔ NotifiesDetector q q')) ∧ q'.notify = q.notify ∧
      q'.latest = some ch.count ∧ q'.test = q.test ∧ q'.trip = q.trip ∧ q'.np = q.np ∧ q'.nc = q.nc ∧
      (q.trip ≤ ch.count → q'.count = min 15 (q.count + 1) ∧
        q'.state = match q.state with
          | .confirmed => .confirmed
          | .failed => .failed
          | .pending => if q.nc ≤ q'.count then .confirmed else .pending
          | .quiet => if q.nc ≤ q'.count then .confirmed else if q.np ≤ q'.count then .pending else .quiet) ∧
      (ch.count < q.trip → q'.count = 0 ∧ q'.state = if q.state = .pending then .quiet else q.state) ∧
      (q.state = .quiet ∨ q.state = .pending → q'.state = .confirmed →
        ∀ i ∈ (s.zoneUnit.zones.get z).exposed, HasSource t i .detector c.val))

/-- One sample of every input with the ms that it stands for: each filter takes its input as the table of R62 gives, with NF
20 for an end switch, 50 for a key pin and the channel's own NF. An accepted change of a pulse input (an edge where NF is 0)
counts its rise and reloads its carrier; else a running carrier counter goes down by 10 ms after every tenth ms (log 27).
The time since the epoch and the gap of a partial link frame go up by one ms; the joint window, the silence timers, the
minute timer, the reply window and the probe timers go down by one, the confirmation waits and warning timers too, and a
travel timer goes up to T_max at most, where no end switch change is accepted, which then changes nothing else of road and
board. Where one end switch change alone is accepted, the sample is that of the other inputs, followed by END_SWITCH_CHANGE.
DETECTOR attention is set exactly when a LOST carrier is restored, no flag but SEGMENT and GATE beside it, and these only
where an end switch change is accepted; enable sets and limits stand. No notice, site or zone record changes and no hold set
does, and the store stands but for commissioning mode, which leaving SERVICE ends (R36, R61, R62, R64, R65, R68, R73, R75,
R198). The model's choices: a sample carries its ms (log 3) and handles the changes it accepts itself, key pin A before B
(log 5); the timers move before the inputs are sampled (log 19); with NF 0 the edge is judged against the level last seen
(log 20); a timer that stands at 0 stays there until its expiry row is taken (log 32). -/
def Obligations.InputSampleFiltersEveryInput : Prop :=
  ∀ (levels : Levels) (s : State),
    ∃ t, exec (.inputSample levels) s = .next t ∧
      let sampled (nf : Nat) (level : Bool) (f : Filter) : Filter :=
        if level = f.level then ⟨f.level, 0⟩ else if f.run + 1 < nf then ⟨f.level, f.run + 1⟩ else ⟨level, 0⟩
      let down (x : Timer) : Timer := x.map (· - 1)
      let raised (g : GateId) : Filter := sampled 20 (levels.raised.get g) (s.road.gates.get g).raisedSwitch
      let lowered (g : GateId) : Filter := sampled 20 (levels.lowered.get g) (s.road.gates.get g).loweredSwitch
      let counted (k : Carrier) : Carrier := match k.counter with
        | none => k
        | some 0 => k
        | some n => if k.phase + 1 < 10 then { k with phase := k.phase + 1 }
          else { k with counter := some (n - 10), phase := 0 }
      let filter (c : ChanId) : Filter :=
        sampled (s.field.channels.get c).nf (levels.pulse.get c) (s.field.channels.get c).filter
      let change (c : ChanId) : Bool :=
        if (s.field.channels.get c).nf = 0 then levels.pulse.get c != (s.field.channels.get c).edge
        else (filter c).level != (s.field.channels.get c).filter.level
      let accepts (g : GateId) : Switch → Bool
        | .raised => (raised g).level != (s.road.gates.get g).raisedSwitch.level
        | .lowered => (lowered g).level != (s.road.gates.get g).loweredSwitch.level
      (∀ c, let old := s.field.channels.get c
        t.field.channels.get c = { old with
          filter := filter c, edge := levels.pulse.get c,
          count := if change c ∧ levels.pulse.get c = true ∧ old.kind ≠ .unused then min 65535 (old.count + 1)
            else old.count,
          carrier := old.carrier.map fun k =>
            if change c then { k with present := true, counter := some k.limit, phase := 0 } else counted k }) ∧
      (∀ g, (t.road.gates.get g).raisedSwitch = raised g ∧ (t.road.gates.get g).loweredSwitch = lowered g) ∧
      t.field.keyA = sampled 50 levels.keyA s.field.keyA ∧ t.field.keyB = sampled 50 levels.keyB s.field.keyB ∧
      t.key = (if t.field.keyA.level = s.field.keyA.level ∧ t.field.keyB.level = s.field.keyB.level then s.key
        else keyPosition t.field.keyA.level t.field.keyB.level) ∧
      t.field.sinceEpoch = s.field.sinceEpoch + 1 ∧ t.latch = { s.latch with window := down s.latch.window } ∧
      (∃ f, (∀ m, (t.links.get m).attention = (s.links.get m).attention ||| f) ∧
        Within (Attn.detector ||| Attn.segment ||| Attn.gate) f ∧
        (Includes Attn.detector f ↔
          ∃ c, change c = true ∧ ∃ k, (s.field.channels.get c).carrier = some k ∧ k.present = false) ∧
        ((∀ g sw, accepts g sw = false) → Within Attn.detector f)) ∧
      (∀ m, (t.links.get m).enable = (s.links.get m).enable ∧ (t.links.get m).limit = (s.links.get m).limit ∧
        (t.links.get m).timer = down (s.links.get m).timer ∧ (t.links.get m).active = (s.links.get m).active ∧
        (t.links.get m).receiver = match (s.links.get m).receiver with
          | .inFrame bytes gap => .inFrame bytes (gap + 1)
          | r => r) ∧
      t.notices = { s.notices with clock := { s.notices.clock with timer := down s.notices.clock.timer } } ∧
      (let afterA : KeyPosition := if t.field.keyA.level = s.field.keyA.level then s.key
          else keyPosition t.field.keyA.level s.field.keyB.level
        let leaves : Prop := (s.key = .service ∧ afterA ≠ .service) ∨ (afterA = .service ∧ t.key ≠ .service)
        t.store = { s.store with modeOn := if leaves then false else s.store.modeOn }) ∧
      KeepsBut [.field, .road, .board, .links, .latch, .notices, .key, .store] s t ∧ HoldsStand s t ∧
      (∀ g sw, accepts g sw = true → (∀ j x, accepts j x = true → j = g ∧ x = sw) →
        let level := match sw with | .raised => levels.raised.get g | .lowered => levels.lowered.get g
        let held : Levels := match sw with
          | .raised => { levels with raised := put levels.raised g (!level) }
          | .lowered => { levels with lowered := put levels.lowered g (!level) }
        ∃ u, exec (.inputSample held) s = .next u ∧ exec (.endSwitchChange g sw level) u = .next t) ∧
      ((∀ g sw, accepts g sw = false) →
        (∀ i, t.road.segs.get i = (s.road.segs.get i).map fun sg =>
          { sg with confirmWait := down sg.confirmWait, warningTimer := down sg.warningTimer }) ∧
        (∀ g, let old := s.road.gates.get g
          t.road.gates.get g = { old with
            raisedSwitch := raised g, loweredSwitch := lowered g,
            timer := old.timer.map fun ms => min (old.tMax * 1000) (ms + 1) }) ∧
        t.board.signs = s.board.signs ∧ t.board.pageMap = s.board.pageMap ∧
        (∀ j, t.board.line.records.get j = { s.board.line.records.get j with
          probe := match (s.board.line.records.get j).probe with | .running ms => .running (ms - 1) | p => p }) ∧
        t.board.line = { s.board.line with
          records := t.board.line.records,
          sent := s.board.line.sent.map fun f => { f with window := down f.window } })

-- ================================================================ road conditions (chapter 5)

/-- A site period ends, when no earlier gate end of the site is still to be taken (log 21). The period-end delivery, where it
still stands, enters the accumulator; then Ts and Ta (INVALID for a result of 0, Ta absent without an AIR_TEMP channel; a missing
result is log 29), the values of stages 2 and 3, the penalties Pt, Pm and Ps, their limited sum and the grip score, the grade and
wind rings with their largest entries reported, the restriction record of every served segment, the WEATHER causes of
every served segment by its options, SITE attention exactly when a reported value or the validity of Ts has changed, and
the empty accumulator of the next period. Every other site and every entry of another kind stand (R81 to R94, R96). -/
def Obligations.SitePeriodCloses : Prop :=
  ∀ (i : SiteId) (s : State), s.field.periodDue i (s.sites.get i) = true →
    ∃ t, exec (.sitePeriodClose i) s = .next t ∧
      let old := s.sites.get i
      let new := t.sites.get i
      let cfg := old.config
      let ends (j : ChanId) : Nat := ((s.field.channels.get j).gatesEnded + 1) * (s.field.channels.get j).gateLength * 1000
      let due := (s.field.ofSite i).filter fun j => ends j = (old.periodsEnded + 1) * old.config.period * 1000
      let temp (kind : ChanKind) (result : Option Nat) (missing : Temp) : Temp :=
        match (s.field.ofSite i).find? fun j => (s.field.channels.get j).kind == kind with
        | none => missing
        | some j => match result with
          | none => .invalid
          | some c => if c = 0 then .invalid else
            let g : Int := (s.field.channels.get j).gateLength
            .value (max (-500) (min 800 (Int.fdiv (((c : Int) - cfg.f0 * g) * 10) (cfg.s * g))))
      let acc := due.foldl (fun a j => afterResult cfg.w a (s.field.channels.get j)) old.acc
      let windClass : Nat := if acc.gustMax < cfg.wBan then 0 else if acc.gustMax < cfg.wClose then 1 else 2
      let hasSurface : Prop := ∃ j ∈ s.field.ofSite i, (s.field.channels.get j).kind = .surfaceTemp
      let p := min 255 (acc.precipSum * cfg.pg / (cfg.period * 8))
      let cold : Bool := match new.ta with | .value ta => ta ≤ 10 | _ => true
      let invalid (x : Temp) : Bool := x == .invalid
      KeepsBut [.field, .sites, .links, .road, .board] s t ∧ (∀ j, j ≠ i → t.sites.get j = s.sites.get j) ∧
      new.config = cfg ∧ new.inUse = old.inUse ∧ new.acc = ⟨0, 0, 0, none, none⟩ ∧
      new.vMean = some (min 999 (acc.windSum * cfg.w / (cfg.period * 100))) ∧ new.vGust = some acc.gustMax ∧
      new.p = some p ∧ (hasSurface → new.ts = temp .surfaceTemp acc.surface .absent) ∧
      new.ta = temp .airTemp acc.air .absent ∧
      (∀ ts, new.ts = .value ts → ∃ q, new.penalties = some q ∧ new.g = .value (100 - q.combined) ∧
        q.thermal = (if 30 ≤ ts then 0 else (min 40 ((30 - ts) / 2)).toNat) ∧
        q.moisture = (if 30 ≤ ts then min 40 (p * cfg.mg / 32) / 2 else min 40 (p * cfg.mg / 32)) ∧
        q.snowfall = (if 0 < p ∧ cold = true then 15 else 0) ∧
        q.combined = min 90 (q.thermal + q.moisture + q.snowfall + if 0 < q.thermal ∧ 0 < q.moisture then 10 else 0)) ∧
      (new.ts = .invalid → new.g = .invalid ∧ new.penalties = none) ∧
      new.computedGrade = some (gradeOf cfg new.g) ∧ new.computedWind = some windClass ∧
      new.gradeRing = (if cfg.len ≤ old.gradeRing.length then old.gradeRing.drop 1 else old.gradeRing)
        ++ [gradeOf cfg new.g] ∧
      new.windRing = (if cfg.len ≤ old.windRing.length then old.windRing.drop 1 else old.windRing)
        ++ [windClass] ∧
      new.reportedGrade = new.gradeRing.foldl max 0 ∧ new.reportedWind = new.windRing.foldl max 0 ∧
      (∃ f, Gains f s t ∧ (Includes Attn.site f ↔ new.reportedGrade ≠ old.reportedGrade ∨
        new.reportedWind ≠ old.reportedWind ∨ invalid new.ts ≠ invalid old.ts)) ∧
      OnlyKind .weather s t ∧
      SegmentBecomes s t fun _ sg sg' =>
        (sg.site ≠ some i → sg'.restriction = sg.restriction ∧ sg'.holds = sg.holds) ∧
        (sg.site = some i →
          sg'.restriction = { advisory := new.reportedGrade, chains := decide (3 ≤ new.reportedGrade),
                              ban := decide (1 ≤ new.reportedWind) } ∧
          let sources := match sg'.holds.entry .weather with | some e => e.sources | none => []
          (causeIce ∈ sources ↔ new.reportedGrade = 4 ∧ sg.iceAuto = true) ∧
          (causeWind ∈ sources ↔ new.reportedWind = 2 ∧ sg.windAuto = true))

/-- The computed grade of a grip score under ordered thresholds: the table of R89, and the fail grade for an INVALID score. -/
def Obligations.ComputedGradeFollowsItsTable : Prop :=
  ∀ (cfg : SiteConfig), cfg.t4 < cfg.t3 → cfg.t3 < cfg.t2 → cfg.t2 < cfg.t1 →
    (∀ g, (cfg.t1 ≤ g → gradeOf cfg (.value g) = 0) ∧
      (cfg.t2 ≤ g → g < cfg.t1 → gradeOf cfg (.value g) = 1) ∧
      (cfg.t3 ≤ g → g < cfg.t2 → gradeOf cfg (.value g) = 2) ∧
      (cfg.t4 ≤ g → g < cfg.t3 → gradeOf cfg (.value g) = 3) ∧
      (g < cfg.t4 → gradeOf cfg (.value g) = 4)) ∧
    gradeOf cfg .invalid = cfg.fail ∧
    (cfg.t1 = 85 → ∀ g, 85 ≤ g → gradeOf cfg (.value g) = 0) ∧
    (cfg.t4 = 40 → ∀ g, g ≤ 39 → gradeOf cfg (.value g) = 4)

-- ================================================================ zones and detectors (chapter 6)

/-- ZONE_LEVEL: AUTHORITY off the avalanche link, STATE while uncommissioned, RANGE for an id above 5. Else the zone is SET at
the level clamped to 5, with set-since-reset, and its effective level and flags follow; ZONE attention is set when the
effective level or the status changed; a zone in closure is a ZONE source of every segment it exposes, and one that has left
closure is none. The reply carries the zone, the set and the effective level. Only ZONE entries change, and STARTUP entries:
they leave every segment when both start-up marks and set-since-reset of all six zones are now set, and stand otherwise (R25,
R102, R103, R105, R106, R182). -/
def Obligations.ZoneLevelSetsTheZone : Prop :=
  ∀ (l : Link) (zone level : Byte) (s : State), Ready l s →
    ∃ t, exec (.zoneLevel l zone level) s = .next t ∧
      (l ≠ .avalanche → Refused l 0x0D .authority s t) ∧
      (l = .avalanche → s.commissioned = false → Refused l 0x0D .state s t) ∧
      (l = .avalanche → s.commissioned = true → 6 ≤ zone.toNat → Refused l 0x0D .range s t) ∧
      ∀ z : ZoneId, l = .avalanche → s.commissioned = true → zone.toNat = z.val →
        let h := heardState l s
        let old := s.zoneUnit.zones.get z
        let set := min 5 level.toNat
        let new : Zone := { old with
          setLevel := set, status := .set, setSinceReset := true, effective := set,
          warning := decide (old.warnThreshold ≤ set), closure := decide (old.closeThreshold ≤ set) }
        t.zoneUnit = { s.zoneUnit with zones := put s.zoneUnit.zones z new } ∧
        KeepsBut [.zoneUnit, .links, .road, .board] h t ∧
        (∃ f, Answered l 0x0D ([0x00, zone] ++ byte1 set ++ byte1 set) f h t ∧
          (Includes Attn.zone f ↔ old.effective ≠ set ∨ old.status = .unknown)) ∧
        (old.closure = false → new.closure = true → ∀ i ∈ old.exposed, HasSource t i .zone z.val) ∧
        SegmentBecomes h t fun i sg sg' =>
          (∀ k, k ≠ .zone → k ≠ .startup → sg'.holds.entry k = sg.holds.entry k) ∧
          sg'.holds.entry .startup = (if h.valleyHeard = true ∧ h.avalancheHeard = true ∧
              ∀ y, (t.zoneUnit.zones.get y).setSinceReset = true then none else sg.holds.entry .startup) ∧
          (old.closure = true → new.closure = false → i ∈ old.exposed → ∀ e, sg'.holds.entry .zone = some e →
            z.val ∉ e.sources)

/-- DETECTOR_CLEAR, check by check, with the channel's state, count, latest result and carrier in the refusals of a DETECTOR:
AUTHORITY, STATE, RANGE, STATE unless CONFIRMED or FAILED, ACTIVE unless the latest result is quiet and the carrier PRESENT.
When accepted the channel is QUIET with count 0 and no test flag, its latest result kept, DETECTOR attention is set, and it is
a DETECTOR source of no segment that its zone exposes (R112 to R114). Which refusals carry the fields, and the carrier without a
presence byte, are the model's reading (log 12). -/
def Obligations.DetectorClearNeedsQuiet : Prop :=
  ∀ (l : Link) (channel : Byte) (s : State), Ready l s →
    ∃ t, exec (.detectorClear l channel) s = .next t ∧
      (¬ (∃ c : ChanId, channel.toNat = c.val ∧ (s.field.channels.get c).kind = .detector ∧
          (s.zoneUnit.quals.get c).isSome = true) →
        (l ≠ .avalanche → Refused l 0x0E .authority s t) ∧
        (l = .avalanche → s.commissioned = false → Refused l 0x0E .state s t) ∧
        (l = .avalanche → s.commissioned = true → Refused l 0x0E .range s t)) ∧
      ∀ (c : ChanId) (q : Qualification), channel.toNat = c.val → (s.field.channels.get c).kind = .detector →
        s.zoneUnit.quals.get c = some q →
        let present := (s.field.channels.get c).carrierPresent
        let refused (r : Result) : Prop := t = (afterHearing l s).startReply l 0x0E (r.code ::
          (byte1 q.state.code ++ byte1 q.count ++ optField byte2 q.latest ++ byte1 (if present then 0 else 1)))
        let closing : Prop := q.state = .confirmed ∨ q.state = .failed
        let quiet : Prop := (∃ r, q.latest = some r ∧ r < q.trip) ∧ present = true
        (l ≠ .avalanche → refused .authority) ∧
        (l = .avalanche → s.commissioned = false → refused .state) ∧
        (l = .avalanche → s.commissioned = true → ¬ closing → refused .state) ∧
        (l = .avalanche → s.commissioned = true → closing → ¬ quiet → refused .active) ∧
        (l = .avalanche → s.commissioned = true → closing → quiet →
          t.zoneUnit = { s.zoneUnit with
            quals := put s.zoneUnit.quals c (some { q with state := .quiet, count := 0, test := false }) } ∧
          KeepsBut [.zoneUnit, .links, .road, .board] (heardState l s) t ∧ OnlyKind .detector (heardState l s) t ∧
          (∃ f, Answered l 0x0E [0x00, 0x00] f (heardState l s) t ∧ Includes Attn.detector f) ∧
          ∀ z i sg' e, (s.field.channels.get c).owner = .zone z → i ∈ (s.zoneUnit.zones.get z).exposed →
            t.road.segs.get i = some sg' → sg'.holds.entry .detector = some e → c.val ∉ e.sources)

/-- TEST_TRIP, check by check: AUTHORITY on the valley link, KEY on the panel unless SERVICE, STATE, RANGE for a channel that is
no DETECTOR, STATE while a segment that the channel's zone exposes is not CLOSED. When accepted it counts as one exceeding
result with the test flag set, the latest result kept, DETECTOR attention by the notify mode, and the reply carries the state and
the count (R108, R112, R113, R116, R117). -/
def Obligations.TestTripCountsOneExceedingResult : Prop :=
  ∀ (l : Link) (channel : Byte) (s : State), Ready l s →
    ∃ t, exec (.testTrip l channel) s = .next t ∧
      let detector (c : ChanId) : Prop := channel.toNat = c.val ∧ (s.field.channels.get c).kind = .detector
      let entitled : Prop := l = .avalanche ∨ (l = .panel ∧ s.key = .service)
      (l = .valley → Refused l 0x0F .authority s t) ∧
      (l = .panel → s.key ≠ .service → Refused l 0x0F .key s t) ∧
      (entitled → s.commissioned = false → Refused l 0x0F .state s t) ∧
      (entitled → s.commissioned = true → (∀ c, ¬ detector c) → Refused l 0x0F .range s t) ∧
      ∀ (c : ChanId) (q : Qualification) (z : ZoneId), entitled → s.commissioned = true → detector c →
        s.zoneUnit.quals.get c = some q → (s.field.channels.get c).owner = .zone z →
        let h := heardState l s
        let shut : Prop := ∀ i ∈ (s.zoneUnit.zones.get z).exposed, h.road.segState i = some .closed
        (¬ shut → Refused l 0x0F .state s t) ∧
        (shut → ∃ q', t.zoneUnit = { s.zoneUnit with quals := put s.zoneUnit.quals c (some q') } ∧
          q'.test = true ∧ q'.trip = q.trip ∧ q'.np = q.np ∧ q'.nc = q.nc ∧ q'.notify = q.notify ∧ q'.latest = q.latest ∧
          q'.count = min 15 (q.count + 1) ∧
          (q'.state = match q.state with
            | .confirmed => .confirmed
            | .failed => .failed
            | .pending => if q.nc ≤ q'.count then .confirmed else .pending
            | .quiet => if q.nc ≤ q'.count then .confirmed else if q.np ≤ q'.count then .pending else .quiet) ∧
          KeepsBut [.zoneUnit, .links, .road, .board] h t ∧ OnlyKind .detector h t ∧
          (∃ f, Answered l 0x0F (0x00 :: (byte1 q'.state.code ++ byte1 q'.count)) f h t ∧
            Within (Attn.detector ||| Attn.segment ||| Attn.gate) f ∧
            (Includes Attn.detector f ↔ NotifiesDetector q q')) ∧
          (q.state = .quiet ∨ q.state = .pending → q'.state = .confirmed →
            ∀ i ∈ (s.zoneUnit.zones.get z).exposed, HasSource t i .detector c.val))

-- ================================================================ clock and notices (chapter 7)

/-- TIME_SET: AUTHORITY off the valley link, STATE while uncommissioned, RANGE above 1 048 575; else the clock is VALID at the
value with a fresh minute, CLOCK attention is set, and one evaluation runs. A minute tick adds one minute, up to the last,
with a fresh minute and one evaluation. The evaluation leaves the notices that the table of R127 gives, and only NOTICE
entries change (R122, R123, R127). That the tick acts only when its timer has run out is the model's choice (log 4). -/
def Obligations.ClockMovesAndEvaluates : Prop :=
  (∀ (l : Link) (value : Word32) (s : State), Ready l s →
    ∃ t, exec (.timeSet l value) s = .next t ∧
      (l ≠ .valley → Refused l 0x07 .authority s t) ∧
      (l = .valley → s.commissioned = false → Refused l 0x07 .state s t) ∧
      (l = .valley → s.commissioned = true → 1048575 < value.toNat → Refused l 0x07 .range s t) ∧
      (l = .valley → s.commissioned = true → value.toNat ≤ 1048575 →
        let h := heardState l s
        t.notices.clock = { valid := true, value := value.toNat, timer := some 60000 } ∧
        t.notices.list = s.notices.list.filterMap (afterEvaluation value.toNat) ∧
        KeepsBut [.notices, .links, .road, .board] h t ∧ OnlyKind .notice h t ∧
        ∃ f, Answered l 0x07 (0x00 :: byte4 value.toNat) f h t ∧ Includes Attn.clock f)) ∧
  ∀ (s : State), s.notices.clock.valid = true → s.notices.clock.timer = some 0 →
    ∃ t, exec .minuteTick s = .next t ∧
      let now := if s.notices.clock.value < 1048575 then s.notices.clock.value + 1 else 1048575
      t.notices.clock = { valid := true, value := now, timer := some 60000 } ∧
      t.notices.list = s.notices.list.filterMap (afterEvaluation now) ∧
      KeepsBut [.notices, .links, .road, .board] s t ∧ OnlyKind .notice s t ∧ ∃ f, Gains f s t ∧
        (Includes Attn.notice f ↔ ∃ n ∈ s.notices.list, afterEvaluation now n ≠ some n)

/-- NOTICE_CREATE: AUTHORITY off the valley link, STATE while uncommissioned, RANGE for a kind above 1 or a field out of its
range, FULL when 16 notices stand. Else a notice with the lowest free id, revision 0, state WAITING and the carried fields
joins the list, NOTICE attention is set, and with a VALID clock an evaluation runs at once; the reply carries the id, the
revision and the state it then has, 3 when it is already gone (R126, R131, R132, R182). -/
def Obligations.NoticeCreateAddsANotice : Prop :=
  ∀ (l : Link) (kind : Byte) (body : NoticeBody) (s : State), Ready l s → segListFits body.segs = true → NoticeLaw s →
    ∃ t, exec (.noticeCreate l kind body) s = .next t ∧
      (l ≠ .valley → Refused l 0x08 .authority s t) ∧
      (l = .valley → s.commissioned = false → Refused l 0x08 .state s t) ∧
      (l = .valley → s.commissioned = true → 1 < kind.toNat ∨ ¬ BodyOk s.road body → Refused l 0x08 .range s t) ∧
      (l = .valley → s.commissioned = true → kind.toNat ≤ 1 → BodyOk s.road body → s.notices.list.length = 16 →
        Refused l 0x08 .full s t) ∧
      (l = .valley → s.commissioned = true → kind.toNat ≤ 1 → BodyOk s.road body → s.notices.list.length < 16 →
        let h := heardState l s
        ∃ n : Notice, Carries n body ∧ n.kind = (if kind = 0 then .scheduled else .seasonal) ∧ n.revision = 0 ∧
          n.state = .waiting ∧ 1 ≤ n.id ∧ n.id ≤ 16 ∧ (∀ m ∈ s.notices.list, m.id ≠ n.id) ∧
          (∀ j, 1 ≤ j → j < n.id → ∃ m ∈ s.notices.list, m.id = j) ∧
          t.notices.clock = s.notices.clock ∧ ListBecomes t (fun m => m = n ∨ m ∈ s.notices.list) ∧
          KeepsBut [.notices, .links, .road, .board] h t ∧ OnlyKind .notice h t ∧
          ∃ f, Includes Attn.notice f ∧ Answered l 0x08 ((0x00 : Byte) :: byte1 n.id ++ byte1 0 ++ byte1
            (if s.notices.clock.valid = true then
              match afterEvaluation s.notices.clock.value n with | some m => m.state.code | none => 3
            else 0)) f h t)

/-- NOTICE_AMEND, check by check: AUTHORITY, STATE, UNKNOWN_ID, STALE for another revision than the notice's, RANGE, STATE for a
changed start in force, ONE_WAY for an earlier end of a SEASONAL notice in force; a refusal of a listed notice carries its
id, revision and state. Else the fields are replaced, the revision goes up by 1 modulo 256, the state is kept until the
evaluation that follows with a VALID clock. An IN_FORCE notice gains its NOTICE source on the segments that it newly lists and
loses it on those that it no longer lists, unless that evaluation ends it: then its source is on none of its segments, old or new
(R128, R129, R133 to R135). Which refusals carry the notice's fields is the model's reading (log 12). -/
def Obligations.NoticeAmendReplacesTheFields : Prop :=
  ∀ (l : Link) (id revision : Byte) (body : NoticeBody) (s : State), Ready l s → segListFits body.segs = true →
    NoticeLaw s →
    ∃ t, exec (.noticeAmend l id revision body) s = .next t ∧
      ((∀ m ∈ s.notices.list, m.id ≠ id.toNat) →
        (l ≠ .valley → Refused l 0x09 .authority s t) ∧
        (l = .valley → s.commissioned = false → Refused l 0x09 .state s t) ∧
        (l = .valley → s.commissioned = true → Refused l 0x09 .unknownId s t)) ∧
      ∀ n ∈ s.notices.list, n.id = id.toNat →
        let h := heardState l s
        let refused (r : Result) : Prop := t = (afterHearing l s).startReply l 0x09 (r.code ::
          (byte1 n.id ++ byte1 n.revision ++ byte1 n.state.code))
        let current : Prop := n.revision = revision.toNat
        let fixedStart : Prop := n.state = .inForce → body.start.toNat = n.start
        let later : Prop := n.state = .inForce → n.kind = .seasonal → body.stop = none ∨
          ∃ new old, body.stop = some new ∧ n.stop = some old ∧ old ≤ new.toNat
        (l ≠ .valley → refused .authority) ∧
        (l = .valley → s.commissioned = false → refused .state) ∧
        (l = .valley → s.commissioned = true → ¬ current → refused .stale) ∧
        (l = .valley → s.commissioned = true → current → ¬ BodyOk s.road body → refused .range) ∧
        (l = .valley → s.commissioned = true → current → BodyOk s.road body → ¬ fixedStart → refused .state) ∧
        (l = .valley → s.commissioned = true → current → BodyOk s.road body → fixedStart → ¬ later →
          refused .oneWay) ∧
        (l = .valley → s.commissioned = true → current → BodyOk s.road body → fixedStart → later →
          ∃ n' : Notice, Carries n' body ∧ n'.id = n.id ∧ n'.kind = n.kind ∧ n'.state = n.state ∧
            n'.revision = (n.revision + 1) % 256 ∧ t.notices.clock = s.notices.clock ∧
            ListBecomes t (fun m => m = n' ∨ (m ∈ s.notices.list ∧ m ≠ n)) ∧
            KeepsBut [.notices, .links, .road, .board] h t ∧ OnlyKind .notice h t ∧
            (∃ f, Includes Attn.notice f ∧ Answered l 0x09 ((0x00 : Byte) :: byte1 n.id ++ byte1 n'.revision ++ byte1
              (if s.notices.clock.valid = true then
                match afterEvaluation s.notices.clock.value n' with | some m => m.state.code | none => 3
              else n'.state.code)) f h t) ∧
            let free (i : SegId) : Prop := ∀ sg e, t.road.segs.get i = some sg →
              sg.holds.entry .notice = some e → n.id ∉ e.sources
            let ends : Prop := s.notices.clock.valid = true ∧ afterEvaluation s.notices.clock.value n' = none
            (n.state = .inForce → ¬ ends →
              (∀ i ∈ n'.segs, i ∉ n.segs → HasSource t i .notice n.id) ∧ ∀ i ∈ n.segs, i ∉ n'.segs → free i) ∧
            (n.state = .inForce → ends → ∀ i, i ∈ n.segs ∨ i ∈ n'.segs → free i))

/-- NOTICE_WITHDRAW: AUTHORITY off the valley link, STATE while uncommissioned, UNKNOWN_ID, STATE when in force; else the notice
leaves the list, and no hold changes. NOTICE_LIFT: taken on the valley link, or for a SCHEDULED notice on the panel while
the valley link is SILENT, with the key in OPERATE or SERVICE; STATE unless in force; else the notice leaves the list and
its id every NOTICE entry of its segments. Both set NOTICE attention and answer with the id (R136 to R138). -/
def Obligations.NoticesAreWithdrawnAndLifted : Prop :=
  ∀ (l : Link) (id : Byte) (s : State), Ready l s → NoticeLaw s →
    let h := heardState l s
    let listed (n : Notice) : Prop := n ∈ s.notices.list ∧ n.id = id.toNat
    let gone (t : State) (kind : Byte) (n : Notice) : Prop :=
      t.notices = { s.notices with list := s.notices.list.filter fun m => m ≠ n } ∧
      KeepsBut [.notices, .links, .road, .board] h t ∧
      ∃ f, Includes Attn.notice f ∧ Answered l kind (0x00 :: byte1 n.id) f h t
    (∃ t, exec (.noticeWithdraw l id) s = .next t ∧
      (l ≠ .valley → Refused l 0x0A .authority s t) ∧
      (l = .valley → s.commissioned = false → Refused l 0x0A .state s t) ∧
      (l = .valley → s.commissioned = true → (∀ n, ¬ listed n) → Refused l 0x0A .unknownId s t) ∧
      ∀ n, l = .valley → s.commissioned = true → listed n →
        (n.state = .inForce → Refused l 0x0A .state s t) ∧
        (n.state ≠ .inForce → gone t 0x0A n ∧ SameRoad h t)) ∧
    ∃ t, exec (.noticeLift l id) s = .next t ∧
      (l = .avalanche ∨ (l = .panel ∧ s.links.valley.active = true) → Refused l 0x0B .authority s t) ∧
      (l = .panel → s.links.valley.active = false → s.key = .locked → Refused l 0x0B .key s t) ∧
      (ValleyOrSilentPanel s l → s.commissioned = false → Refused l 0x0B .state s t) ∧
      (ValleyOrSilentPanel s l → s.commissioned = true → (∀ n, ¬ listed n) → Refused l 0x0B .unknownId s t) ∧
      ∀ n, ValleyOrSilentPanel s l → s.commissioned = true → listed n →
        (l = .panel → n.kind = .seasonal → Refused l 0x0B .authority s t) ∧
        ((l = .panel → n.kind = .scheduled) → n.state ≠ .inForce → Refused l 0x0B .state s t) ∧
        ((l = .panel → n.kind = .scheduled) → n.state = .inForce → gone t 0x0B n ∧ OnlyKind .notice h t ∧
          ∀ i ∈ n.segs, ∀ sg e, t.road.segs.get i = some sg → sg.holds.entry .notice = some e → n.id ∉ e.sources)

-- ================================================================ signs (chapters 8 and 9)

/-- SIGN_OVERRIDE: AUTHORITY off the valley link, STATE while uncommissioned, RANGE for a sign above 11, a page above 127 or
a format above 3. Else the override of that sign alone is replaced or removed, its field values kept as sent; the reply
carries the sign and its desired class; no attention is set and no hold changes. The sign is selected again: its class is
the first of the priority list that applies, its reference the class's map entry with the values of its sources (the
override itself for OVERRIDE), its page composed, its urgency and need judged; an equal reference leaves the page as it was
(log 9), a new one marks the transfer to this sign and has warning confirmation judged; then the arbiter acts (R162, log 31)
(R11, R146 to R153, R155, R170, R182). Composition: a marker's run takes the five rendered characters of its field, cut at
its block's end, and the four blocks compose independently (R142); a field renders right-aligned in its format, clamped, an
absent one as five spaces (R143). -/
def Obligations.SignOverrideIsRecorded : Prop :=
  (∀ (l : Link) (sign : Byte) (o : Option OverrideBody) (s : State), Ready l s →
    ∃ t, exec (.signOverride l sign o) s = .next t ∧
      let fits : Prop := ∀ b, o = some b →
        b.page.toNat ≤ 127 ∧ b.fieldA.format.toNat ≤ 3 ∧ b.fieldB.format.toNat ≤ 3
      let field (f : OverrideField) : Option Field :=
        if f.format = 0 then none
        else some { format := if f.format = 1 then .integer else if f.format = 2 then .tenths else .time,
                    value := f.value.toInt }
      let ref (b : OverrideBody) : PageRef :=
        { page := b.page.toNat, fieldA := field b.fieldA, fieldB := field b.fieldB, flash := b.flash }
      (l ≠ .valley → Refused l 0x0C .authority s t) ∧
      (l = .valley → s.commissioned = false → Refused l 0x0C .state s t) ∧
      (l = .valley → s.commissioned = true → 12 ≤ sign.toNat ∨ ¬ fits → Refused l 0x0C .range s t) ∧
      ∀ i : SignId, l = .valley → s.commissioned = true → sign.toNat = i.val → fits →
        let h := heardState l s
        let u : State := { h with board := { h.board with
          signs := put h.board.signs i { h.board.signs.get i with override := o.map ref } } }
        KeepsBut [.links, .road, .board] h t ∧ SameRoad h t ∧
        (∀ j, (t.board.signs.get j).override = if j = i then o.map ref else (h.board.signs.get j).override) ∧
        Answered l 0x0C ([0x00, sign] ++ (match (t.board.signs.get i).desired with
          | some d => byte1 d.cls.idx.val | none => [])) 0 h t ∧
        (¬ Releases l s → ∃ (board : Board) (changed : Bool), Selects u i board (changed = true) ∧
          t.board = board.arbitrate ∧ (changed = false → t.road = h.road) ∧
          (changed = true → JudgesWarning i board h t)) ∧
        ∀ b sg, o = some b → h.road.segs.get (s.board.signs.get i).segment = some sg →
          sg.state = .opened → s.latch.state = .clear →
          ∃ d, (t.board.signs.get i).desired = some d ∧ d.ref = ref b) ∧
  (∀ (page : List Byte) (ref : PageRef), ∃ F, Composes (renderOpt ref.fieldA) (renderOpt ref.fieldB) F ∧
    compose page ref = F (page.take 20) ++ F ((page.drop 20).take 20) ++ F ((page.drop 40).take 20) ++
      F ((page.drop 60).take 20)) ∧
  ∀ f : Option Field, Renders f (renderOpt f)

/-- The arbiter gives a free line to the first urgent eligible sign after the last-served mark, else to the first eligible one,
beginning its transfer with SELECT, else to the first due probe after the probe mark; a busy line and a line that nobody
needs stay as they are (R162 to R164). The empty unit order of a new transfer is the model's reading (log 26). -/
def Obligations.ArbiterServesInItsOrder : Prop :=
  ∀ (b : Board),
    let first (mark : SignId) (p : SignId → Prop) (i : SignId) : Prop :=
      p i ∧ ∀ j, p j → (i.val + 11 - mark.val) % 12 ≤ (j.val + 11 - mark.val) % 12
    let eligible (i : SignId) : Prop := (b.signs.get i).needs = true ∧ (b.signs.get i).desired.isSome = true ∧
      ((b.line.records.get i).state = .stale ∨ (b.line.records.get i).state = .current)
    let urgent (i : SignId) : Prop := eligible i ∧ (b.signs.get i).urgent = true
    let due (i : SignId) : Prop := (b.line.records.get i).state = .fault ∧ (b.line.records.get i).probe = .expired
    let transferOf (i : SignId) (d : Desired) : Transfer := {
      target := i, page := { ref := d.ref, codes := d.codes, sum := d.sum }, phase := .selecting, units := [],
      next := 0, retryUsed := false, breaks := 0, mismatchUsed := false, changePending := false,
      silentOnce := false }
    let begun (i : SignId) : Prop := ∀ d, (b.signs.get i).desired = some d →
      b.arbitrate.signs = b.signs ∧ b.arbitrate.line.lastServed = i ∧
      b.arbitrate.line.records = put b.line.records i { b.line.records.get i with state := .sending } ∧
      b.arbitrate.line.transfer = some (transferOf i d) ∧
      b.arbitrate.line.sent = some ⟨selectFrame i false, none⟩ ∧ b.arbitrate.line.probeMark = b.line.probeMark
    (b.line.transfer.isSome = true ∨ b.line.probing.isSome = true → b.arbitrate = b) ∧
    (b.line.transfer = none → b.line.probing = none →
      (∀ i, first b.line.lastServed urgent i → begun i) ∧
      ((∀ i, ¬ urgent i) → ∀ i, first b.line.lastServed eligible i → begun i) ∧
      ((∀ i, ¬ eligible i) → ∀ i, first b.line.probeMark due i →
        b.arbitrate.signs = b.signs ∧ b.arbitrate.line.probing = some i ∧ b.arbitrate.line.transfer = none ∧
        b.arbitrate.line.probeMark = i ∧ b.arbitrate.line.lastServed = b.line.lastServed ∧
        b.arbitrate.line.sent = some ⟨probeFrame i, none⟩) ∧
      ((∀ i, ¬ eligible i) → (∀ i, ¬ due i) → b.arbitrate = b))

/-- The events around the frames of the line. The last byte of the frame sent last leaves: its reply window opens at 200 ms
(the model's reading, log 33; that a frame ended by a restart or a COMMIT is cut off, log 45). A received frame is discarded
when its start byte is not 0x5A, its check fails, its length byte disagrees with its length, its kind is none of the five a
sign sends, its length does not fit its kind, its address is not that of the sign last addressed, or no window is open; so
is a reply without an open window or from another sign. A probe timer that runs out makes its probe due, sent at once on a
free line that no sign needs, its timer stopped while it awaits the reply (log 26) (R158, R159, R163). -/
def Obligations.LineFramesOpenAndDiscard : Prop :=
  ∀ (s : State),
    (∀ b, s.board.line.sent = some ⟨b, none⟩ → exec .signFrameSent s = .next { s with
      board := { s.board with line := { s.board.line with sent := some ⟨b, some 200⟩ } } }) ∧
    (∀ frame : List Byte,
      let discarded : Prop := exec (.signFrameDiscard frame) s = .next s
      (frame.length < 5 ∨ frame.head? ≠ some 0x5A ∨ s.board.line.windowOpen = false → discarded) ∧
      ∀ start address kind n rest, frame = start :: address :: kind :: n :: rest →
        let length : Nat := if kind = 0x11 then 3 else if kind = 0x15 then 2 else 0
        (rest.length ≠ n.toNat + 1 → discarded) ∧
        (((frame.drop 1).map BitVec.toNat).sum % 256 ≠ 0 → discarded) ∧
        (kind.toNat < 0x11 ∨ 0x15 < kind.toNat → discarded) ∧ (n.toNat ≠ length → discarded) ∧
        ((∀ i, s.board.line.addressed = some i → address.toNat ≠ 0x80 + i.val) → discarded)) ∧
    (∀ i, s.board.line.windowOpen = false ∨ s.board.line.addressed ≠ some i →
      (∀ w sum, exec (.ready i w sum) s = .next s) ∧ exec (.take i) s = .next s ∧ exec (.pause i) s = .next s ∧
      exec (.refuse i) s = .next s ∧ ∀ sum, exec (.signShown i sum) s = .next s) ∧
    ∀ i, (s.board.line.records.get i).state = .fault → (s.board.line.records.get i).probe = .running 0 →
      ∃ t, exec (.probeTimerExpiry i) s = .next t ∧ KeepsBut [.board] s t ∧ t.board.signs = s.board.signs ∧
        (s.board.line.transfer.isSome = true ∨ s.board.line.probing.isSome = true →
          t.board.line = { s.board.line with
            records := put s.board.line.records i { s.board.line.records.get i with probe := .expired } }) ∧
        (s.board.line.transfer = none → s.board.line.probing = none → (∀ j, s.board.eligible j = false) →
          (∀ j, s.board.probeDue j = false) →
          t.board.line = { s.board.line with
            records := put s.board.line.records i { s.board.line.records.get i with probe := .stopped },
            probing := some i, probeMark := i, sent := some ⟨probeFrame i, none⟩ })

/-- The replies of a transfer within its window, while no change is pending. READY to SELECT records the width and starts
the unit order: all four blocks are counted as changed without a confirmed page, after a mismatch, or when the sum or the
width differs, else those whose codes differ from the confirmed page's; from the lowest changed block L the order is L, L
xor 2, L xor 1, L xor 3 without the unchanged ones, each block whole on a FULL sign and in two halves on a HALF one. READY
to a resuming SELECT goes on with the same unit; TAKE goes to the next unit or to SHOW; PAUSE is a break, the ninth of a
transfer FAULT STALLED; a first REFUSE, or a reply of another kind than the frame expects, sends the frame again, a second
one is FAULT REJECTED, and such a READY records no width (log 23); SHOWN with the page sum makes the sign CURRENT with the
page confirmed, content mark and need cleared, with another sum it repeats the transfer once with all blocks (its unit order
empty until the READY, log 26), then FAULT MISMATCH. CURRENT and FAULT are handed to the segment table, which judges warning
confirmation; no hold changes (R11, R159, R164 to R169, R171). -/
def Obligations.SignRepliesMoveTheTransfer : Prop :=
  ∀ (s : State) (tr : Transfer) (f : List Byte) (w : Nat), s.board.line.transfer = some tr →
    s.board.line.probing = none → s.board.line.sent = some ⟨f, some w⟩ → tr.changePending = false →
    let i := tr.target
    let goesOn (t : State) (b : Board) (tr' : Transfer) : Prop :=
      KeepsBut [.links, .board] s t ∧ Gains 0 s t ∧ t.board = { b with line := { b.line with
        transfer := some tr', sent := some ⟨tr'.frame, none⟩ } }
    let failed (c : SignFault) : LineRecord := { s.board.line.records.get i with
      state := .fault, cause := some c, probe := .running 60000 }
    let fails (t : State) (c : SignFault) : Prop :=
      KeepsBut [.links, .board, .road] s t ∧ SameRoad s t ∧ Gains Attn.sign s t ∧ t.board.signs = s.board.signs ∧
      t.board.line.records.get i = failed c ∧
      JudgesWarning i { s.board with line := { s.board.line with records := put s.board.line.records i (failed c) } } s t
    let widened (width : Width) : Board := { s.board with line := { s.board.line with
      records := put s.board.line.records i { s.board.line.records.get i with width := width } } }
    let resends (c : Instr) : Prop :=
      if tr.retryUsed then ∃ t, exec c s = .next t ∧ fails t .rejected
      else ∃ t, exec c s = .next t ∧ goesOn t s.board { tr with retryUsed := true }
    let codesOf (codes : List Byte) (k : Fin 4) : List Byte := (codes.drop (20 * k.val)).take 20
    let changed (width : Width) (sum : Nat) (k : Fin 4) : Bool := match (s.board.line.records.get i).confirmed with
      | none => true
      | some c => tr.mismatchUsed || sum != c.sum || width != (s.board.line.records.get i).width ||
          codesOf tr.page.codes k != codesOf c.codes k
    let unitsOf (width : Width) (k : Fin 4) : List PageUnit :=
      if width = .full then [⟨k, .whole⟩] else [⟨k, .first⟩, ⟨k, .second⟩]
    resends (.refuse i) ∧
    (tr.phase = .selecting → ∀ width (sum : Word16), ∃ t, exec (.ready i width sum) s = .next t ∧
      let starts (units : List PageUnit) : Prop := goesOn t (widened width) { tr with
        units := units, next := 0, retryUsed := false, silentOnce := false,
        phase := if units = [] then .showing else .sendingUnits }
      ((∀ k, changed width sum.toNat k = false) → starts []) ∧
      ∀ lead : Fin 4, changed width sum.toNat lead = true → (∀ k, k < lead → changed width sum.toNat k = false) →
        starts (([lead, lead ^^^ 2, lead ^^^ 1, lead ^^^ 3].filter (changed width sum.toNat)).flatMap (unitsOf width))) ∧
    (tr.phase = .resuming → tr.next < tr.units.length → ∀ width sum, ∃ t, exec (.ready i width sum) s = .next t ∧
      goesOn t (widened width) { tr with retryUsed := false, silentOnce := false, phase := .sendingUnits }) ∧
    (tr.phase = .sendingUnits →
      (∃ t, exec (.take i) s = .next t ∧ goesOn t s.board { tr with
        next := tr.next + 1, retryUsed := false, silentOnce := false,
        phase := if tr.next + 1 < tr.units.length then .sendingUnits else .showing }) ∧
      (tr.breaks < 8 → ∃ t, exec (.pause i) s = .next t ∧ goesOn t s.board { tr with
        breaks := tr.breaks + 1, phase := .resuming, retryUsed := false, silentOnce := false }) ∧
      (8 ≤ tr.breaks → ∃ t, exec (.pause i) s = .next t ∧ fails t .stalled)) ∧
    (tr.phase ≠ .sendingUnits → resends (.take i) ∧ resends (.pause i)) ∧
    (tr.phase ≠ .selecting → tr.phase ≠ .resuming → ∀ width sum, resends (.ready i width sum)) ∧
    (tr.phase ≠ .showing → ∀ sum, resends (.signShown i sum)) ∧
    (tr.phase = .showing → ∀ sum : Word16,
      let shows : LineRecord := { s.board.line.records.get i with state := .current, confirmed := some tr.page }
      (sum.toNat = tr.page.sum → ∃ t, exec (.signShown i sum) s = .next t ∧
        KeepsBut [.links, .board, .road] s t ∧ SameRoad s t ∧ Gains 0 s t ∧
        t.board.signs = put s.board.signs i { s.board.signs.get i with contentMark := false, needs := false } ∧
        t.board.line.records.get i = shows ∧
        JudgesWarning i { s.board with line := { s.board.line with records := put s.board.line.records i shows } } s t) ∧
      (sum.toNat ≠ tr.page.sum → tr.mismatchUsed = false → ∃ t, exec (.signShown i sum) s = .next t ∧
        goesOn t s.board { tr with
          mismatchUsed := true, phase := .selecting, units := [], next := 0, retryUsed := false, silentOnce := false }) ∧
      (sum.toNat ≠ tr.page.sum → tr.mismatchUsed = true →
        ∃ t, exec (.signShown i sum) s = .next t ∧ fails t .mismatch))

/-- The reply window runs out: the frame of a transfer is sent again once, and its second failure by silence is FAULT
NO_REPLY. With a change pending the frame is not sent again: any reply, and the first silence of the frame also where a
REFUSE has used the retry, abandon the transfer, which hands nothing on, sets no attention, leaves the sign needing service
and keeps its confirmed page and content mark; a READY that fits records its width also then (R160, R164, log 23); but a
SHOWN with the page sum ends it with the sign CURRENT, the page sent confirmed, the content mark cleared and needing
service. A probe that is not answered with READY restarts its timer at 60 s, and a READY to a probe takes the sign out of
FAULT with SIGN attention. FAULT, CURRENT and leaving FAULT are handed to the segment table, which judges warning
confirmation (R11, R159, R166, R168 to R172). That a second silence of one frame is FAULT NO_REPLY also with a change
pending is the model's reading (log 22). -/
def Obligations.SilenceAndPendingChangesEndTheFrame : Prop :=
  ∀ (s : State) (f : List Byte) (w : Nat), s.board.line.sent = some ⟨f, some w⟩ →
    let recorded (i : SignId) (r : LineRecord) : Board :=
      { s.board with line := { s.board.line with records := put s.board.line.records i r } }
    let abandoned (t : State) (i : SignId) : Prop :=
      KeepsBut [.links, .board] s t ∧ Gains 0 s t ∧ (t.board.signs.get i).needs = true ∧
      (t.board.line.records.get i).state ≠ .current ∧ (t.board.line.records.get i).state ≠ .fault ∧
      (t.board.line.records.get i).confirmed = (s.board.line.records.get i).confirmed ∧
      (t.board.signs.get i).contentMark = (s.board.signs.get i).contentMark ∧
      ∀ tr', t.board.line.transfer = some tr' → tr'.changePending = false ∧ tr'.phase = .selecting ∧
        tr'.retryUsed = false ∧ tr'.breaks = 0 ∧ tr'.mismatchUsed = false
    (∀ tr, s.board.line.transfer = some tr → s.board.line.probing = none →
      let i := tr.target
      let failed : LineRecord := { s.board.line.records.get i with
        state := .fault, cause := some .noReply, probe := .running 60000 }
      let shows : LineRecord := { s.board.line.records.get i with state := .current, confirmed := some tr.page }
      (w = 0 → tr.changePending = false → tr.retryUsed = false → ∃ t, exec .replyWindowExpiry s = .next t ∧
        KeepsBut [.links, .board] s t ∧ Gains 0 s t ∧ t.board = { s.board with line := { s.board.line with
          transfer := some { tr with retryUsed := true, silentOnce := true }, sent := some ⟨tr.frame, none⟩ } }) ∧
      (w = 0 → (tr.changePending = false ∧ tr.retryUsed = true) ∨ (tr.changePending = true ∧ tr.silentOnce = true) →
        ∃ t, exec .replyWindowExpiry s = .next t ∧
        KeepsBut [.links, .board, .road] s t ∧ SameRoad s t ∧ Gains Attn.sign s t ∧
        t.board.line.records.get i = failed ∧ JudgesWarning i (recorded i failed) s t) ∧
      (w = 0 → tr.changePending = true → tr.silentOnce = false →
        ∃ t, exec .replyWindowExpiry s = .next t ∧ abandoned t i) ∧
      (tr.changePending = true →
        (∀ width sum, ∃ t, exec (.ready i width sum) s = .next t ∧ abandoned t i ∧
          (tr.phase = .selecting ∨ tr.phase = .resuming → (t.board.line.records.get i).width = width)) ∧
        (∃ t, exec (.take i) s = .next t ∧ abandoned t i) ∧
        (∃ t, exec (.pause i) s = .next t ∧ abandoned t i) ∧
        (∃ t, exec (.refuse i) s = .next t ∧ abandoned t i) ∧
        ∀ sum : Word16,
          (tr.phase = .showing ∧ sum.toNat = tr.page.sum → ∃ t, exec (.signShown i sum) s = .next t ∧
            KeepsBut [.links, .board, .road] s t ∧ SameRoad s t ∧ Gains 0 s t ∧
            t.board.signs = put s.board.signs i { s.board.signs.get i with contentMark := false, needs := true } ∧
            (t.board.line.records.get i = shows ∨
              (t.board.line.records.get i = { shows with state := .sending } ∧
                ∃ tr', t.board.line.transfer = some tr' ∧ tr'.target = i ∧ tr'.phase = .selecting)) ∧
            JudgesWarning i (recorded i shows) s t) ∧
          (tr.phase ≠ .showing ∨ sum.toNat ≠ tr.page.sum →
            ∃ t, exec (.signShown i sum) s = .next t ∧ abandoned t i))) ∧
    ∀ i, s.board.line.probing = some i → s.board.line.transfer = none →
      (s.board.line.records.get i).state = .fault →
      let unanswered (c : Instr) : Prop := ∃ t, exec c s = .next t ∧ KeepsBut [.links, .board] s t ∧ Gains 0 s t ∧
        t.board.signs = s.board.signs ∧ t.board.line.records.get i = { s.board.line.records.get i with
          probe := .running 60000 }
      (w = 0 → unanswered .replyWindowExpiry) ∧ unanswered (.take i) ∧ unanswered (.pause i) ∧
      unanswered (.refuse i) ∧ (∀ sum, unanswered (.signShown i sum)) ∧
      ∀ width sum, ∃ t, exec (.ready i width sum) s = .next t ∧
        KeepsBut [.links, .board, .road] s t ∧ SameRoad s t ∧ Gains Attn.sign s t ∧
        (t.board.signs.get i).needs = true ∧ (t.board.line.records.get i).state ≠ .fault ∧
        (t.board.line.records.get i).cause = none ∧ (t.board.line.records.get i).width = width ∧
        JudgesWarning i (recorded i { s.board.line.records.get i with
          state := .stale, cause := none, probe := .stopped, width := width }) s t

-- ================================================================ field restart (chapter 10)

/-- FIELD_RESTART: AUTHORITY on the avalanche link, KEY on the panel unless SERVICE, STATE while uncommissioned. Else every
count is 0 with its last result kept, a PRESENT carrier has its counter reloaded, the measurement epoch is this moment, the
accumulators of the sites in use are empty and everything else of them stands, every qualification count is 0 with PENDING
back to QUIET and the other states kept; the line drops the transfer or probe in flight: every sign not in FAULT needs
service and is STALE, but for the target of a transfer that the arbiter then begins afresh, a sign whose probe awaited its
reply has its probe timer at 60 s, a probe in flight afterwards is one that was due and is sent anew, confirmed pages,
widths, content marks and causes are kept, and no outcome is handed on; segments, gates, latch, notices, key and store stand
(R28, R48, R60, R77, R99, R120, R140, R174, R191). The empty unit order and next unit 0 of the transfer begun, and the
stopped timer of a probe in flight, are the model's reading (log 26). -/
def Obligations.FieldRestartRealigns : Prop :=
  ∀ (l : Link) (s : State), Ready l s →
    ∃ t, exec (.fieldRestart l) s = .next t ∧
      let entitled : Prop := l = .valley ∨ (l = .panel ∧ s.key = .service)
      (l = .avalanche → Refused l 0x14 .authority s t) ∧
      (l = .panel → s.key ≠ .service → Refused l 0x14 .key s t) ∧
      (entitled → s.commissioned = false → Refused l 0x14 .state s t) ∧
      (entitled → s.commissioned = true →
        let h := heardState l s
        KeepsHeard [.field, .sites, .zoneUnit, .board, .links] l s t ∧
        (∃ f, Answered l 0x14 [0x00] f h t ∧ Within Attn.detector f) ∧ t.field.sinceEpoch = 0 ∧
        t.field.keyA = s.field.keyA ∧ t.field.keyB = s.field.keyB ∧
        (∀ c, let old := s.field.channels.get c
          t.field.channels.get c = { old with
            count := 0, gatesEnded := 0,
            carrier := old.carrier.map fun k =>
              if k.present then { k with counter := some k.limit, phase := 0 } else k }) ∧
        (∀ i, t.sites.get i = if (s.sites.get i).inUse
          then { s.sites.get i with acc := ⟨0, 0, 0, none, none⟩, periodsEnded := 0 } else s.sites.get i) ∧
        t.zoneUnit.zones = s.zoneUnit.zones ∧
        (∀ c, t.zoneUnit.quals.get c = (s.zoneUnit.quals.get c).map fun q => match q.state with
          | .confirmed => { q with count := 0 }
          | .failed => { q with count := 0 }
          | _ => { q with state := .quiet, count := 0, test := false }) ∧
        let line := t.board.line
        (∀ j, let old := s.board.line.records.get j
          let new := line.records.get j
          new.confirmed = old.confirmed ∧ new.width = old.width ∧ new.cause = old.cause ∧
          (if old.state = .fault then new.state = .fault
            else (t.board.signs.get j).needs = true ∧ (new.state = .stale ∨
              (new.state = .sending ∧ line.transfer.map (·.target) = some j))) ∧
          (line.probing = some j → new.probe = .stopped) ∧ (line.probing ≠ some j →
            new.probe = if s.board.line.probing = some j then .running 60000 else old.probe)) ∧
        (∀ tr, line.transfer = some tr → line.probing = none ∧ line.lastServed = tr.target ∧
          line.sent = some ⟨selectFrame tr.target false, none⟩ ∧ tr.phase = .selecting ∧ tr.units = [] ∧ tr.next = 0 ∧
          tr.retryUsed = false ∧ tr.silentOnce = false ∧ tr.breaks = 0 ∧ tr.mismatchUsed = false ∧
          tr.changePending = false) ∧
        (∀ j, line.probing = some j → line.transfer = none ∧ (s.board.line.records.get j).state = .fault ∧
          (s.board.line.records.get j).probe = .expired ∧ line.sent = some ⟨probeFrame j, none⟩) ∧
        (line.transfer = none → line.probing = none → line.sent = none) ∧
        (¬ Releases l s → t.road = h.road ∧
          ∀ j, (t.board.signs.get j).desired = (s.board.signs.get j).desired ∧
            (t.board.signs.get j).contentMark = (s.board.signs.get j).contentMark ∧
            (t.board.signs.get j).urgent = (s.board.signs.get j).urgent ∧
            ((s.board.line.records.get j).state = .fault →
              (t.board.signs.get j).needs = (s.board.signs.get j).needs)))

-- ================================================================ laws that every step keeps

/-- Every step keeps each attention line asserted exactly while its attention and enable sets have a flag in common (R187). -/
def Obligations.StepKeepsTheAttentionLines : Prop :=
  ∀ s t : State, LineLaw s → step s = .next t → LineLaw t

/-- Every step keeps the laws of single records: rings, reported values and grip score of a site, levels and flags of a zone,
drives, cause, check and timer of a gate (R29, R31, R90, R91, R102). -/
def Obligations.StepKeepsTheRecordLaws : Prop :=
  ∀ s t : State, RecordLaws s → step s = .next t → RecordLaws t

/-- Every step keeps the notice list in its order, with distinct ids of 1..16, and its times in their ranges (R126, R131). -/
def Obligations.StepKeepsTheNoticeList : Prop :=
  ∀ s t : State, NoticeLaw s → step s = .next t → NoticeLaw t

/-- Every step keeps the segment laws and the law of full closure: a segment with holds is in WARNING, CLOSING or CLOSED, and
while the latch is not CLEAR every configured segment holds FULL and is in CLOSING or CLOSED (R4, R9, R10, R50). -/
def Obligations.StepKeepsTheSegmentLaws : Prop :=
  ∀ s t : State, SegmentLaws s → step s = .next t → SegmentLaws t

/-- Every step keeps the law of the sign line: at most one transfer or probe in flight, its target the one sign in SENDING or a
sign in FAULT, and a fault cause exactly in FAULT (R160, R161). -/
def Obligations.StepKeepsTheSignLine : Prop :=
  ∀ s t : State, SignLineLaw s → step s = .next t → SignLineLaw t

/-- Every step keeps every standing cause in the hold sets of its segments: no CONFIRMED or FAILED detector, no zone in closure,
no notice in force and no reported grade 4 or wind class 2 loses its hold while it stands. And every step keeps every source
true: a DETECTOR, ZONE, NOTICE or WEATHER source stands only while its cause does (R94, R105, R113, R129). -/
def Obligations.StepKeepsEveryStandingCause : Prop :=
  (∀ s t : State, NoticeLaw s → CauseLaw s → step s = .next t → CauseLaw t) ∧
    ∀ s t : State, NoticeLaw s → SourceLaw s → step s = .next t → SourceLaw t

/-- Every step keeps the demands in line with the segments, and so a raising drive is energised only while none of the segments
that list its gate is in CLOSING or CLOSED (R31, R32). -/
def Obligations.StepKeepsTheRaisingLaw : Prop :=
  ∀ s t : State, RoadLaw s → step s = .next t → RoadLaw t ∧ RaisingLaw t

/-- All of these laws hold of the state after reset, whose store is blank and whose inputs are idle by the model's choice
(logs 1 and 2). -/
def Obligations.LawsHoldAtReset : Prop :=
  LineLaw State.reset ∧ RecordLaws State.reset ∧ NoticeLaw State.reset ∧ SegmentLaws State.reset ∧
    SignLineLaw State.reset ∧ CauseLaw State.reset ∧ SourceLaw State.reset ∧ RoadLaw State.reset ∧ RaisingLaw State.reset

end
end

