-- ==== Sys2Proof/Laws/Tables.lean ====
section
/-! SUPPORT. What the table operations of Ops do: reading a record after `put`, `alter` and `mapIds`, membership in the
ascending id lists, and the sets of source numbers. -/

namespace Sys2Proof.Machine

variable {α β : Type} {n : Nat}

@[simp] theorem get_put_same (v : Vector α n) (i : Fin n) (x : α) : (put v i x).get i = x := by
  simp [put, Vector.get_eq_getElem]

theorem get_put_other (v : Vector α n) {i j : Fin n} (x : α) (h : i ≠ j) : (put v i x).get j = v.get j := by
  have h' : i.val ≠ j.val := fun e => h (Fin.ext e)
  simp [put, Vector.get_eq_getElem, h']

theorem get_put (v : Vector α n) (i j : Fin n) (x : α) : (put v i x).get j = if i = j then x else v.get j := by
  by_cases h : i = j
  · subst h; simp
  · simp [h, get_put_other v x h]

@[simp] theorem get_alter_same (v : Vector α n) (i : Fin n) (f : α → α) : (alter v i f).get i = f (v.get i) := by
  simp [alter]

theorem get_alter_other (v : Vector α n) {i j : Fin n} (f : α → α) (h : i ≠ j) : (alter v i f).get j = v.get j :=
  get_put_other v _ h

theorem get_alter (v : Vector α n) (i j : Fin n) (f : α → α) :
    (alter v i f).get j = if i = j then f (v.get i) else v.get j := get_put v i j _

@[simp] theorem get_mapIds (f : Fin n → α → β) (v : Vector α n) (i : Fin n) : (mapIds f v).get i = f i (v.get i) := by
  simp [mapIds, Vector.get_eq_getElem]

@[simp] theorem get_ofFn (f : Fin n → α) (i : Fin n) : (Vector.ofFn f).get i = f i := by
  simp [Vector.get_eq_getElem]

@[simp] theorem get_replicate (x : α) (i : Fin n) : (Vector.replicate n x).get i = x := by
  simp [Vector.get_eq_getElem]

/-- Two tables with the same records are the same table. -/
theorem table_ext {v w : Vector α n} (h : ∀ i, v.get i = w.get i) : v = w := by
  apply Vector.ext
  intro i hi
  simpa [Vector.get_eq_getElem] using h ⟨i, hi⟩

@[simp] theorem mem_idsWhere (p : Fin n → Bool) (i : Fin n) : i ∈ idsWhere p ↔ p i = true := by
  simp [idsWhere]

@[simp] theorem mem_setIds (v : Vector Bool n) (i : Fin n) : i ∈ setIds v ↔ v.get i = true := by
  simp [setIds]

@[simp] theorem setIds_replicate_false : setIds (Vector.replicate n false) = [] := by
  simp [setIds, idsWhere]

@[simp] theorem allIds_iff (p : Fin n → Bool) : allIds p = true ↔ ∀ i, p i = true := by
  simp [allIds]

@[simp] theorem anyId_iff (p : Fin n → Bool) : anyId p = true ↔ ∃ i, p i = true := by
  simp [anyId]

@[simp] theorem mem_insertAsc (x y : Nat) (l : List Nat) : y ∈ insertAsc x l ↔ y = x ∨ y ∈ l := by
  induction l with
  | nil => simp [insertAsc]
  | cons z zs ih =>
    simp only [insertAsc]
    split
    · simp
    · split
      · rename_i h; subst h; simp
      · simp [ih]; tauto

@[simp] theorem mem_removeAsc (x y : Nat) (l : List Nat) : y ∈ removeAsc x l ↔ y ∈ l ∧ y ≠ x := by
  simp [removeAsc]

theorem idOf_eq_some {b : Byte} {i : Fin n} : idOf n b = some i ↔ b.toNat = i.val := by
  unfold idOf
  split
  · simp [Fin.ext_iff]
  · rename_i h
    constructor
    · intro e; cases e
    · intro e; exact absurd (e ▸ i.isLt) h

/-- A timer is due exactly when it runs with nothing left. -/
theorem due_iff (t : Timer) : t.due = true ↔ t = some 0 := by
  unfold Timer.due; simp

end Sys2Proof.Machine
end

