-- ==== Sys2Proof/Laws/Road.lean ====
section
/-! SUPPORT. What the chain of the road can do: an induction principle for it, the fields that it never writes, and the
segment states that it can lead to. -/

namespace Sys2Proof.Machine

/-- A segment record without the fields that the segment state machine writes. -/
def segFrame (sg : Segment) : Segment :=
  { sg with state := .opened, confirmWait := none, warningTimer := none, incomplete := false }

/-- A gate record without the fields that the gate state machine writes. -/
def gateFrame (g : Gate) : Gate :=
  { g with state := .unknown, cause := none, demand := .lower, check := none, timer := none, raiseDrive := false,
           lowerDrive := false }

/-- Two roads agree on everything but what the two state machines write: in particular on every hold set, on the
description's fields and on every switch. -/
def RoadFrame (r r' : Road) : Prop :=
  (∀ i, (r'.segs.get i).map segFrame = (r.segs.get i).map segFrame) ∧
    ∀ g, gateFrame (r'.gates.get g) = gateFrame (r.gates.get g)

theorem RoadFrame.rfl' (r : Road) : RoadFrame r r := ⟨fun _ => rfl, fun _ => rfl⟩

theorem RoadFrame.trans' {a b c : Road} (h : RoadFrame a b) (k : RoadFrame b c) : RoadFrame a c :=
  ⟨fun i => (k.1 i).trans (h.1 i), fun g => (k.2 g).trans (h.2 g)⟩

namespace RoadEv

theorem setSeg_frame (e : RoadEv) (i : SegId) (f : Segment → Segment) (h : ∀ sg, segFrame (f sg) = segFrame sg) :
    RoadFrame e.road (e.setSeg i f).road := by
  refine ⟨fun j => ?_, fun _ => rfl⟩
  show ((alter e.road.segs i (Option.map f)).get j).map segFrame = _
  rw [get_alter]
  split
  · rename_i hij; subst hij
    cases e.road.segs.get i <;> simp [h]
  · rfl

theorem setGate_frame (e : RoadEv) (i : GateId) (f : Gate → Gate)
    (h : gateFrame (f (e.road.gates.get i)) = gateFrame (e.road.gates.get i)) :
    RoadFrame e.road (e.setGate i f).road := by
  refine ⟨fun _ => rfl, fun j => ?_⟩
  show gateFrame ((alter e.road.gates i f).get j) = _
  rw [get_alter]
  split
  · rename_i hij; subst hij; exact h
  · rfl

theorem touch_road (e : RoadEv) (i : SegId) : (e.touch i).road = e.road := rfl

theorem entered_frame (st : SegState) (sg : Segment) : segFrame (entered st sg) = segFrame sg := rfl

theorem judgeWarning_frame (ctx : RoadCtx) (e : RoadEv) (i : SegId) :
    RoadFrame e.road (judgeWarning ctx e i).road := by
  apply setSeg_frame
  intro sg
  split <;> rfl

theorem gateTo_frame (e : RoadEv) (i : GateId) (g : Gate) (rest : List Task)
    (h : gateFrame g = gateFrame (e.road.gates.get i)) : RoadFrame e.road (e.gateTo i g rest).1.road := by
  have := setGate_frame e i (fun _ => g) h
  exact this

theorem enterSeg_frame (ctx : RoadCtx) (e : RoadEv) (i : SegId) (st : SegState) :
    RoadFrame e.road (enterSeg ctx e i st).1.road := by
  unfold enterSeg
  split
  · exact RoadFrame.rfl' _
  · have h1 : RoadFrame e.road ((e.setSeg i (entered st)).touch i).road :=
      setSeg_frame e i (entered st) (entered_frame st)
    dsimp only
    split
    · exact h1.trans' (judgeWarning_frame ctx _ i)
    · exact h1

theorem arrive_frame (g : Gate) : gateFrame g.arrive = gateFrame g := by
  unfold Gate.arrive
  dsimp only
  split
  · rfl
  · split <;> rfl

theorem handSeg_frame (ctx : RoadCtx) (fault : Bool) (i : SegId) (e : RoadEv) :
    RoadFrame e.road (handSeg ctx fault i e).1.road := by
  unfold handSeg
  split
  · exact RoadFrame.rfl' _
  · split
    · exact enterSeg_frame ctx e i .closing
    · exact RoadFrame.rfl' _
  · exact RoadFrame.rfl' _

theorem handAll_frame (ctx : RoadCtx) (fault : Bool) :
    ∀ (l : List SegId) (e : RoadEv), RoadFrame e.road (handAll ctx fault l e).1.road
  | [], e => RoadFrame.rfl' e.road
  | i :: l, e => (handSeg_frame ctx fault i e).trans' (handAll_frame ctx fault l _)

/-- One task writes nothing outside the fields of the two state machines. -/
theorem doTask_frame (ctx : RoadCtx) (t : Task) (e : RoadEv) : RoadFrame e.road (doTask ctx t e).1.road := by
  have hid := RoadFrame.rfl' e.road
  cases t with
  | demand i =>
    simp only [doTask]
    split
    · exact hid
    · exact setGate_frame e i _ rfl
  | apply i =>
    simp only [doTask]
    split <;> first | exact gateTo_frame e i _ _ rfl | exact hid
  | settle i =>
    simp only [doTask]
    split <;> first
      | exact gateTo_frame e i _ _ rfl
      | exact gateTo_frame e i _ _ (arrive_frame _)
      | exact hid
  | resolve i =>
    simp only [doTask]
    split
    · split <;> exact gateTo_frame e i _ _ rfl
    · exact hid
  | handed i fault => exact handAll_frame ctx fault _ e
  | complete i =>
    simp only [doTask]
    split
    · split
      · refine RoadFrame.trans' (setSeg_frame e i _ ?_) (enterSeg_frame ctx _ i .closed)
        exact fun _ => rfl
      · exact hid
    · exact hid
  | done i =>
    simp only [doTask]
    split
    · split
      · exact enterSeg_frame ctx e i .opened
      · exact hid
    · exact hid

/-- What every task keeps, the chain keeps. -/
theorem run_induction (ctx : RoadCtx) (P : RoadEv → Prop) (step : ∀ t e, P e → P (doTask ctx t e).1) :
    ∀ n tasks e, P e → P (run ctx n tasks e)
  | 0, _, _, h => h
  | _ + 1, [], _, h => h
  | n + 1, t :: _, e, h => run_induction ctx P step n _ _ (step t e h)

/-- The same for a property of the road together with the tasks that are left. -/
theorem run_tasks_induction (ctx : RoadCtx) (P : RoadEv → List Task → Prop) (Q : RoadEv → Prop)
    (done : ∀ e l, P e l → Q e)
    (step : ∀ t rest e, P e (t :: rest) → P (doTask ctx t e).1 ((doTask ctx t e).2 ++ rest)) :
    ∀ n tasks e, P e tasks → Q (run ctx n tasks e)
  | 0, _, _, h => done _ _ h
  | _ + 1, [], _, h => done _ _ h
  | n + 1, t :: rest, e, h => run_tasks_induction ctx P Q done step n _ _ (step t rest e h)

/-- The chain writes nothing outside the fields of the two state machines. -/
theorem run_frame (ctx : RoadCtx) (n : Nat) (tasks : List Task) (e : RoadEv) :
    RoadFrame e.road (run ctx n tasks e).road :=
  run_induction ctx (fun x => RoadFrame e.road x.road) (fun t x h => h.trans' (doTask_frame ctx t x)) n tasks e
    (RoadFrame.rfl' _)

theorem chain_frame (ctx : RoadCtx) (r : RoadEv × List Task) : RoadFrame r.1.road (chain ctx r).road :=
  run_frame ctx _ _ _

/-- A segment enters a state, and the chain that follows, from outside. -/
theorem chain_enterSeg_frame (ctx : RoadCtx) (e : RoadEv) (i : SegId) (st : SegState) :
    RoadFrame e.road (chain ctx (enterSeg ctx e i st)).road :=
  (enterSeg_frame ctx e i st).trans' (chain_frame ctx _)

end RoadEv

/-- Roads that agree in this sense have the same configured segments, with the same hold sets. -/
theorem RoadFrame.holds {r r' : Road} (h : RoadFrame r r') (i : SegId) :
    (r'.segs.get i).map (·.holds) = (r.segs.get i).map (·.holds) := by
  have k := congrArg (Option.map Segment.holds) (h.1 i)
  simpa [Option.map_map, Function.comp_def, segFrame] using k

theorem RoadFrame.configured {r r' : Road} (h : RoadFrame r r') (i : SegId) : r'.configured i = r.configured i := by
  have k := congrArg Option.isSome (h.1 i)
  simpa [Road.configured] using k

theorem RoadFrame.listing {r r' : Road} (h : RoadFrame r r') (g : GateId) :
    (r'.gates.get g).listing = (r.gates.get g).listing := by
  simpa [gateFrame] using congrArg Gate.listing (h.2 g)

theorem RoadFrame.raisedSwitch {r r' : Road} (h : RoadFrame r r') (g : GateId) :
    (r'.gates.get g).raisedSwitch = (r.gates.get g).raisedSwitch := by
  simpa [gateFrame] using congrArg Gate.raisedSwitch (h.2 g)

theorem RoadFrame.loweredSwitch {r r' : Road} (h : RoadFrame r r') (g : GateId) :
    (r'.gates.get g).loweredSwitch = (r.gates.get g).loweredSwitch := by
  simpa [gateFrame] using congrArg Gate.loweredSwitch (h.2 g)

theorem Moves.trans' {a b c : SegState} (h : Moves a b) (k : Moves b c) : Moves a c := by
  unfold Moves at *
  cases a <;> cases b <;> cases c <;> simp_all

/-- Each segment of `r'` has moved from its state in `r` as the chain can move it. -/
def RoadMoves (r r' : Road) : Prop :=
  ∀ i, (r.segState i = none ∧ r'.segState i = none) ∨
    ∃ a b, r.segState i = some a ∧ r'.segState i = some b ∧ Moves a b

theorem RoadMoves.rfl' (r : Road) : RoadMoves r r := by
  intro i
  cases h : r.segState i with
  | none => exact Or.inl ⟨rfl, rfl⟩
  | some a => exact Or.inr ⟨a, a, rfl, rfl, Or.inl rfl⟩

theorem RoadMoves.trans' {a b c : Road} (h : RoadMoves a b) (k : RoadMoves b c) : RoadMoves a c := by
  intro i
  rcases h i with ⟨h1, h2⟩ | ⟨x, y, h1, h2, h3⟩ <;> rcases k i with ⟨k1, k2⟩ | ⟨u, v, k1, k2, k3⟩
  · exact Or.inl ⟨h1, k2⟩
  · rw [h2] at k1; cases k1
  · rw [h2] at k1; cases k1
  · rw [h2] at k1; cases k1; exact Or.inr ⟨x, v, h1, k2, h3.trans' k3⟩

namespace RoadEv

theorem setSeg_segState (e : RoadEv) (i j : SegId) (f : Segment → Segment) :
    (e.setSeg i f).road.segState j = if i = j then (e.road.segs.get i).map (fun sg => (f sg).state)
      else e.road.segState j := by
  show ((alter e.road.segs i (Option.map f)).get j).map (·.state) = _
  rw [get_alter]
  split
  · cases e.road.segs.get i <;> rfl
  · rfl

theorem judgeWarning_segState (ctx : RoadCtx) (e : RoadEv) (i j : SegId) :
    (judgeWarning ctx e i).road.segState j = e.road.segState j := by
  unfold judgeWarning
  rw [setSeg_segState]
  split
  · rename_i h; subst h
    unfold Road.segState
    cases e.road.segs.get i with
    | none => rfl
    | some sg => simp only [Option.map]; congr 1; split <;> rfl
  · rfl

theorem enterSeg_segState (ctx : RoadCtx) (e : RoadEv) (i j : SegId) (st : SegState) :
    (enterSeg ctx e i st).1.road.segState j =
      if i = j then (e.road.segs.get i).map (fun _ => st) else e.road.segState j := by
  unfold enterSeg
  split
  · rename_i h
    split
    · rename_i hij; subst hij; simp [Road.segState, h]
    · rfl
  · rename_i sg h
    dsimp only
    have hk : ((e.setSeg i (entered st)).touch i).road.segState j =
        if i = j then (e.road.segs.get i).map (fun _ => st) else e.road.segState j := by
      show (e.setSeg i (entered st)).road.segState j = _
      exact setSeg_segState e i j _
    split
    · rw [judgeWarning_segState, hk]
    · rw [hk]

theorem enterSeg_moves (ctx : RoadCtx) (e : RoadEv) (i : SegId) (st : SegState)
    (h : ∀ a, e.road.segState i = some a → Moves a st) : RoadMoves e.road (enterSeg ctx e i st).1.road := by
  intro j
  rw [enterSeg_segState]
  split
  · rename_i hij; subst hij
    have hh : e.road.segState i = (e.road.segs.get i).map (·.state) := rfl
    cases hs : e.road.segs.get i with
    | none => left; simp [hh, hs]
    | some sg =>
      right
      exact ⟨sg.state, st, by simp [hh, hs], by simp, h _ (by simp [hh, hs])⟩
  · exact RoadMoves.rfl' _ j

theorem setGate_moves (e : RoadEv) (i : GateId) (f : Gate → Gate) : RoadMoves e.road (e.setGate i f).road :=
  RoadMoves.rfl' e.road

theorem gateTo_moves (e : RoadEv) (i : GateId) (g : Gate) (rest : List Task) :
    RoadMoves e.road (e.gateTo i g rest).1.road := RoadMoves.rfl' e.road

theorem handSeg_moves (ctx : RoadCtx) (fault : Bool) (i : SegId) (e : RoadEv) :
    RoadMoves e.road (handSeg ctx fault i e).1.road := by
  unfold handSeg
  split
  · exact RoadMoves.rfl' _
  · rename_i h
    split
    · exact enterSeg_moves ctx e i .closing (fun a ha => by rw [h] at ha; cases ha; exact Or.inr (Or.inl ⟨rfl, by decide⟩))
    · exact RoadMoves.rfl' _
  · exact RoadMoves.rfl' _

theorem handAll_moves (ctx : RoadCtx) (fault : Bool) :
    ∀ (l : List SegId) (e : RoadEv), RoadMoves e.road (handAll ctx fault l e).1.road
  | [], e => RoadMoves.rfl' e.road
  | i :: l, e => (handSeg_moves ctx fault i e).trans' (handAll_moves ctx fault l _)

theorem handSeg_segState (ctx : RoadCtx) (fault : Bool) (i j : SegId) (e : RoadEv) :
    (handSeg ctx fault i e).1.road.segState j =
      if i = j ∧ fault = true ∧ e.road.segState i = some .opening then some .closing else e.road.segState j := by
  unfold handSeg
  split
  · rename_i h; simp [h]
  · rename_i h
    split
    · rename_i hf
      rw [enterSeg_segState]
      by_cases hij : i = j
      · subst hij
        have hh : (e.road.segs.get i).map (·.state) = some .opening := h
        cases hs : e.road.segs.get i with
        | none => rw [hs] at hh; cases hh
        | some sg => simp [hf, h]
      · simp [hij]
    · rename_i hf; simp [hf]
  · rename_i h1 h2
    have : e.road.segState i ≠ some .opening := h2
    simp [this]

/-- An entry of a gate to FAULT puts every listing segment in OPENING into CLOSING, before anything follows from the abort
of one of them; every other segment keeps its state (R20, R42). -/
theorem handAll_segState (ctx : RoadCtx) (fault : Bool) (j : SegId) :
    ∀ (l : List SegId) (e : RoadEv), (handAll ctx fault l e).1.road.segState j =
      if j ∈ l ∧ fault = true ∧ e.road.segState j = some .opening then some .closing else e.road.segState j
  | [], e => by simp [handAll]
  | i :: l, e => by
    show (handAll ctx fault l (handSeg ctx fault i e).1).1.road.segState j = _
    rw [handAll_segState ctx fault j l, handSeg_segState]
    by_cases hij : i = j
    · subst hij
      by_cases hf : fault = true <;> by_cases ho : e.road.segState i = some .opening <;> simp [hf, ho]
    · have : j ≠ i := fun h => hij h.symm
      simp [hij, this]

/-- One task moves segment states only as the chain may. -/
theorem doTask_moves (ctx : RoadCtx) (t : Task) (e : RoadEv) : RoadMoves e.road (doTask ctx t e).1.road := by
  have hid := RoadMoves.rfl' e.road
  cases t with
  | demand i => simp only [doTask]; split <;> exact hid
  | apply i => simp only [doTask]; split <;> exact hid
  | settle i => simp only [doTask]; split <;> exact hid
  | resolve i => simp only [doTask]; split <;> [(split <;> exact hid); exact hid]
  | handed i fault => exact handAll_moves ctx fault _ e
  | complete i =>
    simp only [doTask]
    split
    · rename_i sg h
      split
      · rename_i hc
        have hst : sg.state = .closing := by
          simp only [Bool.and_eq_true, beq_iff_eq] at hc; exact hc.1
        have h1 : RoadMoves e.road (e.setSeg i fun sg => { sg with
            incomplete := sg.gates.any fun g => (e.road.gates.get g).state == .fault }).road := by
          intro j
          rw [setSeg_segState]
          split
          · rename_i hij; subst hij
            exact RoadMoves.rfl' e.road i
          · exact RoadMoves.rfl' e.road j
        intro j
        rw [enterSeg_segState]
        split
        · rename_i hij; subst hij
          right
          refine ⟨.closing, .closed, ?_, ?_, Or.inr (Or.inr ⟨rfl, rfl⟩)⟩
          · simp [Road.segState, h, hst]
          · simp [setSeg, h]
        · rw [setSeg_segState]
          rename_i hij
          simp only [hij, if_false]
          exact hid j
      · exact hid
    · exact hid
  | done i =>
    simp only [doTask]
    split
    · rename_i sg h
      split
      · rename_i hc
        have hst : sg.state = .opening := by
          simp only [Bool.and_eq_true, beq_iff_eq] at hc; exact hc.1
        refine enterSeg_moves ctx e i .opened (fun a ha => ?_)
        simp only [Road.segState, h, Option.map, Option.some.injEq] at ha
        subst ha; rw [hst]; exact Or.inr (Or.inl ⟨rfl, by decide⟩)
      · exact hid
    · exact hid

/-- The chain moves segment states only so. -/
theorem run_moves (ctx : RoadCtx) (n : Nat) (tasks : List Task) (e : RoadEv) :
    RoadMoves e.road (run ctx n tasks e).road :=
  run_induction ctx (fun x => RoadMoves e.road x.road) (fun t x h => h.trans' (doTask_moves ctx t x)) n tasks e
    (RoadMoves.rfl' _)

end RoadEv

end Sys2Proof.Machine
end

