-- ==== Sys2Proof/Laws/State.lean ====
section
/-! SUPPORT. One lemma per field and update of the state: what each named update leaves alone, true by unfolding, for
the simplifier. -/

namespace Sys2Proof.Machine.State

variable (s : State)

-- An event that sets attention changes nothing but the link records (R186).
@[simp] theorem attend_commissioned (flags : FlagSet) : (s.attend flags).commissioned = s.commissioned := rfl
@[simp] theorem attend_key (flags : FlagSet) : (s.attend flags).key = s.key := rfl
@[simp] theorem attend_valleyHeard (flags : FlagSet) : (s.attend flags).valleyHeard = s.valleyHeard := rfl
@[simp] theorem attend_avalancheHeard (flags : FlagSet) : (s.attend flags).avalancheHeard = s.avalancheHeard := rfl
@[simp] theorem attend_road (flags : FlagSet) : (s.attend flags).road = s.road := rfl
@[simp] theorem attend_latch (flags : FlagSet) : (s.attend flags).latch = s.latch := rfl
@[simp] theorem attend_field (flags : FlagSet) : (s.attend flags).field = s.field := rfl
@[simp] theorem attend_sites (flags : FlagSet) : (s.attend flags).sites = s.sites := rfl
@[simp] theorem attend_zoneUnit (flags : FlagSet) : (s.attend flags).zoneUnit = s.zoneUnit := rfl
@[simp] theorem attend_notices (flags : FlagSet) : (s.attend flags).notices = s.notices := rfl
@[simp] theorem attend_board (flags : FlagSet) : (s.attend flags).board = s.board := rfl
@[simp] theorem attend_store (flags : FlagSet) : (s.attend flags).store = s.store := rfl
@[simp] theorem attend_draws (flags : FlagSet) : (s.attend flags).draws = s.draws := rfl
@[simp] theorem attend_pending (flags : FlagSet) : (s.attend flags).pending = s.pending := rfl

-- A step of one link's record changes nothing but the link records.
@[simp] theorem onLink_commissioned (l : Link) (f : LinkRecord → LinkRecord) : (s.onLink l f).commissioned = s.commissioned := rfl
@[simp] theorem onLink_key (l : Link) (f : LinkRecord → LinkRecord) : (s.onLink l f).key = s.key := rfl
@[simp] theorem onLink_valleyHeard (l : Link) (f : LinkRecord → LinkRecord) : (s.onLink l f).valleyHeard = s.valleyHeard := rfl
@[simp] theorem onLink_avalancheHeard (l : Link) (f : LinkRecord → LinkRecord) : (s.onLink l f).avalancheHeard = s.avalancheHeard := rfl
@[simp] theorem onLink_road (l : Link) (f : LinkRecord → LinkRecord) : (s.onLink l f).road = s.road := rfl
@[simp] theorem onLink_latch (l : Link) (f : LinkRecord → LinkRecord) : (s.onLink l f).latch = s.latch := rfl
@[simp] theorem onLink_field (l : Link) (f : LinkRecord → LinkRecord) : (s.onLink l f).field = s.field := rfl
@[simp] theorem onLink_sites (l : Link) (f : LinkRecord → LinkRecord) : (s.onLink l f).sites = s.sites := rfl
@[simp] theorem onLink_zoneUnit (l : Link) (f : LinkRecord → LinkRecord) : (s.onLink l f).zoneUnit = s.zoneUnit := rfl
@[simp] theorem onLink_notices (l : Link) (f : LinkRecord → LinkRecord) : (s.onLink l f).notices = s.notices := rfl
@[simp] theorem onLink_board (l : Link) (f : LinkRecord → LinkRecord) : (s.onLink l f).board = s.board := rfl
@[simp] theorem onLink_store (l : Link) (f : LinkRecord → LinkRecord) : (s.onLink l f).store = s.store := rfl
@[simp] theorem onLink_draws (l : Link) (f : LinkRecord → LinkRecord) : (s.onLink l f).draws = s.draws := rfl
@[simp] theorem onLink_pending (l : Link) (f : LinkRecord → LinkRecord) : (s.onLink l f).pending = s.pending := rfl

-- The start of a reply changes nothing but the link records (R178).
@[simp] theorem startReply_commissioned (l : Link) (kind : Byte) (body : List Byte) : (s.startReply l kind body).commissioned = s.commissioned := rfl
@[simp] theorem startReply_key (l : Link) (kind : Byte) (body : List Byte) : (s.startReply l kind body).key = s.key := rfl
@[simp] theorem startReply_valleyHeard (l : Link) (kind : Byte) (body : List Byte) : (s.startReply l kind body).valleyHeard = s.valleyHeard := rfl
@[simp] theorem startReply_avalancheHeard (l : Link) (kind : Byte) (body : List Byte) : (s.startReply l kind body).avalancheHeard = s.avalancheHeard := rfl
@[simp] theorem startReply_road (l : Link) (kind : Byte) (body : List Byte) : (s.startReply l kind body).road = s.road := rfl
@[simp] theorem startReply_latch (l : Link) (kind : Byte) (body : List Byte) : (s.startReply l kind body).latch = s.latch := rfl
@[simp] theorem startReply_field (l : Link) (kind : Byte) (body : List Byte) : (s.startReply l kind body).field = s.field := rfl
@[simp] theorem startReply_sites (l : Link) (kind : Byte) (body : List Byte) : (s.startReply l kind body).sites = s.sites := rfl
@[simp] theorem startReply_zoneUnit (l : Link) (kind : Byte) (body : List Byte) : (s.startReply l kind body).zoneUnit = s.zoneUnit := rfl
@[simp] theorem startReply_notices (l : Link) (kind : Byte) (body : List Byte) : (s.startReply l kind body).notices = s.notices := rfl
@[simp] theorem startReply_board (l : Link) (kind : Byte) (body : List Byte) : (s.startReply l kind body).board = s.board := rfl
@[simp] theorem startReply_store (l : Link) (kind : Byte) (body : List Byte) : (s.startReply l kind body).store = s.store := rfl
@[simp] theorem startReply_draws (l : Link) (kind : Byte) (body : List Byte) : (s.startReply l kind body).draws = s.draws := rfl
@[simp] theorem startReply_pending (l : Link) (kind : Byte) (body : List Byte) : (s.startReply l kind body).pending = s.pending := rfl

-- The arbiter changes nothing but the board (R162).
@[simp] theorem arbitrate_commissioned : (s.arbitrate).commissioned = s.commissioned := rfl
@[simp] theorem arbitrate_key : (s.arbitrate).key = s.key := rfl
@[simp] theorem arbitrate_valleyHeard : (s.arbitrate).valleyHeard = s.valleyHeard := rfl
@[simp] theorem arbitrate_avalancheHeard : (s.arbitrate).avalancheHeard = s.avalancheHeard := rfl
@[simp] theorem arbitrate_road : (s.arbitrate).road = s.road := rfl
@[simp] theorem arbitrate_latch : (s.arbitrate).latch = s.latch := rfl
@[simp] theorem arbitrate_field : (s.arbitrate).field = s.field := rfl
@[simp] theorem arbitrate_sites : (s.arbitrate).sites = s.sites := rfl
@[simp] theorem arbitrate_zoneUnit : (s.arbitrate).zoneUnit = s.zoneUnit := rfl
@[simp] theorem arbitrate_notices : (s.arbitrate).notices = s.notices := rfl
@[simp] theorem arbitrate_links : (s.arbitrate).links = s.links := rfl
@[simp] theorem arbitrate_store : (s.arbitrate).store = s.store := rfl
@[simp] theorem arbitrate_draws : (s.arbitrate).draws = s.draws := rfl
@[simp] theorem arbitrate_pending : (s.arbitrate).pending = s.pending := rfl

-- Warning confirmation changes nothing but the road (R11).
@[simp] theorem judgeWarning_commissioned (i : SegId) : (s.judgeWarning i).commissioned = s.commissioned := rfl
@[simp] theorem judgeWarning_key (i : SegId) : (s.judgeWarning i).key = s.key := rfl
@[simp] theorem judgeWarning_valleyHeard (i : SegId) : (s.judgeWarning i).valleyHeard = s.valleyHeard := rfl
@[simp] theorem judgeWarning_avalancheHeard (i : SegId) : (s.judgeWarning i).avalancheHeard = s.avalancheHeard := rfl
@[simp] theorem judgeWarning_latch (i : SegId) : (s.judgeWarning i).latch = s.latch := rfl
@[simp] theorem judgeWarning_field (i : SegId) : (s.judgeWarning i).field = s.field := rfl
@[simp] theorem judgeWarning_sites (i : SegId) : (s.judgeWarning i).sites = s.sites := rfl
@[simp] theorem judgeWarning_zoneUnit (i : SegId) : (s.judgeWarning i).zoneUnit = s.zoneUnit := rfl
@[simp] theorem judgeWarning_notices (i : SegId) : (s.judgeWarning i).notices = s.notices := rfl
@[simp] theorem judgeWarning_board (i : SegId) : (s.judgeWarning i).board = s.board := rfl
@[simp] theorem judgeWarning_links (i : SegId) : (s.judgeWarning i).links = s.links := rfl
@[simp] theorem judgeWarning_store (i : SegId) : (s.judgeWarning i).store = s.store := rfl
@[simp] theorem judgeWarning_draws (i : SegId) : (s.judgeWarning i).draws = s.draws := rfl
@[simp] theorem judgeWarning_pending (i : SegId) : (s.judgeWarning i).pending = s.pending := rfl

-- The comparison at the end of a write changes the stored value and the store alone (R57).
@[simp] theorem settleLatch_commissioned (v : LatchValue) : (s.settleLatch v).commissioned = s.commissioned := rfl
@[simp] theorem settleLatch_key (v : LatchValue) : (s.settleLatch v).key = s.key := rfl
@[simp] theorem settleLatch_valleyHeard (v : LatchValue) : (s.settleLatch v).valleyHeard = s.valleyHeard := rfl
@[simp] theorem settleLatch_avalancheHeard (v : LatchValue) : (s.settleLatch v).avalancheHeard = s.avalancheHeard := rfl
@[simp] theorem settleLatch_road (v : LatchValue) : (s.settleLatch v).road = s.road := rfl
@[simp] theorem settleLatch_field (v : LatchValue) : (s.settleLatch v).field = s.field := rfl
@[simp] theorem settleLatch_sites (v : LatchValue) : (s.settleLatch v).sites = s.sites := rfl
@[simp] theorem settleLatch_zoneUnit (v : LatchValue) : (s.settleLatch v).zoneUnit = s.zoneUnit := rfl
@[simp] theorem settleLatch_notices (v : LatchValue) : (s.settleLatch v).notices = s.notices := rfl
@[simp] theorem settleLatch_board (v : LatchValue) : (s.settleLatch v).board = s.board := rfl
@[simp] theorem settleLatch_links (v : LatchValue) : (s.settleLatch v).links = s.links := rfl
@[simp] theorem settleLatch_draws (v : LatchValue) : (s.settleLatch v).draws = s.draws := rfl
@[simp] theorem settleLatch_pending (v : LatchValue) : (s.settleLatch v).pending = s.pending := rfl

-- Decoding the key changes the key position and commissioning mode alone (R65, R198).
@[simp] theorem decodeKey_commissioned : (s.decodeKey).commissioned = s.commissioned := rfl
@[simp] theorem decodeKey_valleyHeard : (s.decodeKey).valleyHeard = s.valleyHeard := rfl
@[simp] theorem decodeKey_avalancheHeard : (s.decodeKey).avalancheHeard = s.avalancheHeard := rfl
@[simp] theorem decodeKey_road : (s.decodeKey).road = s.road := rfl
@[simp] theorem decodeKey_latch : (s.decodeKey).latch = s.latch := rfl
@[simp] theorem decodeKey_field : (s.decodeKey).field = s.field := rfl
@[simp] theorem decodeKey_sites : (s.decodeKey).sites = s.sites := rfl
@[simp] theorem decodeKey_zoneUnit : (s.decodeKey).zoneUnit = s.zoneUnit := rfl
@[simp] theorem decodeKey_notices : (s.decodeKey).notices = s.notices := rfl
@[simp] theorem decodeKey_board : (s.decodeKey).board = s.board := rfl
@[simp] theorem decodeKey_links : (s.decodeKey).links = s.links := rfl
@[simp] theorem decodeKey_draws : (s.decodeKey).draws = s.draws := rfl
@[simp] theorem decodeKey_pending : (s.decodeKey).pending = s.pending := rfl

-- One ms changes only the blocks that hold timers.
@[simp] theorem tick_commissioned : (s.tick).commissioned = s.commissioned := rfl
@[simp] theorem tick_key : (s.tick).key = s.key := rfl
@[simp] theorem tick_valleyHeard : (s.tick).valleyHeard = s.valleyHeard := rfl
@[simp] theorem tick_avalancheHeard : (s.tick).avalancheHeard = s.avalancheHeard := rfl
@[simp] theorem tick_sites : (s.tick).sites = s.sites := rfl
@[simp] theorem tick_zoneUnit : (s.tick).zoneUnit = s.zoneUnit := rfl
@[simp] theorem tick_store : (s.tick).store = s.store := rfl
@[simp] theorem tick_draws : (s.tick).draws = s.draws := rfl
@[simp] theorem tick_pending : (s.tick).pending = s.pending := rfl

-- A step of the road alone.
@[simp] theorem onRoadOnly_commissioned (f : Road → Road) : (s.onRoadOnly f).commissioned = s.commissioned := rfl
@[simp] theorem onRoadOnly_key (f : Road → Road) : (s.onRoadOnly f).key = s.key := rfl
@[simp] theorem onRoadOnly_valleyHeard (f : Road → Road) : (s.onRoadOnly f).valleyHeard = s.valleyHeard := rfl
@[simp] theorem onRoadOnly_avalancheHeard (f : Road → Road) : (s.onRoadOnly f).avalancheHeard = s.avalancheHeard := rfl
@[simp] theorem onRoadOnly_latch (f : Road → Road) : (s.onRoadOnly f).latch = s.latch := rfl
@[simp] theorem onRoadOnly_field (f : Road → Road) : (s.onRoadOnly f).field = s.field := rfl
@[simp] theorem onRoadOnly_sites (f : Road → Road) : (s.onRoadOnly f).sites = s.sites := rfl
@[simp] theorem onRoadOnly_zoneUnit (f : Road → Road) : (s.onRoadOnly f).zoneUnit = s.zoneUnit := rfl
@[simp] theorem onRoadOnly_notices (f : Road → Road) : (s.onRoadOnly f).notices = s.notices := rfl
@[simp] theorem onRoadOnly_board (f : Road → Road) : (s.onRoadOnly f).board = s.board := rfl
@[simp] theorem onRoadOnly_links (f : Road → Road) : (s.onRoadOnly f).links = s.links := rfl
@[simp] theorem onRoadOnly_store (f : Road → Road) : (s.onRoadOnly f).store = s.store := rfl
@[simp] theorem onRoadOnly_draws (f : Road → Road) : (s.onRoadOnly f).draws = s.draws := rfl
@[simp] theorem onRoadOnly_pending (f : Road → Road) : (s.onRoadOnly f).pending = s.pending := rfl

-- The parts of the road and of the board that some of these updates keep.
@[simp] theorem judgeWarning_gates (i : SegId) : (s.judgeWarning i).road.gates = s.road.gates := rfl
@[simp] theorem settleLatch_latchState (v : LatchValue) : (s.settleLatch v).latch.state = s.latch.state := rfl
@[simp] theorem settleLatch_stored (v : LatchValue) : (s.settleLatch v).latch.stored = v := rfl
@[simp] theorem attend_valley (flags : FlagSet) : (s.attend flags).links.valley = s.links.valley.setFlags flags := rfl
@[simp] theorem attend_avalanche (flags : FlagSet) :
    (s.attend flags).links.avalanche = s.links.avalanche.setFlags flags := rfl
@[simp] theorem attend_panel (flags : FlagSet) : (s.attend flags).links.panel = s.links.panel.setFlags flags := rfl
@[simp] theorem attend_get (flags : FlagSet) (l : Link) :
    (s.attend flags).links.get l = (s.links.get l).setFlags flags := by cases l <;> rfl

end Sys2Proof.Machine.State

namespace Sys2Proof.Machine

-- The fields of a link record that setting flags keeps, and those that it sets (R186, R187).
@[simp] theorem setFlags_active (f : FlagSet) (r : LinkRecord) : (r.setFlags f).active = r.active := rfl
@[simp] theorem setFlags_limit (f : FlagSet) (r : LinkRecord) : (r.setFlags f).limit = r.limit := rfl
@[simp] theorem setFlags_timer (f : FlagSet) (r : LinkRecord) : (r.setFlags f).timer = r.timer := rfl
@[simp] theorem setFlags_receiver (f : FlagSet) (r : LinkRecord) : (r.setFlags f).receiver = r.receiver := rfl
@[simp] theorem setFlags_enable (f : FlagSet) (r : LinkRecord) : (r.setFlags f).enable = r.enable := rfl
@[simp] theorem setFlags_attention (f : FlagSet) (r : LinkRecord) :
    (r.setFlags f).attention = r.attention ||| f := rfl
@[simp] theorem setFlags_line (f : FlagSet) (r : LinkRecord) :
    (r.setFlags f).line = LinkRecord.lineOf (r.attention ||| f) r.enable := rfl

-- Reading a link's record after a change of one link (R183).
@[simp] theorem links_get_alter_same (ls : Links) (l : Link) (f : LinkRecord → LinkRecord) :
    (ls.alter l f).get l = f (ls.get l) := by cases l <;> rfl
theorem links_get_alter_other (ls : Links) {l m : Link} (f : LinkRecord → LinkRecord) (h : l ≠ m) :
    (ls.alter l f).get m = ls.get m := by cases l <;> cases m <;> first | rfl | exact absurd rfl h
@[simp] theorem links_get_all (ls : Links) (l : Link) (f : LinkRecord → LinkRecord) :
    (ls.all f).get l = f (ls.get l) := by cases l <;> rfl

-- The state of an event under its own updates.
@[simp] theorem start_st (s : State) : (Ev.start s).st = s := rfl
@[simp] theorem start_raised (s : State) : (Ev.start s).raised = Vector.replicate 12 false := rfl
@[simp] theorem start_acts (s : State) : (Ev.start s).acts = false := rfl
@[simp] theorem on_st (e : Ev) (f : State → State) : (e.on f).st = f e.st := rfl
@[simp] theorem on_raised (e : Ev) (f : State → State) : (e.on f).raised = e.raised := rfl
@[simp] theorem attend_st (e : Ev) (flags : FlagSet) : (e.attend flags).st = e.st.attend flags := rfl
@[simp] theorem attend_raised (e : Ev) (flags : FlagSet) : (e.attend flags).raised = e.raised := rfl
@[simp] theorem raiseSigns_st (e : Ev) (l : List SignId) : (e.raiseSigns l).st = e.st := rfl
@[simp] theorem raiseSegs_st (e : Ev) (l : List SegId) : (e.raiseSegs l).st = e.st := rfl
@[simp] theorem raiseAll_st (e : Ev) : e.raiseAll.st = e.st := rfl
@[simp] theorem thenArbitrate_st (e : Ev) : e.thenArbitrate.st = e.st := rfl
@[simp] theorem noticeChange_st (e : Ev) (l : List SegId) : (e.noticeChange l).st = e.st.attend Attn.notice := rfl

end Sys2Proof.Machine
end

