-- ==== Sys2Proof/Laws/Event.lean ====
section
/-! SUPPORT. What the shared operations of an event can do: setting attention, judging warning confirmation, a step of the
board, a step of the road, and the end of an event. -/

namespace Sys2Proof.Machine

-- ---------------------------------------------------------------- the frames of Safety

theorem KeepsBut.rfl' (l : List Block) (s : State) : KeepsBut l s s := by
  intro b _
  cases b <;> simp [Block.same]

theorem KeepsBut.trans' {l : List Block} {s t u : State} (h : KeepsBut l s t) (k : KeepsBut l t u) : KeepsBut l s u := by
  intro b hb
  have h' := h b hb
  have k' := k b hb
  cases b <;> simp_all [Block.same]

theorem KeepsBut.mono {l m : List Block} {s t : State} (h : KeepsBut l s t) (sub : ∀ b, b ∈ l → b ∈ m) :
    KeepsBut m s t := fun b hb => h b fun hl => hb (sub b hl)

theorem SameRoad.rfl' (s : State) : SameRoad s s := ⟨rfl, fun _ => rfl⟩

theorem SameRoad.of_eq {s t : State} (h : t.road = s.road) : SameRoad s t := by
  unfold SameRoad
  rw [h]
  exact ⟨rfl, fun _ => rfl⟩

theorem SameRoad.trans' {s t u : State} (h : SameRoad s t) (k : SameRoad t u) : SameRoad s u :=
  ⟨k.1.trans h.1, fun i => (k.2 i).trans (h.2 i)⟩

theorem Gains.of_eq {s t : State} (h : t.links = s.links) : Gains 0 s t := by
  intro m
  rw [h]
  simp

theorem Gains.trans' {f g : FlagSet} {s t u : State} (h : Gains f s t) (k : Gains g t u) : Gains (f ||| g) s u := by
  intro m
  have h' := h m
  have k' := k m
  rw [k', h']
  simp [BitVec.or_assoc]

/-- Attention enters all three sets and nothing else changes (R186). -/
theorem attend_gains (f : FlagSet) (s : State) : Gains f s (s.attend f) := by
  intro m
  rw [State.attend_get]
  rfl

theorem attend_keeps (f : FlagSet) (s : State) : KeepsBut [.links] s (s.attend f) := by
  intro b hb
  cases b <;> simp_all [Block.same]

-- ---------------------------------------------------------------- warning confirmation

theorem judgeWarning_sameRoad (s : State) (i : SegId) : SameRoad s (s.judgeWarning i) := by
  refine ⟨rfl, fun j => ?_⟩
  show ((alter s.road.segs i (Option.map _)).get j).map Segment.timeless = _
  rw [get_alter]
  split
  · next h =>
    subst h
    cases s.road.segs.get i with
    | none => rfl
    | some sg =>
      simp only [Option.map_some, Option.some.injEq]
      split <;> rfl
  · rfl

theorem judgeWarning_keeps (s : State) (i : SegId) : KeepsBut [.road] s (s.judgeWarning i) := by
  intro b hb
  cases b <;> simp_all [Block.same]

/-- Handing signs to the segment table starts warning timers and does nothing else (R11, R152, R171). -/
theorem judgeSigns_spec (l : List SignId) :
    ∀ s : State, KeepsBut [.road] s (s.judgeSigns l) ∧ SameRoad s (s.judgeSigns l) := by
  induction l with
  | nil => exact fun s => ⟨KeepsBut.rfl' _ s, SameRoad.rfl' s⟩
  | cons i l ih =>
    intro s
    have step : ∀ s' : State, KeepsBut [.road] s s' → SameRoad s s' →
        KeepsBut [.road] s (s'.judgeSigns l) ∧ SameRoad s (s'.judgeSigns l) := fun s' h k =>
      ⟨h.trans' (ih s').1, k.trans' (ih s').2⟩
    show KeepsBut [.road] s (State.judgeSigns _ l) ∧ SameRoad s (State.judgeSigns _ l)
    dsimp only
    split
    · exact step _ (judgeWarning_keeps s _) (judgeWarning_sameRoad s _)
    · exact step _ (KeepsBut.rfl' _ s) (SameRoad.rfl' s)

-- ---------------------------------------------------------------- the board

/-- A step of the selector or of the sign line: the board that it gives, its flags in all three sets, and warning timers;
no hold set, segment state or gate changes (R152, R169, R171). -/
theorem onBoard_spec (f : BoardEv → BoardEv) (s : State) :
    KeepsBut [.links, .road, .board] s (s.onBoard f) ∧ SameRoad s (s.onBoard f) ∧
      (s.onBoard f).board = (f (BoardEv.start s.board)).board ∧
      Gains (f (BoardEv.start s.board)).flags s (s.onBoard f) := by
  unfold State.onBoard
  generalize f (BoardEv.start s.board) = e
  have h1 : KeepsBut [.links, .road, .board] s ({ s with board := e.board } : State) := by
    intro b hb
    cases b <;> simp_all [Block.same]
  have h2 := attend_keeps e.flags ({ s with board := e.board } : State)
  have h3 := judgeSigns_spec (setIds e.handed) (({ s with board := e.board } : State).attend e.flags)
  refine ⟨(h1.trans' (h2.mono (by simp))).trans' (h3.1.mono (by simp)), ?_, ?_, ?_⟩
  · exact (SameRoad.of_eq rfl : SameRoad s (({ s with board := e.board } : State).attend e.flags)).trans' h3.2
  · exact h3.1 .board (by simp)
  · have k := h3.1 .links (by simp)
    have g : Gains e.flags s (({ s with board := e.board } : State).attend e.flags) :=
      attend_gains e.flags ({ s with board := e.board } : State)
    intro m
    dsimp only
    rw [k]
    exact g m

/-- A step of the sign line, with the arbiter on the line that it may have freed: the board is the arbitrated board of the
step (R162). -/
theorem lineStep_spec (f : BoardEv → BoardEv) (s : State) :
    KeepsBut [.links, .road, .board] s (s.lineStep f) ∧ SameRoad s (s.lineStep f) ∧
      (s.lineStep f).board = (f (BoardEv.start s.board)).board.arbitrate ∧
      Gains (f (BoardEv.start s.board)).flags s (s.lineStep f) := by
  have h := onBoard_spec f s
  have a : KeepsBut [.board] (s.onBoard f) (s.lineStep f) := by
    intro b hb
    cases b <;> simp_all [Block.same, State.lineStep]
  exact ⟨h.1.trans' (a.mono (by simp)), h.2.1.trans' (SameRoad.of_eq rfl),
    congrArg Board.arbitrate h.2.2.1, h.2.2.2⟩

-- ---------------------------------------------------------------- selection

/-- A selection sets no attention flag (R152). -/
theorem select_flags (s : State) (i : SignId) (e : BoardEv) : (BoardEv.select s i e).flags = e.flags := by
  unfold BoardEv.select
  dsimp only
  repeat' split
  all_goals rfl

theorem selectAll_flags (s : State) (l : List SignId) : ∀ e, (BoardEv.selectAll s l e).flags = e.flags := by
  induction l with
  | nil => exact fun _ => rfl
  | cons i l ih => exact fun e => (ih _).trans (select_flags s i e)

-- ---------------------------------------------------------------- the end of an event

/-- The end of an event changes the board and warning timers, and has the attention lines judged; it sets no flag (R152,
R162). -/
theorem finish_spec (e : Ev) :
    KeepsBut [.links, .road, .board] e.st e.finish ∧ SameRoad e.st e.finish ∧ Gains 0 e.st e.finish := by
  unfold Ev.finish
  generalize setIds e.raised = signs
  split
  · split
    · exact ⟨fun b hb => by cases b <;> simp_all [Block.same], SameRoad.of_eq rfl, Gains.of_eq rfl⟩
    · exact ⟨KeepsBut.rfl' _ _, SameRoad.rfl' _, Gains.of_eq rfl⟩
  · have h := onBoard_spec (BoardEv.selectAll e.st signs) e.st
    have f : (BoardEv.selectAll e.st signs (BoardEv.start e.st.board)).flags = 0 := selectAll_flags _ _ _
    rw [f] at h
    refine ⟨?_, h.2.1, h.2.2.2⟩
    refine h.1.trans' ?_
    intro b hb
    cases b <;> simp_all [Block.same]

/-- An event that raises nothing ends in the state that it has reached. -/
theorem finish_quiet (e : Ev) (h : setIds e.raised = []) (k : e.acts = false) : e.finish = e.st := by
  unfold Ev.finish
  rw [h, k]
  rfl

-- ---------------------------------------------------------------- the road

/-- A step of the road within an event: the road that it gives, and its flags in all three sets (R8, R43). -/
theorem onRoad_spec (f : RoadCtx → RoadEv → RoadEv) (e : Ev) :
    let r := f e.st.roadCtx { road := e.st.road, flags := 0, touched := Vector.replicate 8 false }
    (e.onRoad f).st.road = r.road ∧ KeepsBut [.links, .road] e.st (e.onRoad f).st ∧ Gains r.flags e.st (e.onRoad f).st := by
  dsimp only
  generalize hr : f e.st.roadCtx { road := e.st.road, flags := 0, touched := Vector.replicate 8 false } = r
  have h : (e.onRoad f).st = ({ e.st with road := r.road } : State).attend r.flags := by
    rw [← hr]
    rfl
  rw [h]
  refine ⟨rfl, ?_, attend_gains r.flags ({ e.st with road := r.road } : State)⟩
  intro b hb
  cases b <;> simp_all [Block.same]

end Sys2Proof.Machine
end

