-- ==== Sys2Proof/Laws/Holds.lean ====
section
/-! SUPPORT. What the hold operations do to the entries of all segments: one lemma for each, in terms of `heldEntry`; the
chain that an arrival or a removal starts changes no entry. -/

namespace Sys2Proof.Machine

/-- The entry of a kind at a segment; absent also where the segment is not configured. -/
def heldEntry (r : Road) (i : SegId) (k : HoldKind) : Option HoldEntry := (r.segs.get i).bind fun sg => sg.holds.entry k

theorem holdKind_idx_inj {a b : HoldKind} : a.idx = b.idx ↔ a = b := by cases a <;> cases b <;> decide

theorem entry_put (h : HoldSet) (k k' : HoldKind) (o : Option HoldEntry) :
    HoldSet.entry (put h k.idx o) k' = if k = k' then o else h.entry k' := by
  unfold HoldSet.entry
  rw [get_put]
  simp [holdKind_idx_inj]

/-- A road step that keeps the frame keeps every entry. -/
theorem RoadFrame.heldEntry {r r' : Road} (h : RoadFrame r r') (i : SegId) (k : HoldKind) :
    Machine.heldEntry r' i k = Machine.heldEntry r i k := by
  have e := h.holds i
  unfold Machine.heldEntry
  cases hr : r.segs.get i <;> cases hr' : r'.segs.get i <;> simp_all

namespace RoadEv

theorem setSeg_configured (e : RoadEv) (i j : SegId) (f : Segment → Segment) :
    (e.setSeg i f).road.configured j = e.road.configured j := by
  unfold Road.configured setSeg
  dsimp only
  rw [get_alter]
  split
  · next h => subst h; simp
  · rfl

theorem writeEntry_entry (e : RoadEv) (i j : SegId) (k k' : HoldKind) (o : Option HoldEntry) :
    heldEntry (e.writeEntry i k o).road j k' =
      if i = j ∧ k = k' then (if e.road.configured i then o else none) else heldEntry e.road j k' := by
  show ((alter e.road.segs i (Option.map _)).get j).bind _ = _
  unfold heldEntry Road.configured
  rw [get_alter]
  by_cases h : i = j
  · subst h
    cases hs : e.road.segs.get i with
    | none => simp
    | some sg => simp [entry_put]
  · simp [h]

theorem writeEntry_configured (e : RoadEv) (i j : SegId) (k : HoldKind) (o : Option HoldEntry) :
    (e.writeEntry i k o).road.configured j = e.road.configured j := setSeg_configured e i j _

/-- An arrival writes its one entry (R5). -/
theorem createEntry_spec (ctx : RoadCtx) (i : SegId) (k : HoldKind) (reason : Option Byte) (sources : List Nat)
    (e : RoadEv) :
    (∀ j, (createEntry ctx i k reason sources e).road.configured j = e.road.configured j) ∧
      ∀ j k', heldEntry (createEntry ctx i k reason sources e).road j k' =
        if i = j ∧ k = k' ∧ e.road.configured i = true
          then some { since := ctx.since, reason := reason, sources := sources } else heldEntry e.road j k' := by
  unfold createEntry
  split
  · next h => exact ⟨fun _ => rfl, fun j k' => by simp [Road.configured, h]⟩
  · next sg h =>
    have hc : e.road.configured i = true := by simp [Road.configured, h]
    dsimp only
    split
    · next st _ =>
      have f := chain_enterSeg_frame ctx
        (e.writeEntry i k (some { since := ctx.since, reason := reason, sources := sources })) i st
      refine ⟨fun j => (f.configured j).trans (writeEntry_configured _ _ _ _ _), fun j k' => ?_⟩
      rw [f.heldEntry, writeEntry_entry]
      simp [hc]
    · refine ⟨fun j => writeEntry_configured _ _ _ _ _, fun j k' => ?_⟩
      rw [writeEntry_entry]
      simp [hc]

/-- A removal takes out its one entry (R7). -/
theorem deleteEntry_spec (ctx : RoadCtx) (i : SegId) (k : HoldKind) (e : RoadEv) :
    (∀ j, (deleteEntry ctx i k e).road.configured j = e.road.configured j) ∧
      ∀ j k', heldEntry (deleteEntry ctx i k e).road j k' = if i = j ∧ k = k' then none else heldEntry e.road j k' := by
  unfold deleteEntry
  split
  · next h =>
    refine ⟨fun _ => rfl, fun j k' => ?_⟩
    split
    · next hj => rw [← hj.1]; simp [heldEntry, h]
    · rfl
  · next sg h =>
    split
    · have hw : ∀ j k', heldEntry (e.writeEntry i k none).road j k' =
          if i = j ∧ k = k' then none else heldEntry e.road j k' := fun j k' => by rw [writeEntry_entry]; simp
      dsimp only
      split
      · have f := chain_enterSeg_frame ctx (e.writeEntry i k none) i .opened
        refine ⟨fun j => (f.configured j).trans (writeEntry_configured _ _ _ _ _), fun j k' => ?_⟩
        rw [f.heldEntry, hw]
      · exact ⟨fun j => writeEntry_configured _ _ _ _ _, hw⟩
    · next hk =>
      refine ⟨fun _ => rfl, fun j k' => ?_⟩
      split
      · next hj =>
        rw [← hj.1, ← hj.2]
        unfold heldEntry
        rw [h]
        simpa [HoldSet.has] using hk
      · rfl

/-- Placing a kind gives its segment the entry with the carried reason: a new one, or the old one with its since and
sources (R5, R6, R22). -/
theorem place_spec (ctx : RoadCtx) (k : HoldKind) (reason : Option Byte) (i : SegId) (e : RoadEv) :
    (∀ j, (place ctx k reason i e).road.configured j = e.road.configured j) ∧
      ∀ j k', heldEntry (place ctx k reason i e).road j k' =
        if i = j ∧ k = k' ∧ e.road.configured i = true then
          some (match heldEntry e.road i k with
            | none => { since := ctx.since, reason := reason, sources := [] }
            | some old => { old with reason := reason })
        else heldEntry e.road j k' := by
  unfold place
  split
  · next h => exact ⟨fun _ => rfl, fun j k' => by simp [Road.configured, h]⟩
  · next sg h =>
    have hc : e.road.configured i = true := by simp [Road.configured, h]
    split
    · next hn =>
      have hn' : heldEntry e.road i k = none := by simp [heldEntry, h, hn]
      have c := createEntry_spec ctx i k reason [] e
      refine ⟨c.1, fun j k' => ?_⟩
      rw [c.2, hn']
    · next old ho =>
      have ho' : heldEntry e.road i k = some old := by simp [heldEntry, h, ho]
      split
      · next hr =>
        refine ⟨fun _ => rfl, fun j k' => ?_⟩
        split
        · next hj =>
          rw [← hj.1, ← hj.2.1, ho', ← hr]
        · rfl
      · refine ⟨fun j => writeEntry_configured _ _ _ _ _, fun j k' => ?_⟩
        rw [writeEntry_entry, ho']
        simp [hc]

/-- Adding a source makes it a source of its segment's entry, which is created where it was absent (R5, R6). -/
theorem addSource_spec (ctx : RoadCtx) (k : HoldKind) (source : Nat) (i : SegId) (e : RoadEv) :
    (∀ j, (addSource ctx k source i e).road.configured j = e.road.configured j) ∧
      ∀ j k', heldEntry (addSource ctx k source i e).road j k' =
        if i = j ∧ k = k' ∧ e.road.configured i = true then
          some (match heldEntry e.road i k with
            | none => { since := ctx.since, reason := none, sources := [source] }
            | some old => if old.sources.contains source then old
                else { old with sources := insertAsc source old.sources })
        else heldEntry e.road j k' := by
  unfold addSource
  split
  · next h => exact ⟨fun _ => rfl, fun j k' => by simp [Road.configured, h]⟩
  · next sg h =>
    have hc : e.road.configured i = true := by simp [Road.configured, h]
    split
    · next hn =>
      have hn' : heldEntry e.road i k = none := by simp [heldEntry, h, hn]
      have c := createEntry_spec ctx i k none [source] e
      refine ⟨c.1, fun j k' => ?_⟩
      rw [c.2, hn']
    · next old ho =>
      have ho' : heldEntry e.road i k = some old := by simp [heldEntry, h, ho]
      split
      · next hr =>
        refine ⟨fun _ => rfl, fun j k' => ?_⟩
        split
        · next hj =>
          rw [← hj.1, ← hj.2.1, ho']
          dsimp only
          rw [if_pos hr]
        · rfl
      · next hr =>
        refine ⟨fun j => writeEntry_configured _ _ _ _ _, fun j k' => ?_⟩
        rw [writeEntry_entry, ho']
        dsimp only
        rw [if_neg hr]
        simp [hc]

/-- Removing a source takes it out of its segment's entry, which goes with its last source (R7). -/
theorem removeSource_spec (ctx : RoadCtx) (k : HoldKind) (source : Nat) (i : SegId) (e : RoadEv) :
    (∀ j, (removeSource ctx k source i e).road.configured j = e.road.configured j) ∧
      ∀ j k', heldEntry (removeSource ctx k source i e).road j k' =
        if i = j ∧ k = k' then
          (match heldEntry e.road i k with
            | none => none
            | some old =>
              if old.sources.contains source then
                if (removeAsc source old.sources).isEmpty then none
                else some { old with sources := removeAsc source old.sources }
              else some old)
        else heldEntry e.road j k' := by
  unfold removeSource
  have same : ∀ o : Option HoldEntry, heldEntry e.road i k = o →
      ∀ j k', heldEntry e.road j k' = if i = j ∧ k = k' then o else heldEntry e.road j k' := by
    intro o ho j k'
    split
    · next hj => rw [← hj.1, ← hj.2, ho]
    · rfl
  split
  · next h =>
    have hn : heldEntry e.road i k = none := by simp [heldEntry, h]
    refine ⟨fun _ => rfl, ?_⟩
    rw [hn]
    exact same none hn
  · next sg h =>
    have hc : e.road.configured i = true := by simp [Road.configured, h]
    split
    · next hn =>
      have hn' : heldEntry e.road i k = none := by simp [heldEntry, h, hn]
      refine ⟨fun _ => rfl, ?_⟩
      rw [hn']
      exact same none hn'
    · next old ho =>
      have ho' : heldEntry e.road i k = some old := by simp [heldEntry, h, ho]
      rw [ho']
      dsimp only
      split
      · split
        · exact deleteEntry_spec ctx i k e
        · refine ⟨fun j => writeEntry_configured _ _ _ _ _, fun j k' => ?_⟩
          rw [writeEntry_entry]
          simp [hc]
      · exact ⟨fun _ => rfl, same (some old) ho'⟩

end RoadEv

end Sys2Proof.Machine
end

