-- ==== Sys2Proof/Laws/Records.lean ====
section
/-! SUPPORT. The field checks of DESCRIPTION records judge the layouts that the statements spell (R194, R195). -/

namespace Sys2Proof.Machine

theorem at1_le (l : List Byte) (i : Nat) : at1 l i ≤ 255 := by
  unfold at1
  have := (l.getD i 0).isLt
  omega

theorem at2_le (l : List Byte) (i : Nat) : at2 l i ≤ 65535 := by
  have := at1_le l i
  have := at1_le l (i + 1)
  unfold at2
  omega

theorem entryFieldsOk_iff (l : List Byte) (c : Nat) : entryFieldsOk l c = true ↔
    at1 l (6 + 6 * c) ≤ 127 ∧ at1 l (6 + 6 * c + 1) ≤ 1 ∧ at1 l (6 + 6 * c + 2) ≤ 3 ∧ at1 l (6 + 6 * c + 3) ≤ 9 ∧
      at1 l (6 + 6 * c + 4) ≤ 3 ∧ at1 l (6 + 6 * c + 5) ≤ 9 := by
  unfold entryFieldsOk entryAt within
  dsimp only
  simp [and_assoc]

theorem corridorOk_iff (l : List Byte) : corridorOk l = true ↔ CorridorFields l := by
  simp [corridorOk, CorridorFields, entryFieldsOk_iff, within, InRange, Fin.forall_iff, and_assoc]

theorem segmentOk_iff (l : List Byte) : segmentOk l = true ↔ SegmentFields l := by
  unfold segmentOk
  split <;> simp [SegmentFields, within] <;> omega

theorem gateOk_iff (l : List Byte) : gateOk l = true ↔ GateFields l := by
  unfold gateOk
  split <;> simp [GateFields, within, InRange] <;> omega

theorem signOk_iff (l : List Byte) : signOk l = true ↔ SignFields l := by simp [signOk, SignFields, within]

theorem zoneOk_iff (l : List Byte) : zoneOk l = true ↔ ZoneFields l := by
  simp [zoneOk, ZoneFields, within, InRange]
  omega

theorem channelOk_iff (l : List Byte) : channelOk l = true ↔ ChannelFields l := by
  have := at1_le l 4
  have := at2_le l 5
  unfold channelOk
  dsimp only
  split <;> (try split) <;> simp [ChannelFields, within, InRange, *] <;> omega

theorem siteOk_iff (l : List Byte) : siteOk l = true ↔ SiteFields l := by
  have := at1_le l 5
  have := at1_le l 6
  simp [siteOk, SiteFields, within, InRange]
  omega

/-- The check of a record is its layout. -/
theorem fieldsOk_iff (number : Nat) (l : List Byte) : fieldsOk 0 number l = true ↔ FieldsInRange number l := by
  unfold fieldsOk FieldsInRange
  simp only [↓reduceIte]
  split_ifs <;>
    simp only [corridorOk_iff, segmentOk_iff, gateOk_iff, signOk_iff, zoneOk_iff, channelOk_iff, siteOk_iff]

end Sys2Proof.Machine
end

