-- ==== Sys2Proof/Laws/Requests.lean ====
section
/-! SUPPORT. Taking a request: lost, refused or accepted; and what hearing its frame does (R25, R178, R183). -/

namespace Sys2Proof.Machine

/-- A request on a link that is sending its reply is lost (R178). -/
theorem takeRequest_lost {l : Link} {s : State} (kind : Byte) (judge : Ev → Verdict)
    (h : (s.links.get l).replying = true) : takeRequest l kind judge s = s := by
  unfold takeRequest
  rw [h]
  rfl

/-- A refused request leaves what hearing its frame leaves, and its reply (R179). -/
theorem takeRequest_refused {l : Link} {s : State} {kind : Byte} {judge : Ev → Verdict} {body : List Byte}
    (h : Ready l s) (k : judge (hearing l s) = .refuse body) :
    takeRequest l kind judge s = (afterHearing l s).startReply l kind body := by
  unfold takeRequest
  rw [show (s.links.get l).replying = false from h]
  show (match judge (hearing l s) with
    | .refuse body => _
    | .accept e reply => _) = _
  rw [k]
  rfl

/-- An accepted request leaves the end of its event, and its reply, built on it (R178). -/
theorem takeRequest_accepted {l : Link} {s : State} {kind : Byte} {judge : Ev → Verdict} {e : Ev}
    {reply : State → List Byte} (h : Ready l s) (k : judge (hearing l s) = .accept e reply) :
    takeRequest l kind judge s = e.finish.startReply l kind (reply e.finish) := by
  unfold takeRequest
  rw [show (s.links.get l).replying = false from h]
  show (match judge (hearing l s) with
    | .refuse body => _
    | .accept e reply => _) = _
  rw [k]

/-- The start of a reply touches the receiver of its link alone (R178). -/
theorem startReply_answered (l : Link) (kind : Byte) (body : List Byte) (s : State) :
    Answered l kind body 0 s (s.startReply l kind body) ∧ KeepsBut [.links] s (s.startReply l kind body) := by
  refine ⟨?_, fun b hb => by cases b <;> simp_all [Block.same]⟩
  intro m
  have k : (s.startReply l kind body).links.get m =
      { s.links.get m with
        receiver := if m = l then .replying (linkFrame (kind + 0x80) body) else (s.links.get m).receiver } := by
    cases l <;> cases m <;> rfl
  rw [k]
  simp

/-- Judging the automatic start-up release changes at most the road and the links (R25). -/
theorem judgeRelease_keeps (e : Ev) : KeepsBut [.links, .road] e.st e.judgeRelease.st := by
  unfold Ev.judgeRelease
  split
  · exact (onRoad_spec _ e).2.1
  · exact KeepsBut.rfl' _ _

theorem setMark_keeps (l : Link) (e : Ev) : KeepsBut [.marks, .links, .road] e.st (e.setMark l).st := by
  unfold Ev.setMark
  split
  · split
    · exact KeepsBut.rfl' _ _
    · refine KeepsBut.trans' ?_ ((judgeRelease_keeps _).mono (by simp))
      intro b hb
      cases b <;> simp_all [Block.same]
  · split
    · exact KeepsBut.rfl' _ _
    · refine KeepsBut.trans' ?_ ((judgeRelease_keeps _).mono (by simp))
      intro b hb
      cases b <;> simp_all [Block.same]
  · exact KeepsBut.rfl' _ _

/-- Hearing a frame keeps every block but the marks, the links and the road. -/
theorem heardState_keeps (l : Link) (s : State) : KeepsBut [.marks, .links, .road] s (heardState l s) := by
  unfold heardState hearing Ev.heard
  refine KeepsBut.trans' ?_ (setMark_keeps l _)
  intro b hb
  split <;> cases b <;> simp_all [Block.same]

theorem hearing_acts (l : Link) (s : State) : (hearing l s).acts = false := by
  unfold hearing Ev.heard
  dsimp only
  split <;> cases l <;> simp only [Ev.setMark, Ev.judgeRelease] <;> (repeat' split) <;> rfl

end Sys2Proof.Machine
end

