-- ==== Sys2Proof/Laws/SignLine.lean ====
section
/-! SUPPORT. What the sign line's operations can do: the unit order, and the three things that the arbiter may do. -/

namespace Sys2Proof.Machine

/-- The order of the blocks is the lead block with its exclusive-ors (R165). -/
theorem blockOrder_xor (lead : Fin 4) :
    (blockOrder lead).map Fin.val = [lead.val, lead.val ^^^ 2, lead.val ^^^ 1, lead.val ^^^ 3] := by
  fin_cases lead <;> rfl

theorem blockUnits_length (w : Width) (b : Fin 4) : (blockUnits w b).length = match w with | .full => 1 | .half => 2 := by
  cases w <;> rfl

/-- A unit order has at most 4 units on a FULL sign and 8 on a HALF sign (R165). -/
theorem unitOrder_length (w : Width) (changed : List (Fin 4)) :
    (unitOrder w changed).length ≤ match w with | .full => 4 | .half => 8 := by
  unfold unitOrder
  split
  · cases w <;> simp
  · next lead l =>
    have h : ((blockOrder lead).filter (lead :: l).contains).length ≤ 4 := by
      refine (List.length_filter_le _ _).trans ?_
      fin_cases lead <;> simp [blockOrder]
    rw [List.length_flatMap]
    have hs : ∀ (xs : List (Fin 4)), ((xs.map fun b => (blockUnits w b).length).sum) =
        xs.length * (match w with | .full => 1 | .half => 2) := by
      intro xs
      induction xs with
      | nil => simp
      | cons x xs ih => rw [List.map_cons, List.sum_cons, ih, blockUnits_length, List.length_cons]; ring
    rw [hs]
    cases w <;> simp <;> omega

namespace Board

/-- The arbiter leaves the board alone, or begins a transfer to an eligible sign on a free line, or sends a due probe on a
free line that no sign needs (R162, R163). -/
theorem arbitrate_spec (b : Board) :
    b.arbitrate = b ∨
      (b.isFree = true ∧ ∃ i, b.eligible i = true ∧ b.arbitrate = b.begin i) ∨
      (b.isFree = true ∧ b.nextSign = none ∧ ∃ i, b.probeDue i = true ∧ b.arbitrate = b.sendProbe i) := by
  unfold arbitrate
  split
  · next hf =>
    split
    · next i hi =>
      refine Or.inr (Or.inl ⟨hf, i, ?_, rfl⟩)
      unfold nextSign at hi
      dsimp only at hi
      split at hi
      · next j hj =>
        have h := List.find?_some hj
        obtain rfl : j = i := by simpa using hi
        exact (Bool.and_eq_true _ _ ▸ h).1
      · exact List.find?_some hi
    · next hn =>
      split
      · next i hi => exact Or.inr (Or.inr ⟨hf, hn, i, List.find?_some hi, rfl⟩)
      · exact Or.inl rfl
  · exact Or.inl rfl

theorem begin_signs (b : Board) (i : SignId) : (b.begin i).signs = b.signs := by
  unfold begin
  split <;> rfl

/-- The arbiter changes no sign record (R162). -/
theorem arbitrate_signs (b : Board) : b.arbitrate.signs = b.signs := by
  rcases b.arbitrate_spec with h | ⟨_, i, _, h⟩ | ⟨_, _, i, _, h⟩ <;> rw [h]
  · exact begin_signs b i
  · rfl

/-- On a busy line the arbiter does nothing (R161, R162). -/
theorem arbitrate_busy {b : Board} (h : b.isFree = false) : b.arbitrate = b := by
  unfold arbitrate
  rw [h]
  rfl

end Board

end Sys2Proof.Machine
end

