-- ==== Sys2Proof/Tests/Slice0.lean ====
section
/-! SUPPORT. Tests: the refusals of `WellFormed`, the manual's worked examples, one small step for each command, and for
every obligation with hypotheses a state and operands that meet them, at the boundary values of its clauses. -/

namespace Sys2Proof.Tests

open Sys2Proof.Machine

-- ================================================================ states to test on

/-- A CLOSED segment with gate 0, sign 11, site 3 and zone 5. -/
def segment : Segment :=
  { state := .closed, holds := HoldSet.none, gates := [0], signs := [(11, .approach)], site := some 3, zones := [5],
    iceAuto := true, windAuto := true, warningInterval := 120, confirmWait := none, warningTimer := none,
    incomplete := false, restriction := ⟨3, true, false⟩ }

/-- A gate at rest in LOWERED. -/
def gate : Gate :=
  { State.idleGate with listing := [7], tMin := 8, tMax := 30, state := .lowered, loweredSwitch := ⟨true, 0⟩ }

/-- A quiet detector with trip threshold 100, 2 results to PENDING and 3 to CONFIRMED. -/
def quiet : Qualification :=
  { trip := 100, np := 2, nc := 3, notify := .both, state := .quiet, count := 0, latest := some 20, test := false }

/-- A detector's channel, owned by zone 5. -/
def detector : Channel :=
  { State.idleChannel with kind := .detector, owner := .zone 5, nf := 4, carrier := some ⟨1000, true, some 1000, 0⟩ }

/-- A site's wind channel with a gate of 1 s. -/
def wind : Channel := { State.idleChannel with kind := .wind, owner := .site 3, nf := 3, count := 52 }

/-- A zone at a set level of 0 that exposes segment 7. -/
def zone : Zone := ({ State.idleZone with exposed := [7], status := .set } : Zone).judge

/-- A desired page of class CLOSED_GENERAL. -/
def desired : Desired := { cls := .closedGeneral, ref := ⟨0, none, none, false⟩, codes := blankPage, sum := 2560 }

/-- A sign of segment 7 that needs service. -/
def sign : Sign := { State.idleSign with segment := 7, desired := some desired, urgent := true, needs := true }

/-- A commissioned part with one segment (7), one gate (0), one site in use (3), one detector (15), one wind channel (0) and
one sign (11), the key in SERVICE. -/
def base : State :=
  { State.reset with
    commissioned := true
    key := .service
    road := { segs := put State.reset.road.segs 7 (some segment), gates := put State.reset.road.gates 0 gate }
    field := { State.reset.field with
      channels := put (put State.reset.field.channels 15 detector) 0 wind, keyB := ⟨true, 0⟩ }
    sites := put State.reset.sites 3 { State.idleSite with inUse := true }
    zoneUnit := { zones := put State.reset.zoneUnit.zones 5 zone,
                  quals := put State.reset.zoneUnit.quals 15 (some quiet) }
    board := { State.reset.board with signs := put State.reset.board.signs 11 sign } }

/-- The state after a command, which every command has. -/
def after (c : Instr) (s : State) : State :=
  match exec c s with
  | .next t => t
  | _ => s

/-- The body of the reply that leaves on a link. -/
def reply (l : Link) (s : State) : List Byte :=
  match (s.links.get l).receiver with
  | .replying f => (f.drop 3).take (f.length - 5)
  | _ => []

/-- The body of the reply to a request. -/
def answer (l : Link) (c : Instr) (s : State) : List Byte := reply l (after c s)

/-- Change the one segment. -/
def withSegment (f : Segment → Segment) (s : State) : State :=
  { s with road := { s.road with segs := put s.road.segs 7 (some (f segment)) } }

/-- Change the one gate. -/
def withGate (f : Gate → Gate) (s : State) : State :=
  { s with road := { s.road with gates := put s.road.gates 0 (f gate) } }

/-- Change the latch. -/
def withLatch (f : Latch → Latch) (s : State) : State := { s with latch := f s.latch }

/-- Change the store. -/
def withStore (f : Store → Store) (s : State) : State := { s with store := f s.store }

/-- Change the detector. -/
def withDetector (f : Qualification → Qualification) (s : State) : State :=
  { s with zoneUnit := { s.zoneUnit with quals := put s.zoneUnit.quals 15 (some (f quiet)) } }

/-- A hold set with one entry. -/
def holding (k : HoldKind) (sources : List Nat) : HoldSet := put HoldSet.none k.idx (some ⟨none, none, sources⟩)

/-- A hold set with one entry of a kind without sources. -/
def held (k : HoldKind) (sg : Segment) : Segment := { sg with holds := holding k [] }

-- ================================================================ WellFormed

theorem test_wellFormed_holdPlace : (Instr.holdPlace .panel none (List.replicate 17 0)).wellFormed = false ∧
    (Instr.holdPlace .panel none (List.replicate 16 0)).wellFormed = true := by decide
theorem test_wellFormed_holdRelease : (Instr.holdRelease .panel .panel (List.replicate 17 0)).wellFormed = false := by decide
theorem test_wellFormed_reopen : (Instr.reopen .valley (List.replicate 17 0)).wellFormed = false := by decide
theorem test_wellFormed_noticeCreate :
    (Instr.noticeCreate .valley 0 ⟨0, none, 0, none, List.replicate 17 0⟩).wellFormed = false := by decide
theorem test_wellFormed_noticeAmend :
    (Instr.noticeAmend .valley 1 0 ⟨0, none, 0, none, List.replicate 17 0⟩).wellFormed = false := by decide
theorem test_wellFormed_storeWrite : (Instr.storeWrite .panel 0 1 [1, 0, 120, 0xFF]).wellFormed = false ∧
    (Instr.storeWrite .panel 0 1 [1, 0, 120, 0xFF, 0]).wellFormed = true ∧
    (Instr.storeWrite .panel 9 0 (List.replicate 248 0)).wellFormed = false := by decide +kernel
theorem test_wellFormed_silence : (Instr.linkSilenceExpiry .panel).wellFormed = false ∧
    (Instr.linkSilenceExpiry .valley).wellFormed = true := by decide

-- ================================================================ the manual's worked examples

/-- The check of the STATUS request and of ZONE_LEVEL for zone 2 at level 4 (10, Frames). -/
theorem test_frameChecks : linkFrame 0x01 [] = [0x3C, 0x01, 0x01, 0xFF, 0xFE] ∧
    linkFrame 0x0D [0x02, 0x04] = [0x3C, 0x03, 0x0D, 0x02, 0x04, 0xFF, 0xEA] := by decide

/-- The filter of a WIND channel with NF 3 over ten samples (4.7). -/
theorem test_filterExample :
    ([true, true, false, true, true, true, true, false, false, false].foldl
      (fun (p : Filter × List Bool) x => let r := p.1.sample 3 x; (r.1, p.2 ++ [r.2])) (⟨false, 0⟩, [])).2 =
    [false, false, false, false, false, true, false, false, false, true] := by decide

/-- The site of the full computation of one period (5.9). -/
def workedSite : Site :=
  { State.idleSite with
    config := { State.idleSiteConfig with f0 := 2000, s := 10, w := 700, pg := 64, mg := 24 }
    acc := ⟨205, 192, 36, some 3976, some 4010⟩, gradeRing := [2, 3, 3], windRing := [0, 0, 0] }

/-- The full computation of one period (5.9). -/
theorem test_workedPeriod : let t := workedSite.compute 2 (some 2)
    t.ts = .value (-12) ∧ t.ta = .value 5 ∧ t.vMean = some 179 ∧ t.p = some 36 ∧
      t.penalties = some ⟨21, 27, 15, 73⟩ ∧ t.g = .value 27 ∧ t.computedGrade = some 4 ∧ t.gradeRing = [2, 3, 3, 4] ∧
      t.reportedGrade = 4 ∧ t.windRing = [0, 0, 0, 0] ∧ t.reportedWind = 0 := by decide

/-- The deliveries of that period: per-gate speeds 182, 168, 192 and 175, and Ts one tenth lower for 3975 (5.9). -/
theorem test_workedDeliveries : [52, 48, 55, 50].map (gateSpeed 700 2) = [182, 168, 192, 175] ∧
    temperature workedSite.config 2 (some 3975) = .value (-13) := by decide

/-- The field values of R143. -/
theorem test_renderedFields :
    renderField ⟨.integer, 7⟩ = [32, 32, 32, 32, 55] ∧ renderField ⟨.integer, -12345⟩ = [45, 57, 57, 57, 57] ∧
    renderField ⟨.integer, 123456⟩ = [57, 57, 57, 57, 57] ∧ renderField ⟨.tenths, -12⟩ = [32, 45, 49, 46, 50] ∧
    renderField ⟨.tenths, -5⟩ = [32, 45, 48, 46, 53] ∧ renderField ⟨.tenths, 12345⟩ = [57, 57, 57, 46, 57] ∧
    renderField ⟨.time, 4513140⟩ = [48, 51, 58, 48, 48] ∧ renderField ⟨.time, -1⟩ = [50, 51, 58, 53, 57] := by decide

/-- Page 12 of the closed-notice example: "ROAD CLOSED", "UNTIL" with a run of field A, two blank blocks (8.7). -/
def noticePage : List Byte :=
  [82, 79, 65, 68, 32, 67, 76, 79, 83, 69, 68] ++ List.replicate 9 32 ++
    ([85, 78, 84, 73, 76, 32, 1] ++ List.replicate 13 32) ++ List.replicate 40 32

/-- The sums of the closed-notice example (8.7). -/
theorem test_composedPage : byteSum noticePage = 3181 ∧
    byteSum (compose noticePage ⟨12, some ⟨.time, 4513140⟩, none, false⟩) = 3305 := by decide

/-- A run that meets the end of its block is cut off there (R142, 8.7). -/
theorem test_runCutOff : composeBlock [48, 51, 58, 48, 48] [] [] (List.replicate 17 32 ++ [1, 32, 32]) =
    List.replicate 17 32 ++ [48, 51, 58] := by decide

/-- The orders of R165, and the unit order of block 1 alone on a HALF sign (9.9). -/
theorem test_unitOrders : unitOrder .full [0, 1, 2, 3] = [⟨0, .whole⟩, ⟨2, .whole⟩, ⟨1, .whole⟩, ⟨3, .whole⟩] ∧
    unitOrder .full [1, 2, 3] = [⟨1, .whole⟩, ⟨3, .whole⟩, ⟨2, .whole⟩] ∧
    unitOrder .half [1] = [⟨1, .first⟩, ⟨1, .second⟩] ∧ unitOrder .full [] = [] := by decide

/-- A hardware reset of the reset state with every input idle leaves the reset state. -/
theorem test_resetIsAReset :
    let idle : Levels := ⟨Vector.replicate 16 false, Vector.replicate 6 false, Vector.replicate 6 false, false, false⟩
    after (.hardwareReset idle) State.reset = State.reset := by decide +kernel

/-- No word spells a command: the opcode table gives no row any bits. -/
theorem test_noWordDecodes : decodeTableWord 8 1 = none ∧ State.reset.withFetchWord 8 1 = State.reset := by decide

/-- A STATUS at the front of the queue is taken and answered from reset. -/
theorem test_stepTakesTheFront : (match step { State.reset with pending := [.status .valley, .minuteTick] } with
    | .next t => t.pending == [.minuteTick] && (reply .valley t).head? == some 0
    | _ => false) = true := by decide

-- ================================================================ states that meet the hypotheses: queue and links

theorem ready_base (l : Link) : Ready l base := by cases l <;> rfl

/-- Change the record of the valley link. -/
def onValley (f : LinkRecord → LinkRecord) (s : State) : State := s.onLink .valley f

/-- The valley link's receiver in a state. -/
def receiving (r : Receiver) : State := onValley (fun x => { x with receiver := r }) base

/-- Every zone is set, and the avalanche link has been heard: a valley frame releases STARTUP. -/
def awaitingRelease : State :=
  { withSegment (held .startup) base with
    avalancheHeard := true
    zoneUnit := { base.zoneUnit with zones := Vector.replicate 6 { zone with setSinceReset := true } } }

theorem witness_StepTakesTheFrontCommand : ({ base with pending := [.minuteTick] } : State).pending = .minuteTick :: [] ∧
    base.pending = [] := by decide
theorem witness_ReplyingLinkLosesWhatArrives :
    ((base.startReply .panel 0x01 [0]).links.get .panel).replying = true ∧
      encodeRequest (.status .panel) = some (.panel, 0x01, []) := by decide
theorem witness_RequestsDecodeAsEncoded :
    (Instr.holdPlace .panel (some 0xFF) (List.replicate 16 7)).wellFormed = true ∧
      encodeRequest (.holdPlace .panel (some 0xFF) (List.replicate 16 7)) =
        some (.panel, 0x03, 1 :: 0xFF :: 16 :: List.replicate 16 7) := by decide
theorem witness_ReceiverFollowsBytesAndFaults :
    ((receiving .hunting).links.get .valley).receiver = .hunting ∧
    ((receiving (.inFrame [] 20)).links.get .valley).receiver = .inFrame [] 20 ∧
    ((receiving (.inFrame [] 21)).links.get .valley).receiver = .inFrame [] 21 ∧
    ((receiving (.inFrame [1, 1] 0)).links.get .valley).receiver = .inFrame (1 :: [1]) 0 ∧
    ([1] : List Byte).length + 1 < (1 : Byte).toNat + 2 ∧ (1 : Byte).toNat + 2 = ([1, 0xFF] : List Byte).length + 1 ∧
    (([1, 0xFF] : List Byte) ++ [0xFF]).drop 1 ≠ splitWord16 (checkOf (1 :: (([1, 0xFF] : List Byte) ++ [0xFF]).take 1)) ∧
    Ready .valley (receiving .hunting) ∧
    ((receiving (.replying [0x3C])).links.get .valley).receiver = .replying [0x3C] := by unfold Ready; decide
theorem witness_CompletedFrameTakesItsRequest :
    ((receiving (.inFrame [1, 1, 0xFF] 20)).links.get .valley).receiver = .inFrame (1 :: [1, 0xFF]) 20 ∧
    (1 : Byte).toNat = ([] : List Byte).length + 1 ∧
    ([1, 0xFF] : List Byte) ++ [0xFE] = 1 :: [] ++ splitWord16 (checkOf [1, 1]) := by decide
theorem test_completedFrame : reply .valley (after (.linkByteReceived .valley 0xFE) (receiving (.inFrame [1, 1, 0xFF] 20))) =
    answer .valley (.status .valley) (receiving .hunting) := by decide
theorem witness_FormatRefusalHearsItsFrame : Ready .valley base ∧ ¬ Releases .valley base ∧
    Ready .valley awaitingRelease ∧ Releases .valley awaitingRelease := by unfold Ready Releases; decide
theorem test_formatRefusal : answer .valley (.formatRefusal .valley 0x7F) awaitingRelease = [0x01] ∧
    ((after (.formatRefusal .valley 0x7F) awaitingRelease).road.segs.get 7).map (·.holds.empty) = some true := by decide
theorem witness_StatusReportsAndClearsOneLink : Ready .valley base := ready_base _
theorem test_status : answer .valley (.status .valley) base =
    [0, 1, 0, 1, 0, 2, 0, 0, 0, 0, 0, 1, 0, 1, 7, 3, 0, 0] ∧
    ((after (.status .valley) base).links.get .valley).attention = 0 ∧
    ((after (.status .valley) base).links.get .panel).attention = Attn.link := by decide
theorem witness_QueryReportsAndChangesNothing : Ready .panel base ∧ 9 < (10 : Byte).toNat ∧ (9 : Byte).toNat ≤ 9 ∧
    ((2 : Byte) = 2 ∧ 3 < (4 : Byte).toNat) ∧ ((9 : Byte) ≠ 2 ∧ (1 : Byte) ≠ 0) ∧ (3 : Byte).toNat ≤ 3 ∧
    (∀ i : SegId, (8 : Byte).toNat = i.val → (afterHearing .panel base).road.segs.get i = none) ∧
    (∀ i : SegId, (6 : Byte).toNat = i.val → (afterHearing .panel base).road.segs.get i = none) ∧
    ((afterHearing .panel base).road.segs.get 7).isSome = true := by unfold Ready; decide
theorem witness_QueryIds : ((5 : Byte).toNat = (5 : GateId).val ∧ 6 ≤ (6 : Byte).toNat) ∧
    ((11 : Byte).toNat = (11 : SignId).val ∧ 12 ≤ (12 : Byte).toNat) ∧
    ((5 : Byte).toNat = (5 : ZoneId).val ∧ 6 ≤ (6 : Byte).toNat) ∧
    ((15 : Byte).toNat = (15 : ChanId).val ∧ 16 ≤ (16 : Byte).toNat) ∧
    ((3 : Byte).toNat = (3 : SiteId).val ∧ 4 ≤ (4 : Byte).toNat) ∧
    ((16 : Byte) ≠ 0 ∧ (16 : Byte).toNat ≤ 16 ∧ 16 < (17 : Byte).toNat) ∧ 3 ≤ (3 : Byte).toNat := by decide
theorem test_query : answer .panel (.query .panel 0 7 0) base ≠ [4] ∧ answer .panel (.query .panel 0 8 0) base = [4] ∧
    answer .panel (.query .panel 6 16 0) base = [0x0A] ∧ answer .panel (.query .panel 6 17 0) base = [4] ∧
    answer .panel (.query .panel 2 11 4) base = [4] ∧ answer .panel (.query .panel 10 0 0) base = [4] := by decide +kernel
/-- The report of the panel link, with the LINK flag of the link just heard: state, limit, timer, the two counted sets, the key
position (R190, log 43). -/
theorem test_queryLink : answer .valley (.query .valley 9 2 0) (State.attend (Attn.gate ||| Attn.store) base) =
    [0, 9, 2, 0, 1, 0, 0, 0, 0, 0, 0, 3, 1, 8, 10, 11, 0, 1, 2, 3, 4, 5, 6, 7, 8, 9, 10, 2] := by decide +kernel

/-- The hold entries follow the segment record, which holds their kinds (log 11); true is sent as 0 and false as 1 (R190). -/
theorem test_querySegment : answer .panel (.query .panel 0 7 0) (withSegment (held .valley) base) =
    [0, 0, 7, 0, 3, 1, 1, 1, 0, 1, 11, 0, 1, 3, 1, 5, 0, 0, 0, 120, 0, 0, 0, 0, 0, 0, 0, 0, 0, 0, 1, 3, 0, 1,
      1, 1, 0, 0, 0] := by decide +kernel
theorem witness_AttentionEnableReplacesOneSet : Ready .panel base ∧ base.commissioned = true ∧
    State.reset.commissioned = false ∧ 2048 ≤ (2048 : Word16).toNat ∧ (2047 : Word16).toNat < 2048 := by
  unfold Ready; decide
theorem test_attentionEnable : answer .panel (.attentionEnable .panel 2047) base = [0, 7, 0xFF] ∧
    answer .panel (.attentionEnable .panel 2048) base = [4] ∧
    ((after (.attentionEnable .panel 0) base).links.get .panel).line = false := by decide

/-- A base state whose valley and avalanche timers have run out. -/
def silent : State :=
  { base with links := { base.links with valley := { base.links.valley with active := true, timer := some 0 },
                                         avalanche := { base.links.avalanche with active := true, timer := some 0 } } }

theorem witness_SilenceTimerExpires : silent.links.valley.timer = some 0 ∧ silent.links.avalanche.timer = some 0 ∧
    silent.links.valley.active = true ∧ silent.links.avalanche.active = true ∧
    (silent.zoneUnit.zones.get 5).closure = false ∧ (silent.zoneUnit.zones.get 5).status = .set ∧
    (silent.zoneUnit.zones.get 0).status = .unknown := by decide
theorem test_linkSilenceExpiry :
    ((after (.linkSilenceExpiry .avalanche) silent).zoneUnit.zones.get 5).closure = true ∧
    (((after (.linkSilenceExpiry .avalanche) silent).road.segs.get 7).map fun sg => sg.holds.entry .zone) =
      some (some ⟨none, none, [5]⟩) ∧
    (after (.linkSilenceExpiry .valley) silent).links.valley.active = false ∧
    (after (.linkSilenceExpiry .avalanche) silent).links.panel.attention &&& Attn.zone = Attn.zone ∧
    (after (.linkSilenceExpiry .avalanche) { silent with zoneUnit := State.reset.zoneUnit }).links.panel.attention
      &&& Attn.zone = 0 := by decide

-- ================================================================ segments and gates

/-- Names: the id of the configured segment, the last id, and an id above the ids. -/
theorem names_base : NamesConfigured base.road [7] ∧ ¬ NamesConfigured base.road [6] ∧
    ¬ NamesConfigured base.road [8] ∧ ¬ NamesConfigured base.road [] := by unfold NamesConfigured; decide

theorem witness_HoldPlaceCreatesOrUpdates : Ready .panel base ∧ segListFits [7] = true ∧
    segListFits (List.replicate 16 7) = true ∧ base.key ≠ .locked ∧ State.reset.key = .locked ∧
    base.commissioned = true ∧ NamesConfigured base.road [7] ∧ ¬ NamesConfigured base.road [8] :=
  ⟨ready_base _, by decide, by decide, by decide, by decide, by decide, names_base.1, names_base.2.2.1⟩
theorem test_holdPlace : answer .panel (.holdPlace .panel (some 9) [7]) base = [0] ∧
    (((after (.holdPlace .panel (some 9) [7]) base).road.segs.get 7).map fun sg => sg.holds.entry .panel) =
      some (some ⟨none, some 9, []⟩) ∧
    answer .panel (.holdPlace .panel none []) base = [4] ∧ answer .panel (.holdPlace .panel none [8]) base = [4] := by
  decide
theorem test_holdPlaceOpen : ((after (.holdPlace .valley none [7]) (withSegment (fun sg => { sg with state := .opened })
    base)).road.segs.get 7).map (·.state) = some .warning := by decide
theorem witness_HoldReleaseRemovesTheNamedKind : Ready .panel base ∧ segListFits [7] = true ∧
    MayRelease base .panel .panel ∧ MayRelease base .panel .valley ∧ ¬ MayRelease base .panel .avalanche ∧
    MayRelease base .valley .valley ∧ MayRelease base .avalanche .avalanche ∧ base.commissioned = true ∧
    NamesConfigured base.road [7] ∧ ¬ NamesConfigured base.road [8] ∧
    (State.reset.key = .locked ∧ State.reset.links.valley.active = false) :=
  ⟨ready_base _, by decide, by unfold MayRelease; decide, by unfold MayRelease; decide, by unfold MayRelease; decide,
    by unfold MayRelease; decide, by unfold MayRelease; decide, by decide, names_base.1, names_base.2.2.1, by decide⟩
theorem test_holdRelease :
    answer .panel (.holdRelease .panel .panel [7]) (withSegment (held .panel) base) = [0] ∧
    ((after (.holdRelease .panel .panel [7]) (withSegment (held .panel) base)).road.segs.get 7).map (·.holds.empty) =
      some true ∧ answer .panel (.holdRelease .panel .avalanche [7]) base = [2] := by decide
theorem witness_StartupReleaseRemovesStartup : Ready .panel base ∧ base.key = .service ∧ base.commissioned = true ∧
    (∀ i sg, base.road.segs.get i = some sg → sg.holds.entry .startup = none) := by
  refine ⟨ready_base _, by decide, by decide, ?_⟩
  have h : ∀ i, base.road.segs.get i = none ∨ base.road.segs.get i = some segment := by decide
  intro i sg k
  rcases h i with e | e <;> rw [e] at k <;> cases k
  decide
theorem test_startupRelease : answer .panel (.startupRelease .panel) (withSegment (held .startup) base) = [0] ∧
    ((after (.startupRelease .panel) (withSegment (held .startup) base)).road.segs.get 7).map (·.holds.empty) =
      some true ∧ answer .valley (.startupRelease .valley) base = [2] := by decide
theorem heard_base : (heardState .valley base).road = base.road := rfl
theorem road_base : RoadLaw (heardState .valley base) := by
  refine ⟨⟨by rw [heard_base]; decide, fun i sg h => ?_, by rw [heard_base]; decide⟩, by
    rw [heard_base]; unfold DemandLaw; decide⟩
  rw [heard_base] at h
  have k : ∀ i, base.road.segs.get i = none ∨ (i = 7 ∧ base.road.segs.get i = some segment) := by decide
  rcases k i with e | ⟨k, e⟩ <;> rw [e] at h <;> cases h
  subst k
  exact ⟨by decide, by decide, by decide⟩
theorem safe_base : RaiseSafe (heardState .valley base).road := by rw [heard_base]; unfold RaiseSafe; decide
theorem witness_ReopenAnswersForEachSegment : Ready .valley base ∧ segListFits [7, 7] = true ∧
    ValleyOrSilentPanel base .valley ∧ ValleyOrSilentPanel base .panel ∧ base.links.valley.active = false ∧
    silent.links.valley.active = true ∧ base.commissioned = true ∧ NamesConfigured base.road [7] ∧
    ¬ NamesConfigured base.road [6] ∧ RoadLaw (heardState .valley base) ∧ RaiseSafe (heardState .valley base).road ∧
    lists [7] 7 = true ∧ reopenOutcome (heardState .valley base) 7 = .ok :=
  ⟨ready_base _, by decide, by unfold ValleyOrSilentPanel; decide, by unfold ValleyOrSilentPanel; decide, by decide,
    by decide, by decide, names_base.1, names_base.2.1, road_base, safe_base, by decide, by decide⟩
theorem witness_ReopenGuards :
    (base.road.segs.get 7).map (fun sg => (sg.state, sg.holds.empty)) = some (.closed, true) ∧
    ((withSegment (fun sg => { sg with state := .opened }) base).road.segs.get 7).map (·.state) = some .opened ∧
    ((withSegment (held .panel) base).road.segs.get 7).map (fun sg => (sg.state, sg.holds.empty)) = some (.closed, false) ∧
    ((withGate (fun g => g.fail .stall) base).road.gates.get 0).state = .fault ∧
    (segment.signs.filter fun p => p.2 == .approach) = [(11, .approach)] := by decide
theorem witness_ReopenOfOneSegment : Ready .valley base ∧ ValleyOrSilentPanel base .valley ∧ base.commissioned = true ∧
    (heardState .valley base).road.segs.get 7 = some segment ∧ segment.state = .closed ∧ segment.holds.empty = true ∧
    RoadLaw (heardState .valley base) ∧
    segment.gates = [0] ∧ ((heardState .valley base).road.gates.get 0).listing = [7] ∧
    ((heardState .valley base).road.gates.get 0).state = .lowered ∧
    ((heardState .valley base).road.gates.get 0).demand = .lower ∧
    ((heardState .valley base).road.gates.get 0).raisedSwitch.level = false ∧
    ((heardState .valley base).board.line.records.get 11).state ≠ .fault :=
  ⟨ready_base _, by unfold ValleyOrSilentPanel; decide, by decide, by decide, by decide, by decide, road_base, by decide,
    by decide, by decide, by decide, by decide, by decide⟩
theorem test_reopen : answer .valley (.reopen .valley [7]) base = [0, 0] ∧
    ((after (.reopen .valley [7]) base).road.gates.get 0).state = .raising ∧
    answer .valley (.reopen .valley [7]) (withSegment (held .panel) base) = [6, 6] ∧
    answer .valley (.reopen .valley [7]) (withGate (fun g => g.fail .stall) base) = [7, 7] := by
  decide
theorem test_reopenInOrder : answer .valley (.reopen .valley [7, 7]) base = [0, 0, 5] ∧
    answer .valley (.reopen .valley [7, 7]) (withSegment (held .panel) base) = [6, 6, 6] := by decide
theorem test_reopenRefused :
    answer .valley (.reopen .valley [7]) (withSegment (fun sg => { sg with state := .opened }) base) = [5, 5] ∧
    answer .avalanche (.reopen .avalanche [7]) base = [2] ∧
    answer .valley (.reopen .valley [7]) { base with board := base.board.setRecord 11 fun r =>
      { r with state := .fault, cause := some .noReply } } = [8, 8] := by decide

/-- The segment in WARNING with a VALLEY hold. -/
def warned (wait timer : Timer) : State :=
  withSegment (fun sg => { held .valley sg with state := .warning, confirmWait := wait, warningTimer := timer }) base

theorem witness_SegmentTimersExpire :
    ((warned (some 0) none).road.segs.get 7).map (fun sg => (sg.state, sg.warningTimer, sg.confirmWait)) =
      some (.warning, none, some 0) ∧
    ((warned none (some 0)).road.segs.get 7).map (fun sg => (sg.state, sg.warningTimer)) = some (.warning, some 0) := by
  decide
theorem test_confirmationWaitExpiry : ((after (.confirmationWaitExpiry 7) (warned (some 0) none)).road.segs.get 7).map
    (fun sg => (sg.confirmWait, sg.warningTimer)) = some (none, some 120000) := by decide
theorem test_warningTimerExpiry : ((after (.warningTimerExpiry 7) (warned none (some 0))).road.segs.get 7).map
    (fun sg => (sg.state, sg.incomplete)) = some (.closed, false) := by decide
theorem witness_GateFaultClearResolvesTheGate : Ready .panel base ∧ base.key = .service ∧ base.commissioned = true ∧
    (5 : Byte).toNat = (5 : GateId).val ∧ 6 ≤ (6 : Byte).toNat ∧
    ((withGate (fun g => g.fail .stall) base).road.gates.get 0).state = .fault ∧
    Quiet (withGate (fun g => g.fail .stall) base).road ((withGate (fun g => g.fail .stall) base).road.gates.get 0) :=
  ⟨ready_base _, by decide, by decide, by decide, by decide, by decide, by unfold Quiet; decide⟩
theorem test_gateFaultClear : answer .panel (.gateFaultClear .panel 0) (withGate (fun g => g.fail .stall) base) =
      [0, 2, 0] ∧ answer .panel (.gateFaultClear .panel 5) base = [5] ∧
    answer .panel (.gateFaultClear .panel 6) base = [4] := by decide

/-- The segment in CLOSING and its gate in a CHECKED travel to LOWERED, ms after its start. -/
def closing (ms : Nat) : State :=
  withGate (fun g => { g.travel .lower .checked with timer := some ms, raisedSwitch := ⟨false, 0⟩,
                                                     loweredSwitch := ⟨false, 0⟩ })
    (withSegment (fun sg => { held .full sg with state := .closing }) base)

theorem witness_EndSwitchChangeMovesTheGate : ((base.road.gates.get 0).switch .lowered).level ≠ false ∧
    (closing 8000).road.segs.get 7 = some { held .full segment with state := .closing } ∧
    ((closing 8000).road.gates.get 0).listing = [7] ∧ ((closing 8000).road.gates.get 0).state = .lowering ∧
    ((closing 8000).road.gates.get 0).demand = .lower ∧
    ((closing 8000).road.gates.get 0).loweredSwitch.level = false ∧
    ((closing 8000).road.gates.get 0).check = some .checked ∧ ¬ 8000 < ((closing 8000).road.gates.get 0).tMinMs ∧
    7999 < ((closing 7999).road.gates.get 0).tMinMs ∧ Quiet base.road (base.road.gates.get 0) :=
  ⟨by decide, by decide, by decide, by decide, by decide, by decide, by decide, by decide, by decide,
    by unfold Quiet; decide⟩
theorem test_endSwitchArrives : let t := after (.endSwitchChange 0 .lowered true) (closing 8000)
    (t.road.gates.get 0).state = .lowered ∧ (t.road.segs.get 7).map (fun sg => (sg.state, sg.incomplete)) =
      some (.closed, false) := by decide
theorem test_endSwitchEarlyOrDisplaced :
    ((after (.endSwitchChange 0 .lowered true) (closing 7999)).road.gates.get 0).cause = some .early ∧
    ((after (.endSwitchChange 0 .lowered false) base).road.gates.get 0).cause = some .displaced := by decide
/-- The segment in OPENING and its gate in a CHECKED travel to RAISED, ms after its start. -/
def opening (ms : Nat) : State :=
  withGate (fun g => { g.travel .raise .checked with demand := .raise, timer := some ms, raisedSwitch := ⟨false, 0⟩,
                                                     loweredSwitch := ⟨false, 0⟩ })
    (withSegment (fun sg => { sg with state := .opening }) base)

/-- The segment in OPENING again while its gate still lowers: the demand is RAISE (R34). -/
def reversing (ms : Nat) : State :=
  withGate (fun g => { g.travel .lower .checked with
      demand := .raise, timer := some ms, raisedSwitch := ⟨false, 0⟩, loweredSwitch := ⟨false, 0⟩ })
    (withSegment (fun sg => { sg with state := .opening }) base)

theorem witness_EndSwitchUnderARaiseDemand : ((reversing 8000).road.gates.get 0).state = .lowering ∧
    ((reversing 8000).road.gates.get 0).demand = .raise ∧ (reversing 8000).road.isIn 7 .opening = true ∧
    ¬ 8000 < ((reversing 8000).road.gates.get 0).tMinMs ∧ RoadLaw (reversing 8000) := by
  refine ⟨by decide, by decide, by decide, by decide, ⟨by decide, fun i sg h => ?_, by decide⟩, by unfold DemandLaw; decide⟩
  have k : ∀ i, (reversing 8000).road.segs.get i = none ∨
    (i = 7 ∧ (reversing 8000).road.segs.get i = some { segment with state := .opening }) := by decide
  rcases k i with e | ⟨k, e⟩ <;> rw [e] at h <;> cases h
  subst k
  exact ⟨by decide, by decide, by decide⟩

/-- A gate that arrives at LOWERED under a RAISE demand leaves at once for RAISING (R34, R37), with GATE attention (R43). -/
theorem test_endSwitchTurnsRound : let t := after (.endSwitchChange 0 .lowered true) (reversing 8000)
    ((t.road.gates.get 0).state, (t.road.gates.get 0).check, (t.road.gates.get 0).timer, (t.road.gates.get 0).raiseDrive) =
      (.raising, some .checked, some 0, true) ∧ t.links.panel.attention &&& Attn.gate = Attn.gate ∧
    (t.road.segs.get 7).map (·.state) = some .opening := by decide

/-- Segments 6 and 7 in OPENING, with gate 0 between them. -/
def sharing (ms : Nat) : State :=
  let s := opening ms
  { s with road := { segs := put s.road.segs 6 (some { segment with state := .opening, signs := [] }),
                     gates := put s.road.gates 0 { s.road.gates.get 0 with listing := [6, 7] } } }

theorem witness_EndSwitchChangeOpens : (opening 8000).road.segs.get 7 = some { segment with state := .opening } ∧
    ((opening 8000).road.gates.get 0).listing = [7] ∧ ((opening 8000).road.gates.get 0).state = .raising ∧
    ((opening 8000).road.gates.get 0).demand = .raise ∧ ((opening 8000).road.gates.get 0).loweredSwitch.level = false ∧
    ((opening 8000).road.gates.get 0).raisedSwitch.level = false ∧
    ((opening 8000).road.gates.get 0).check = some .checked ∧ ¬ 8000 < ((opening 8000).road.gates.get 0).tMin * 1000 ∧
    7999 < ((opening 7999).road.gates.get 0).tMin * 1000 := by decide
theorem test_endSwitchOpens :
    ((after (.endSwitchChange 0 .raised true) (opening 8000)).road.segs.get 7).map (·.state) = some .opened ∧
    ((after (.endSwitchChange 0 .raised true) (opening 7999)).road.segs.get 7).map (fun sg => (sg.state, sg.incomplete)) =
      some (.closed, true) := by decide
theorem witness_TravelTimeoutStalls : ((closing 30000).road.gates.get 0).state = .lowering ∧
    ((closing 30000).road.gates.get 0).timer = some (((closing 30000).road.gates.get 0).tMax * 1000) ∧
    ((sharing 30000).road.gates.get 0).state = .raising ∧ ((sharing 30000).road.gates.get 0).listing = [6, 7] ∧
    ((sharing 30000).road.gates.get 0).timer = some (((sharing 30000).road.gates.get 0).tMax * 1000) ∧
    ((sharing 30000).road.segs.get 6).map (·.state) = some .opening ∧
    ((sharing 30000).road.segs.get 7).map (·.state) = some .opening := by decide
theorem test_travelTimeout : let t := after (.travelTimeout 0) (closing 30000)
    (t.road.gates.get 0).cause = some .stall ∧ (t.road.segs.get 7).map (fun sg => (sg.state, sg.incomplete)) =
      some (.closed, true) := by decide

/-- The fault of a boundary gate aborts both openings (R20, R42). -/
theorem test_faultAbortsBothOpenings : let t := after (.travelTimeout 0) (sharing 30000)
    [t.road.segs.get 6, t.road.segs.get 7].map (Option.map fun sg => (sg.state, sg.incomplete)) =
      [some (.closed, true), some (.closed, true)] := by decide
-- ================================================================ the latch

/-- The latch in a state with its window. -/
def latched (st : LatchState) (window : Timer) : State :=
  withLatch (fun l => { l with state := st, window := window,
                               proposer := match window with | none => none | some _ => some .valley })
    (withSegment (held .full) base)

theorem witness_FullCloseLatches : Ready .avalanche base ∧ base.commissioned = true ∧ base.latch.state = .clear ∧
    (latched .proposed (some 1)).latch.state = .proposed ∧ (latched .latched none).latch.state = .latched ∧
    State.reset.commissioned = false ∧ base.store.inFlight = none ∧ newestSlot base.store = none ∧
    newestSlot (withStore (fun st => { st with slot1 := .valid (withCheck [1, 255]), slot0 := .valid (withCheck [0, 0]) })
      base).store = some (false, 0) := by unfold Ready; decide
theorem test_fullClose : let t := after (.fullClose .avalanche) base
    reply .avalanche t = [0] ∧ t.latch.state = .latched ∧
      (t.road.segs.get 7).map (fun sg => (sg.state, sg.holds.has .full)) = some (.closed, true) ∧
      t.store.inFlight = some (.latchSlot false .latched 0) := by decide
theorem witness_ReleaseProposeOpensTheWindow : Ready .avalanche base ∧ base.links.valley.active = false ∧
    (latched .latched none).commissioned = true ∧ (latched .latched none).latch.state ≠ .clear ∧
    (latched .proposed (some 0)).latch.state ≠ .clear ∧ base.latch.state = .clear := by unfold Ready; decide
theorem test_releasePropose : answer .avalanche (.releasePropose .avalanche) (latched .latched none) = [0, 1, 44] ∧
    (after (.releasePropose .avalanche) (latched .latched none)).latch.proposer = some .avalanche ∧
    answer .panel (.releasePropose .panel) (latched .latched none) = [2] ∧
    answer .valley (.releasePropose .valley) base = [5] := by decide
theorem witness_ReleaseConfirmClears : Ready .panel base ∧ base.key = .service ∧ base.commissioned = true ∧
    (latched .proposed (some 1)).store.inFlight = none ∧
    (latched .proposed (some 1)).latch.state = .proposed ∧ (latched .latched none).latch.state ≠ .proposed := by
  unfold Ready; decide
theorem test_releaseConfirm : let t := after (.releaseConfirm .panel) (latched .proposed (some 1))
    reply .panel t = [0] ∧ t.latch.state = .clear ∧ (t.road.segs.get 7).map (·.holds.empty) = some true ∧
      answer .panel (.releaseConfirm .panel) (latched .latched none) = [5] := by decide
theorem witness_JointWindowExpires : (latched .proposed (some 0)).latch.state = .proposed ∧
    (latched .proposed (some 0)).latch.window = some 0 ∧ (latched .latched none).latch.state = .latched ∧
    (latched .latched none).latch.window = none ∧ (latched .latched none).key = .service ∧
    Ready .panel (latched .latched none) ∧ Ready .valley (latched .proposed (some 1)) := by unfold Ready; decide
theorem test_jointWindowExpiry : let t := after .jointWindowExpiry (latched .proposed (some 0))
    t.latch.state = .latched ∧ t.latch.window = none ∧
      (t.road.segs.get 7).map (·.holds.has .full) = some true := by decide

/-- A store write in flight. -/
def writing (w : StoreWrite) : State := withStore (fun st => { st with inFlight := some w }) base

/-- A latch word write behind a write in flight is held pending (R56). -/
theorem test_fullCloseWhileWriting : let t := after (.fullClose .valley) (writing .erase)
    t.store.inFlight = some .erase ∧ t.store.latchPending = true := by decide
theorem witness_LatchWordWriteCompletes :
    (writing (.latchSlot false .latched 0)).store.inFlight = some (.latchSlot false .latched 0) ∧
    (writing (.latchSlot false .latched 0)).latch.persisted ≠ .latched ∧
    (writing (.latchSlot true .clear 255)).latch.persisted = .clear := by decide
theorem test_latchWordWriteComplete : let t := after .latchWordWriteComplete (writing (.latchSlot false .latched 0))
    t.store.slot0 = .valid (withCheck [1, 0]) ∧ t.latch.stored = .latched ∧
      t.store.inFlight = some (.latchSlot true .clear 1) := by decide
theorem witness_LatchWordReadsBackItsLastWrite :
    slotOf (.valid (withCheck [1, 255])) = some (.latched, 255) ∧ slotOf (.valid (withCheck [0, 0])) = some (.clear, 0) ∧
    (0 : Byte) = 255 + 1 ∧ ((2 : Byte) ≠ 0 + 1 ∧ (0 : Byte) ≠ 2 + 1) ∧ ((7 : Byte) ≠ 7 + 1) ∧
    (slotOf (.valid (withCheck [1, 255]))).isSome = true ∧ ¬ (Record.failing [1] = .blank ∧ Record.blank = .blank) := by
  decide
theorem test_latchWordTable : readLatchWord .blank .blank = .clear ∧ readLatchWord .blank (.failing [1]) = .latched ∧
    readLatchWord (.failing [1]) (.valid (withCheck [0, 9])) = .clear ∧
    readLatchWord (.valid (withCheck [0, 7])) (.valid (withCheck [0, 7])) = .latched := by decide
theorem test_latchWordWraps : readLatchWord (.valid (withCheck [1, 255])) (.valid (withCheck [0, 0])) = .clear ∧
    nextSlot (.valid (withCheck [1, 255])) (.valid (withCheck [0, 0])) = (false, 1) := by decide

-- ================================================================ the store

/-- The bytes, without check, of a description that passes the load checks: segments 0 to 2 defined, two gates each, every
sign at segment 0, segment 0 served by site 0 with a SURFACE_TEMP channel 0, and a DETECTOR channel 1 of zone 0. -/
def recordBytes (n : Fin 53) : List Byte :=
  if n.val = 0 then [0, 120, 0, 60, 1, 44] ++ (List.range 12).flatMap fun c => [BitVec.ofNat 8 c, 0, 0, 0, 0, 0]
  else if n.val = 1 then [1, 0, 120, 0, 3]
  else if n.val ≤ 3 then [1, 0, 120, 0xFF, 0]
  else if n.val ≤ 8 then [0, 0, 0, 0, 0]
  else if n.val ≤ 14 then [1, BitVec.ofNat 8 ((n.val - 9) / 2), 0, 8, 30]
  else if n.val ≤ 26 then [0, 1]
  else if n.val ≤ 32 then [4, 3, 4, 0]
  else if n.val = 33 then [2, 0, 0, 3, 0, 0, 0, 0, 0, 0]
  else if n.val = 34 then [5, 0, 0, 3, 5, 0, 9, 2, 3, 3]
  else if n.val ≤ 48 then List.replicate 10 0
  else [0, 0, 1, 0, 0, 1, 1, 0, 85, 70, 55, 40, 0, 200, 1, 44, 4, 3]

/-- A store with that description. -/
def described (st : Store) : Store := { st with description := Vector.ofFn fun n => .valid (withCheck (recordBytes n)) }

theorem test_describedPasses : (described State.blankStore).loadOk = true ∧ State.blankStore.loadOk = false := by decide

theorem inUse_described (t : SiteId) : InUse (described State.blankStore) t ↔ t = 0 := by
  constructor
  · rintro ⟨kind, ⟨low, high⟩, named⟩
    have : kind = 1 ∨ kind = 2 ∨ kind = 3 ∨ kind = 4 := by omega
    rcases this with rfl | rfl | rfl | rfl <;> revert named <;> revert t <;> decide +kernel
  · rintro rfl
    exact ⟨2, by unfold InRange; decide, by decide +kernel⟩

theorem passes_described : PassesLoad (described State.blankStore) := by
  refine ⟨fun n => ⟨withCheck (recordBytes n), by simp [described, Vector.get]; rfl⟩, ?_, by decide, by decide +kernel, by decide +kernel,
    by decide +kernel, by decide +kernel, by decide +kernel, ?_, ?_, by decide +kernel⟩
  · simp only [← fieldsOk_iff]
    decide +kernel
  · intro t h
    rw [inUse_described] at h
    subst h
    decide +kernel
  · simp only [inUse_described]
    decide +kernel

theorem fails_blank (st : Store) (h : st.description = State.blankStore.description) : ¬ PassesLoad st := by
  rintro ⟨valid, _⟩
  obtain ⟨b, e⟩ := valid 0
  rw [h] at e
  cases e

/-- The one segment CLOSED, commissioning mode on. -/
def inMode (s : State) : State := withStore (fun st => { st with modeOn := true, enteredSince := true }) s

theorem witness_StoreWriteBegins : Ready .panel (inMode base) ∧ Ready .valley base ∧
    storeBytesFit 0 1 [1, 0, 120, 0xFF, 0] = true ∧ storeBytesFit 0 52 (recordBytes 52) = true ∧
    storeBytesFit 0 53 [] = true ∧ storeBytesFit 1 127 (List.replicate 80 32) = true ∧ storeBytesFit 1 128 [] = true ∧
    FieldsInRange 1 [1, 2, 88, 3, 3] ∧ ¬ FieldsInRange 1 [1, 2, 89, 3, 3] ∧ ¬ FieldsInRange 1 [2, 0, 120, 0xFF, 0] ∧
    FieldsInRange 14 [1, 7, 0, 60, 240] ∧ ¬ FieldsInRange 14 [1, 7, 0, 60, 60] ∧ ¬ FieldsInRange 14 [1, 7, 1, 8, 30] ∧
    FieldsInRange 26 [7, 1] ∧ FieldsInRange 32 [5, 5, 5, 0xFF] ∧ ¬ FieldsInRange 32 [5, 5, 4, 0xFF] ∧
    FieldsInRange 48 [5, 5, 3, 63, 1, 0, 1, 8, 15, 3] ∧ ¬ FieldsInRange 48 [4, 3, 3, 63, 1, 0, 0, 0, 0, 0] ∧
    FieldsInRange 52 (recordBytes 52) ∧ FieldsInRange 0 (recordBytes 0) ∧ (inMode base).store.modeOn = true ∧
    (inMode base).store.protectDesc = false ∧ (inMode base).store.inFlight = none ∧
    (writing .erase).store.inFlight.isSome = true := by
  refine ⟨rfl, rfl, ?_⟩
  simp only [← fieldsOk_iff]
  decide +kernel
theorem test_storeWrite : answer .panel (.storeWrite .panel 0 1 [1, 0, 120, 0xFF, 0]) (inMode base) = [0] ∧
    (after (.storeWrite .panel 0 1 [1, 0, 120, 0xFF, 0]) (inMode base)).store.inFlight =
      some (.description 1 (withCheck [1, 0, 120, 0xFF, 0])) ∧
    answer .panel (.storeWrite .panel 0 1 [2, 0, 120, 0xFF, 0]) (inMode base) = [4] ∧
    answer .valley (.storeWrite .valley 0 1 [1, 0, 120, 0xFF, 0]) (inMode base) = [2] := by decide
theorem test_storeWriteRefused : answer .panel (.storeWrite .panel 0 53 []) (inMode base) = [4] ∧
    answer .valley (.storeWrite .valley 1 128 []) base = [4] ∧ answer .valley (.storeWrite .valley 2 0 [0, 0, 0]) base = [4] ∧
    answer .panel (.storeWrite .panel 0 1 [1, 0, 120, 0xFF, 0]) base = [5] ∧
    answer .panel (.storeWrite .panel 0 1 [1, 0, 120, 0xFF, 0]) (inMode (writing .erase)) = [14] ∧
    answer .panel (.storeWrite .panel 0 1 [1, 0, 120, 0xFF, 0])
      (withStore (fun st => { st with protectDesc := true }) (inMode base)) = [15] := by decide +kernel
theorem witness_StoreWriteCompletes : (writing (.description 52 [1])).store.inFlight = some (.description 52 [1]) ∧
    (writing (.control [1])).store.inFlight = some (.control [1]) ∧
    (writing (.library 0 noticePage)).store.inFlight = some (.library 0 noticePage) ∧
    (base.board.signs.get 11).desired = some desired ∧ desired.ref.page = 0 ∧
    compose (noticePage.take 80) desired.ref ≠ desired.codes := by decide
theorem test_storeWriteComplete : let t := after .storeWriteComplete (writing (.library 0 (withCheck noticePage)))
    t.store.library.get 0 = .valid (withCheck noticePage) ∧ (t.board.signs.get 11).contentMark = true ∧
      t.store.inFlight = none := by decide +kernel
theorem witness_StoreReadAndStoreSumReport : Ready .avalanche base ∧ base.store.record 0 52 = some .blank ∧
    base.store.record 0 53 = none ∧ base.store.record 1 127 = some .blank ∧ base.store.record 1 128 = none ∧
    base.store.record 2 2 = some .blank ∧ base.store.record 2 3 = none ∧ base.store.record 3 0 = none ∧
    base.store.writing 0 52 = false ∧ (writing .erase).store.inFlight = some .erase ∧
    base.store.inFlight ≠ some .erase ∧ (writing (.description 52 [1])).store.writing 0 52 = true ∧
    (withStore described base).store.record 0 52 = some (.valid (withCheck (recordBytes 52))) := by
  refine ⟨rfl, ?_⟩
  decide +kernel

/-- Every record valid: the low byte of the sum is that of the commission id (R201). -/
theorem witness_StoreSumOfValidRecords :
    let st := { described State.blankStore with
      library := Vector.replicate 128 (.valid (withCheck (List.replicate 80 32))), commissionId := 0x0107 }
    (∀ i, ∃ b, st.description.get i = .valid (withCheck b)) ∧ (∀ i, ∃ b, st.library.get i = .valid (withCheck b)) :=
  ⟨fun i => ⟨recordBytes i, by simp [described, Vector.get]; rfl⟩, fun i => ⟨List.replicate 80 32, by simp [Vector.get]⟩⟩
theorem test_storeRead : answer .avalanche (.storeRead .avalanche 0 52) base = [0, 0] ∧
    answer .avalanche (.storeRead .avalanche 0 53) base = [4] ∧
    answer .avalanche (.storeRead .avalanche 0 52) (writing (.description 52 [1])) = [0, 3] ∧
    answer .avalanche (.storeRead .avalanche 2 1)
      (withStore (fun st => { st with slot0 := .valid [1, 0, 255] }) base) = [0, 1, 1, 0, 255] := by decide
theorem test_storeSum : answer .valley (.storeSum .valley) (writing .erase) = [14] ∧
    (answer .valley (.storeSum .valley) base).length = 3 := by decide +kernel
theorem witness_ProtectionAndCommissioningMode : Ready .panel base ∧ base.key = .service ∧ (1 : Byte).toNat < 2 ∧
    2 ≤ (2 : Byte).toNat ∧ base.store.protectDesc = false ∧ base.store.protectLib = false ∧
    base.store.inFlight = none ∧ base.store.latchPending = false ∧ base.store.enteredSince = false ∧
    State.reset.commissioned = false ∧ (base.road.segs.get 7).map (·.state) = some .closed ∧
    (inMode base).store.modeOn = true := by
  refine ⟨rfl, ?_⟩
  decide
theorem test_protectSet : answer .panel (.protectSet .panel 1) base = [0] ∧
    (after (.protectSet .panel 1) base).store.inFlight = some (.control (withCheck [0, 0, 2])) ∧
    answer .panel (.protectSet .panel 2) base = [4] ∧ answer .panel (.protectSet .panel 0) (writing .erase) = [14] := by
  decide
theorem test_commissionEnter : answer .panel (.commissionEnter .panel) base = [0] ∧
    (after (.commissionEnter .panel) base).store.modeOn = true ∧
    answer .panel (.commissionEnter .panel) (inMode base) = [5] ∧
    answer .panel (.commissionEnter .panel) (withSegment (fun sg => { sg with state := .opened }) base) = [5] := by decide
theorem test_commissionExit : answer .panel (.commissionExit .panel) (inMode base) = [0] ∧
    (after (.commissionExit .panel) (inMode base)).store.modeOn = false ∧
    answer .panel (.commissionExit .panel) base = [5] := by decide
theorem witness_EraseBlanksTheStore : Ready .panel (inMode base) ∧ (inMode base).key = .service ∧
    (inMode base).store.modeOn = true ∧ (inMode base).store.inFlight = none ∧
    (writing .erase).store.inFlight = some .erase ∧ (base.board.signs.get 11).desired = some desired ∧
    compose (List.replicate 80 32) desired.ref = desired.codes := by
  refine ⟨rfl, ?_⟩
  decide
theorem test_storeErase : answer .panel (.storeErase .panel) (inMode base) = [0] ∧
    (after (.storeErase .panel) (inMode base)).store.inFlight = some .erase ∧
    answer .panel (.storeErase .panel) base = [5] := by decide
theorem test_eraseComplete : let t := after .eraseComplete (withLatch (fun l => { l with state := .latched })
      (withStore described (writing .erase)))
    t.store.description.get 0 = .blank ∧ t.store.inFlight = some (.latchSlot false .latched 0) := by decide +kernel

/-- An erase recomposes a sign whose page had other codes (R154). -/
theorem test_eraseRecomposes : let t := after .eraseComplete { writing .erase with
      board := base.board.setSign 11 fun g => { g with desired := some { desired with codes := noticePage }, needs := false } }
    (t.board.signs.get 11).contentMark = true ∧ t.board.line.transfer.map (·.target) = some 11 := by decide +kernel

/-- A commissioned part that COMMIT finds ready. -/
def committable : State := inMode (withStore described base)

theorem witness_CommitReloads : Ready .panel committable ∧ committable.key = .service ∧
    committable.store.modeOn = true ∧ (∀ i sg, committable.road.segs.get i = some sg → sg.state = .closed) ∧
    committable.notices.list = [] ∧ committable.store.inFlight = none ∧ committable.store.latchPending = false ∧
    PassesLoad committable.store ∧ ¬ PassesLoad (inMode base).store := by
  refine ⟨rfl, by decide, by decide, ?_, by decide, by decide, by decide, passes_described, fails_blank _ rfl⟩
  have h : ∀ i, committable.road.segs.get i = none ∨ committable.road.segs.get i = some segment := by decide
  intro i sg k
  rcases h i with e | e <;> rw [e] at k <;> cases k
  rfl
theorem test_commit : let t := after (.commit .panel) committable
    reply .panel t = [0, 0, 1] ∧ (t.road.segs.get 0).map (fun sg => (sg.state, sg.holds.has .startup)) =
      some (.closed, true) ∧ (t.road.segs.get 7).isSome = false ∧ (t.board.signs.get 11).segment = 0 ∧
      t.store.inFlight = some (.control (withCheck [0, 1, 0])) ∧ (t.sites.get 0).inUse = true ∧
      (t.field.channels.get 1).carrier = some ⟨50, true, some 50, 0⟩ ∧
      t.zoneUnit.quals.get 1 = some ⟨9, 2, 3, .both, .quiet, 0, none, false⟩ := by decide +kernel

/-- Every input idle but for key pin A. -/
def levels : Levels := ⟨Vector.replicate 16 false, Vector.replicate 6 false, Vector.replicate 6 true, true, false⟩

theorem witness_HardwareResetStartsUp : (withStore described base).store.inFlight = none ∧
    PassesLoad ((withStore described base).store.cut 0).reload ∧ ¬ PassesLoad (base.store.cut 0).reload ∧
    (base.store.cut 0).reload.control = .blank ∧
    ((withStore (fun st => { st with control := .valid [1, 44, 3, 0] }) base).store.cut 0).reload.control =
      .valid [1, 44, 3, 0] ∧
    ((withStore (fun st => { st with control := .failing [1] }) base).store.cut 0).reload.control = .failing [1] ∧
    (writing .erase).store.inFlight ≠ none :=
  ⟨by decide +kernel, passes_described, fails_blank _ rfl, by decide +kernel, by decide +kernel, by decide +kernel,
    by decide +kernel⟩
theorem test_hardwareReset : let t := after (.hardwareReset levels) { withStore described base with pending := [.minuteTick] }
    t.commissioned = true ∧ t.key = .operate ∧ (t.road.segs.get 2).map (·.state) = some .closed ∧
      (t.road.gates.get 0).state = .lowered ∧ t.pending = [.minuteTick] ∧
      t.board.line.transfer.map (·.target) = some 0 := by decide +kernel
theorem witness_HardwareResetCutsAWrite :
    (writing (.description 52 [1])).store.inFlight = some (.description 52 [1]) ∧
    (writing (.library 127 [1])).store.inFlight = some (.library 127 [1]) ∧
    (writing (.control [1])).store.inFlight = some (.control [1]) ∧
    (writing (.latchSlot true .latched 255)).store.inFlight = some (.latchSlot true .latched 255) ∧
    (writing .erase).store.inFlight = some .erase := by decide

/-- A cut record write leaves its record failing and the others as they stood (R195). -/
theorem test_resetCutsAWrite : let t := after (.hardwareReset levels) (writing (.library 127 [1, 2]))
    (∃ torn, t.store.library.get 127 = .failing torn) ∧ t.store.library.get 126 = .blank ∧ t.store.control = .blank :=
  ⟨⟨_, rfl⟩, rfl, rfl⟩
theorem test_resetReadsTheControlRecord :
    let t := after (.hardwareReset levels) (withStore (fun st => { st with control := .valid [1, 44, 2, 0] }) base)
    t.store.commissionId = 300 ∧ t.store.protectDesc = false ∧ t.store.protectLib = true := by decide +kernel
theorem test_hardwareResetUnloaded : let t := after (.hardwareReset levels) base
    t.commissioned = false ∧ (t.road.segs.get 7).isSome = false ∧ t.latch.state = .clear := by decide +kernel

-- ================================================================ field inputs and conditions

theorem witness_KeyPinChangeDecodesTheKey : (base.field.pin .a).level ≠ true ∧ (base.field.pin .b).level ≠ false := by
  decide
theorem test_keyPinChange : (after (.keyPinChange .b false) (inMode base)).key = .locked ∧
    (after (.keyPinChange .b false) (inMode base)).store.modeOn = false ∧
    (after (.keyPinChange .a true) base).key = .locked := by decide
theorem witness_PulseChangeCountsAndFeedsTheCarrier : (base.field.channels.get 0).acceptedLevel ≠ true ∧
    (base.field.channels.get 15).acceptedLevel ≠ true := by decide
theorem test_pulseInputChange : ((after (.pulseInputChange 0 true) base).field.channels.get 0).count = 53 ∧
    ((after (.pulseInputChange 15 true) base).field.channels.get 15).count = 1 := by decide

/-- The detector's carrier counter has run out. -/
def carrierless : State := { base with field := { base.field with
  channels := put base.field.channels 15 { detector with carrier := some ⟨1000, true, some 0, 0⟩ } } }

theorem witness_CarrierLossFailsTheDetector : (carrierless.field.channels.get 15).carrier = some ⟨1000, true, some 0, 0⟩ ∧
    carrierless.zoneUnit.quals.get 15 = some quiet ∧ (carrierless.field.channels.get 15).owner = .zone 5 ∧
    quiet.state = .quiet ∧ (7 : SegId) ∈ (carrierless.zoneUnit.zones.get 5).exposed ∧
    segment.holds.has .detector = false := by decide
theorem test_carrierLoss : let t := after (.carrierLoss 15) carrierless
    (t.zoneUnit.quals.get 15).map (·.state) = some .failed ∧
      (t.road.segs.get 7).map (fun sg => sg.holds.entry .detector) = some (some ⟨none, none, [15]⟩) := by decide

/-- A measurement gate of every channel has ended, and so has a site period. -/
def elapsed (ms : Nat) : State := { base with field := { base.field with sinceEpoch := ms } }

/-- The last gate of the wind channel in its site's period has ended. -/
def atPeriodEnd : State := { elapsed 8000 with field := { (elapsed 8000).field with
  channels := put (elapsed 8000).field.channels 0 { wind with gatesEnded := 7 } } }

theorem witness_MeasurementGateDelivers : (elapsed 1000).field.gateDue 0 = true ∧ (elapsed 1000).field.gateDue 15 = true ∧
    (elapsed 999).field.gateDue 0 = false ∧ ((elapsed 1000).field.channels.get 0).owner = .site 3 ∧
    ((elapsed 1000).field.channels.get 15).owner = .zone 5 ∧ (elapsed 1000).zoneUnit.quals.get 15 = some quiet ∧
    (elapsed 1000).field.delivery 3 = [0] ∧ (elapsed 1000).field.endsPeriod 3 ((elapsed 1000).sites.get 3) = false ∧
    atPeriodEnd.field.gateDue 0 = true ∧ atPeriodEnd.field.endsPeriod 3 (atPeriodEnd.sites.get 3) = true := by decide
theorem test_measurementGateEnd : ((after (.measurementGateEnd 0) (elapsed 1000)).sites.get 3).acc.windSum = 52 ∧
    ((after (.measurementGateEnd 0) (elapsed 1000)).field.channels.get 0).last = some 52 ∧
    ((after (.measurementGateEnd 15) (elapsed 1000)).zoneUnit.quals.get 15).map (·.latest) = some (some 0) := by decide
/-- The detector with a notify mode, one result from PENDING or in it, whose gate has counted `n`. -/
def notifying (mode : NotifyMode) (st : DetectorState) (n : Nat) : State :=
  let s := withDetector (fun q => { q with notify := mode, state := st, count := 1 }) (elapsed 1000)
  { s with field := { s.field with channels := put s.field.channels 15 { detector with count := n } } }

/-- The entry to PENDING and the return to QUIET set DETECTOR attention by the notify mode (R112). -/
theorem test_notifyModes :
    ([NotifyMode.none, .enter, .leave, .both].map fun mode =>
      (after (.measurementGateEnd 15) (notifying mode .quiet 100)).links.valley.attention &&& Attn.detector != 0) =
        [false, true, false, true] ∧
    ([NotifyMode.none, .enter, .leave, .both].map fun mode =>
      (after (.measurementGateEnd 15) (notifying mode .pending 99)).links.valley.attention &&& Attn.detector != 0) =
        [false, false, true, true] := by decide
/-- At a period end the gate end is the period close (R81). -/
theorem test_gateEndClosesThePeriod : after (.measurementGateEnd 0) atPeriodEnd = after (.sitePeriodClose 3) atPeriodEnd ∧
    ((after (.measurementGateEnd 0) atPeriodEnd).sites.get 3).periodsEnded = 1 ∧
    (after (.sitePeriodClose 3) (elapsed 8000)).sites = (elapsed 8000).sites := by decide
theorem witness_InputSampleFiltersEveryInput : ∀ g : GateId,
    ((base.road.gates.get g).raisedSwitch.sample 20 (levels.raised.get g)).1.level =
      (base.road.gates.get g).raisedSwitch.level ∧
    ((base.road.gates.get g).loweredSwitch.sample 20 (levels.lowered.get g)).1.level =
      (base.road.gates.get g).loweredSwitch.level := by decide
/-- The raised switch of gate 0 one sample before its change is accepted. -/
def almostRaised : State := withGate (fun g => { g with raisedSwitch := ⟨false, 19⟩ }) base

/-- The levels under which it is, alone, accepted: every other switch keeps its filtered level. -/
def raisedLevels : Levels :=
  ⟨Vector.replicate 16 false, put (Vector.replicate 6 false) 0 true, put (Vector.replicate 6 false) 0 true, false, false⟩

theorem witness_InputSampleAcceptsOneSwitch : ∀ g : GateId,
    (((almostRaised.road.gates.get g).raisedSwitch.sample 20 (raisedLevels.raised.get g)).2 = true ↔ g = 0) ∧
    ((almostRaised.road.gates.get g).loweredSwitch.sample 20 (raisedLevels.lowered.get g)).2 = false := by decide
theorem test_inputSampleAcceptsOneSwitch :
    ((after (.inputSample raisedLevels) almostRaised).road.gates.get 0).cause = some .conflict := by decide +kernel
theorem test_inputSample : let t := after (.inputSample levels) base
    t.field.keyA = ⟨false, 1⟩ ∧ (t.road.gates.get 0).loweredSwitch = ⟨true, 0⟩ ∧
      (t.road.gates.get 1).loweredSwitch = ⟨false, 1⟩ ∧ t.field.sinceEpoch = 1 ∧
      (t.field.channels.get 15).carrier.map (·.phase) = some 1 := by decide +kernel
theorem witness_SitePeriodCloses : atPeriodEnd.field.periodDue 3 (atPeriodEnd.sites.get 3) = true ∧
    (elapsed 7999).field.periodDue 3 ((elapsed 7999).sites.get 3) = false ∧
    (elapsed 8000).field.periodDue 3 ((elapsed 8000).sites.get 3) = false ∧
    (atPeriodEnd.road.segs.get 7).map (·.site) = some (some 3) := by decide
theorem test_sitePeriodClose : let t := after (.sitePeriodClose 3) atPeriodEnd
    (t.field.channels.get 0).last = some 52 ∧ (t.sites.get 3).computedGrade = some 3 ∧ (t.sites.get 3).gradeRing = [3, 3] ∧
      (t.road.segs.get 7).map (·.restriction) = some ⟨3, true, false⟩ := by decide
theorem witness_ComputedGradeFollowsItsTable : let cfg := State.idleSiteConfig
    cfg.t4 < cfg.t3 ∧ cfg.t3 < cfg.t2 ∧ cfg.t2 < cfg.t1 ∧ cfg.t1 = 85 ∧ cfg.t4 = 40 := by decide
theorem test_grades : [85, 84, 70, 69, 55, 54, 40, 39].map (fun g => gradeOf State.idleSiteConfig (.value g)) =
    [0, 1, 1, 2, 2, 3, 3, 4] := by decide

-- ================================================================ zones and detectors

theorem witness_ZoneLevelSetsTheZone : Ready .avalanche base ∧ base.commissioned = true ∧
    (5 : Byte).toNat = (5 : ZoneId).val ∧ 6 ≤ (6 : Byte).toNat ∧ (base.zoneUnit.zones.get 5).closure = false ∧
    (7 : SegId) ∈ (base.zoneUnit.zones.get 5).exposed ∧ State.idleZone.closure = true := by
  refine ⟨rfl, ?_⟩
  decide

/-- Every zone but the last is set, and both links have been heard. -/
def lastZoneToSet : State :=
  { awaitingRelease with
    valleyHeard := true
    zoneUnit := { awaitingRelease.zoneUnit with zones := put awaitingRelease.zoneUnit.zones 5 zone } }

/-- The last ZONE_LEVEL releases STARTUP (R25). -/
theorem test_zoneLevelReleasesStartup :
    (lastZoneToSet.road.segs.get 7).map (·.holds.has .startup) = some true ∧
    ((after (.zoneLevel .avalanche 5 0) lastZoneToSet).road.segs.get 7).map (·.holds.has .startup) = some false ∧
    ((after (.zoneLevel .avalanche 4 0) lastZoneToSet).road.segs.get 7).map (·.holds.has .startup) = some true := by decide
theorem test_zoneLevel : answer .avalanche (.zoneLevel .avalanche 5 200) base = [0, 5, 5, 5] ∧
    ((after (.zoneLevel .avalanche 5 4) base).road.segs.get 7).map (fun sg => sg.holds.entry .zone) =
      some (some ⟨none, none, [5]⟩) ∧ answer .avalanche (.zoneLevel .avalanche 6 0) base = [4] := by decide

/-- The detector in a state with its latest result. -/
def detecting (st : DetectorState) (latest : Nat) : State :=
  withDetector (fun q => { q with state := st, count := 3, latest := some latest })
    (withSegment (fun sg => { sg with holds := holding .detector [15] }) base)

theorem witness_DetectorClearNeedsQuiet : Ready .avalanche base ∧ (15 : Byte).toNat = (15 : ChanId).val ∧
    (base.field.channels.get 15).kind = .detector ∧
    (detecting .confirmed 99).zoneUnit.quals.get 15 = some { quiet with state := .confirmed, count := 3, latest := some 99 } ∧
    (∀ c : ChanId, ¬ ((16 : Byte).toNat = c.val)) ∧ 99 < quiet.trip ∧ ¬ 100 < quiet.trip ∧
    ((detecting .confirmed 99).field.channels.get 15).carrierPresent = true := by
  refine ⟨rfl, ?_⟩
  decide
theorem test_detectorClear : answer .avalanche (.detectorClear .avalanche 15) (detecting .failed 99) = [0, 0] ∧
    ((after (.detectorClear .avalanche 15) (detecting .failed 99)).road.segs.get 7).map (·.holds.empty) = some true ∧
    (answer .avalanche (.detectorClear .avalanche 15) (detecting .confirmed 100)).head? = some 13 ∧
    answer .avalanche (.detectorClear .avalanche 16) base = [4] := by decide
theorem witness_TestTripCountsOneExceedingResult : Ready .panel base ∧ base.key = .service ∧
    base.commissioned = true ∧ (15 : Byte).toNat = (15 : ChanId).val ∧ (base.field.channels.get 15).kind = .detector ∧
    base.zoneUnit.quals.get 15 = some quiet ∧ (base.field.channels.get 15).owner = .zone 5 ∧
    (∀ i ∈ (base.zoneUnit.zones.get 5).exposed, (heardState .panel base).road.segState i = some .closed) ∧
    (∀ c : ChanId, ¬ ((14 : Byte).toNat = c.val ∧ (base.field.channels.get c).kind = .detector)) := by
  refine ⟨rfl, ?_⟩
  decide
theorem test_testTrip : answer .panel (.testTrip .panel 15) base = [0, 0, 1] ∧
    (answer .panel (.testTrip .panel 15) (withDetector (fun q => { q with state := .pending, count := 2 }) base)) =
      [0, 2, 3] ∧ answer .panel (.testTrip .panel 14) base = [4] ∧
    answer .panel (.testTrip .panel 15) (withSegment (fun sg => { sg with state := .opened }) base) = [5] := by decide

-- ================================================================ clock and notices

/-- Notice 1, on segment 7, in a state. -/
def notice (st : NoticeState) : Notice :=
  { id := 1, kind := .seasonal, segs := [7], start := 10, stop := some 20, lead := 0, page := none, revision := 255,
    state := st }

/-- The part with a list of notices and a clock. -/
def noticed (now : Option Nat) (l : List Notice) : State :=
  { withSegment (fun sg => { sg with holds := holding .notice [1] }) base with
    notices := { clock := { valid := now.isSome, value := now.getD 0, timer := now.map fun _ => 0 }, list := l } }

/-- A full list. -/
def sixteen : List Notice := (List.range 16).map fun k => { notice .waiting with id := k + 1, stop := none }

theorem law_one (st : NoticeState) (now : Option Nat) : NoticeLaw (noticed now [notice st]) := by
  simp [NoticeLaw, noticed, notice, Config.lastMinute]
theorem law_full : NoticeLaw (noticed none sixteen) := by
  have h : ∀ n ∈ (noticed none sixteen).notices.list, n.lead ≤ 4320 ∧ n.start ≤ Config.lastMinute ∧ n.stop = none := by
    decide
  refine ⟨by decide, by decide, by decide, by decide, fun n hn => ⟨(h n hn).1, (h n hn).2.1, fun e he => ?_⟩⟩
  rw [(h n hn).2.2] at he
  cases he
theorem law_none : NoticeLaw base := by
  simp [NoticeLaw, base, State.reset]

/-- A body for segment 7 from minute 10 to minute 20. -/
def body (start : Word32) (stop : Option Word32) : NoticeBody := ⟨start, stop, 0xFFFF, some 127, [7]⟩

theorem bodyOk_edges : BodyOk base.road (body 1048574 (some 1048575)) ∧ BodyOk base.road (body 1048575 none) ∧
    ¬ BodyOk base.road (body 1048576 none) ∧ ¬ BodyOk base.road (body 10 (some 10)) := by
  refine ⟨⟨names_base.1, by decide, ?_, ?_⟩, ⟨names_base.1, by decide, ?_, ?_⟩, ?_, ?_⟩
  · rintro e h; cases h; decide
  · rintro p h; cases h; decide
  · rintro e h; cases h
  · rintro p h; cases h; decide
  · rintro ⟨_, h, _⟩; exact absurd h (by decide)
  · rintro ⟨_, _, h, _⟩; exact absurd (h _ rfl).1 (by decide)

theorem witness_ClockMovesAndEvaluates : Ready .valley base ∧ base.commissioned = true ∧
    (1048575 : Word32).toNat ≤ 1048575 ∧ 1048575 < (1048576 : Word32).toNat ∧
    (noticed (some 1048575) []).notices.clock.valid = true ∧
    (noticed (some 1048575) []).notices.clock.timer = some 0 := by
  refine ⟨rfl, ?_⟩
  decide
theorem test_timeSet : answer .valley (.timeSet .valley 1048575) base = [0, 0, 15, 255, 255] ∧
    answer .valley (.timeSet .valley 1048576) base = [4] ∧
    ((after (.timeSet .valley 10) (noticed none [notice .waiting])).notices.list.map (·.state)) = [.inForce] ∧
    (after (.timeSet .valley 20) (noticed none [notice .waiting])).notices.list = [] := by decide
theorem test_minuteTick : (after .minuteTick (noticed (some 1048575) [])).notices.clock.value = 1048575 ∧
    ((after .minuteTick (noticed (some 9) [notice .announced])).road.segs.get 7).map (·.holds.has .notice) = some true ∧
    ((after .minuteTick (noticed (some 19) [notice .inForce])).road.segs.get 7).map (·.holds.empty) = some true := by
  decide
theorem witness_NoticeCreateAddsANotice : Ready .valley base ∧ segListFits (body 10 none).segs = true ∧ NoticeLaw base ∧
    NoticeLaw (noticed none sixteen) ∧ (noticed none sixteen).notices.list.length = 16 ∧ base.commissioned = true ∧
    BodyOk base.road (body 1048575 none) ∧ ¬ BodyOk base.road (body 1048576 none) ∧ (1 : Byte).toNat ≤ 1 ∧
    1 < (2 : Byte).toNat :=
  ⟨rfl, by decide, law_none, law_full, by decide, by decide, bodyOk_edges.2.1, bodyOk_edges.2.2.1, by decide, by decide⟩
theorem test_noticeCreate : answer .valley (.noticeCreate .valley 1 (body 10 none)) base = [0, 1, 0, 0] ∧
    answer .valley (.noticeCreate .valley 1 (body 10 none)) (noticed none sixteen) = [9] ∧
    answer .valley (.noticeCreate .valley 1 (body 10 (some 20))) (noticed (some 20) []) = [0, 1, 0, 3] ∧
    answer .valley (.noticeCreate .valley 2 (body 10 none)) base = [4] := by decide
theorem test_noticeCreateInForce :
    answer .valley (.noticeCreate .valley 0 (body 10 (some 20))) (noticed (some 19) []) = [0, 1, 0, 2] ∧
    (after (.noticeCreate .valley 0 (body 10 none)) base).notices.list.map (·.lead) = [4320] := by decide
theorem witness_NoticeAmendReplacesTheFields : Ready .valley (noticed none [notice .inForce]) ∧
    segListFits (body 10 (some 20)).segs = true ∧ NoticeLaw (noticed none [notice .inForce]) ∧
    notice .inForce ∈ (noticed none [notice .inForce]).notices.list ∧ (notice .inForce).id = (1 : Byte).toNat ∧
    (notice .inForce).revision = (255 : Byte).toNat ∧ (body 10 (some 20)).start.toNat = (notice .inForce).start ∧
    (∃ new old, (body 10 (some 20)).stop = some new ∧ (notice .inForce).stop = some old ∧ old ≤ new.toNat) ∧
    (∀ m ∈ base.notices.list, m.id ≠ (1 : Byte).toNat) ∧ NoticeLaw (noticed (some 19) [notice .inForce]) ∧
    (noticed (some 19) [notice .inForce]).notices.clock.valid = true ∧
    afterEvaluation 19 (notice .inForce) ≠ none ∧ afterEvaluation 20 (notice .inForce) = none :=
  ⟨rfl, by decide, law_one _ _, by decide, by decide, by decide, by decide, ⟨20, 20, rfl, rfl, by decide⟩, by decide,
    law_one _ _, by decide, by decide, by decide⟩

/-- An amendment that ends the notice in its own evaluation releases its segments (R135). -/
theorem test_noticeAmendEnds :
    let ending : Notice := { notice .inForce with kind := .scheduled, stop := none }
    ((after (.noticeAmend .valley 1 255 (body 10 (some 20))) (noticed (some 20) [ending])).road.segs.get 7).map
      (·.holds.empty) = some true ∧
    answer .valley (.noticeAmend .valley 1 255 (body 10 (some 20))) (noticed (some 19) [notice .inForce]) = [0, 1, 0, 2] := by
  decide
theorem test_noticeAmend :
    answer .valley (.noticeAmend .valley 1 255 (body 10 (some 20))) (noticed none [notice .inForce]) = [0, 1, 0, 2] ∧
    answer .valley (.noticeAmend .valley 1 255 (body 10 (some 19))) (noticed none [notice .inForce]) = [12, 1, 255, 2] ∧
    answer .valley (.noticeAmend .valley 1 255 (body 11 (some 20))) (noticed none [notice .inForce]) = [5, 1, 255, 2] ∧
    answer .valley (.noticeAmend .valley 1 254 (body 10 (some 20))) (noticed none [notice .inForce]) = [11, 1, 255, 2] := by
  decide
theorem witness_NoticesAreWithdrawnAndLifted : Ready .valley (noticed none [notice .inForce]) ∧
    NoticeLaw (noticed none [notice .waiting]) ∧ ValleyOrSilentPanel (noticed none [notice .inForce]) .panel ∧
    notice .inForce ∈ (noticed none [notice .inForce]).notices.list ∧ (notice .inForce).id = (1 : Byte).toNat ∧
    (noticed none [notice .inForce]).commissioned = true ∧ (notice .inForce).kind = .seasonal :=
  ⟨rfl, law_one _ _, by unfold ValleyOrSilentPanel; decide, by decide, by decide, by decide, by decide⟩
theorem test_noticeWithdraw : answer .valley (.noticeWithdraw .valley 1) (noticed none [notice .announced]) = [0, 1] ∧
    (after (.noticeWithdraw .valley 1) (noticed none [notice .announced])).notices.list = [] ∧
    answer .valley (.noticeWithdraw .valley 1) (noticed none [notice .inForce]) = [5] ∧
    answer .valley (.noticeWithdraw .valley 2) (noticed none [notice .inForce]) = [10] := by decide
theorem test_noticeLift : answer .valley (.noticeLift .valley 1) (noticed none [notice .inForce]) = [0, 1] ∧
    ((after (.noticeLift .valley 1) (noticed none [notice .inForce])).road.segs.get 7).map (·.holds.empty) = some true ∧
    answer .panel (.noticeLift .panel 1) (noticed none [notice .inForce]) = [2] ∧
    answer .valley (.noticeLift .valley 1) (noticed none [notice .waiting]) = [5] := by decide

-- ================================================================ signs

/-- An override of page 127. -/
def override (page : Byte) : OverrideBody := ⟨page, true, ⟨1, 0xFFFFFFFF⟩, ⟨3, 61⟩⟩

theorem witness_SignOverrideIsRecorded : Ready .valley base ∧ base.commissioned = true ∧
    (11 : Byte).toNat = (11 : SignId).val ∧ 12 ≤ (12 : Byte).toNat ∧ (override 127).page.toNat ≤ 127 ∧
    ¬ (override 128).page.toNat ≤ 127 ∧ (override 127).fieldB.format.toNat ≤ 3 ∧ ¬ Releases .valley base ∧
    (base.board.signs.get 11).segment = 7 ∧ base.latch.state = .clear ∧
    ((heardState .valley (withSegment (fun sg => { sg with state := .opened }) base)).road.segs.get 7).map (·.state) =
      some .opened := by
  refine ⟨rfl, ?_⟩
  unfold Releases
  decide
theorem test_signOverride : answer .valley (.signOverride .valley 11 (some (override 127)))
      (withSegment (fun sg => { sg with state := .opened }) base) = [0, 11, 12] ∧
    answer .valley (.signOverride .valley 11 (some (override 127))) base = [0, 11, 5] ∧
    answer .valley (.signOverride .valley 11 (some (override 128))) base = [4] ∧
    answer .valley (.signOverride .valley 12 none) base = [4] := by decide

theorem test_arbiterBeginsWithSelect : base.board.arbitrate.line.transfer.map (·.target) = some 11 ∧
    base.board.arbitrate.line.sent = some ⟨[0x5A, 11, 1, 1, 0, 243], none⟩ := by decide

/-- A transfer to sign 11 in a phase, its frame sent and the window open with some ms left. -/
def transferring (phase : Phase) (retry pending : Bool) (breaks ms : Nat) : State :=
  { base with board := (base.board.setRecord 11 fun r => { r with state := .sending }).setLine fun l => { l with
      transfer := some { Transfer.new 11 desired with
        phase := phase, units := [⟨0, .whole⟩], retryUsed := retry, breaks := breaks, changePending := pending }
      sent := some ⟨[], some ms⟩ } }

/-- The same, its frame's first silence taken already. -/
def silentBefore (s : State) : State :=
  { s with board := s.board.setLine fun l => { l with transfer := l.transfer.map fun t => { t with silentOnce := true } } }

/-- A probe of sign 11 whose window has some ms left. -/
def probing (ms : Nat) : State :=
  let failed := base.board.setRecord 11 fun r => { r with state := .fault, cause := some .noReply }
  { base with board := failed.setLine fun l => { l with probing := some 11, sent := some ⟨probeFrame 11, some ms⟩ } }

/-- Sign 11 in FAULT with its probe timer run out. -/
def probeReady : State :=
  { base with board := base.board.setRecord 11 fun r =>
      { r with state := .fault, cause := some .noReply, probe := .running 0 } }

theorem witness_ArbiterServesInItsOrder : base.board.line.transfer = none ∧ base.board.line.probing = none ∧
    (base.board.signs.get 11).needs = true ∧ (base.board.signs.get 11).urgent = true ∧
    (base.board.line.records.get 11).state = .stale ∧
    (∀ j : SignId, (base.board.signs.get j).needs = true →
      ((11 : SignId).val + 11 - base.board.line.lastServed.val) % 12 ≤ (j.val + 11 - base.board.line.lastServed.val) % 12) ∧
    (transferring .showing false false 0 1).board.line.transfer.isSome = true := by decide
theorem witness_LineFramesOpenAndDiscard : base.board.arbitrate.line.sent = some ⟨selectFrame 11 false, none⟩ ∧
    ([0x5A, 0x8B, 0x12, 0] : List Byte).length < 5 ∧ ([0x5B, 0x8B, 0x12, 0, 0x63] : List Byte).head? ≠ some 0x5A ∧
    ([0x63, 0] : List Byte).length ≠ (0 : Byte).toNat + 1 ∧
    ((([0x5A, 0x8B, 0x12, 0, 0] : List Byte).drop 1).map BitVec.toNat).sum % 256 ≠ 0 ∧
    (0x10 : Byte).toNat < 0x11 ∧ 0x15 < (0x16 : Byte).toNat ∧ (1 : Byte).toNat ≠ 0 ∧
    base.board.line.windowOpen = false ∧ (transferring .showing false false 0 1).board.line.addressed = some 11 ∧
    (0x8A : Byte).toNat ≠ 0x80 + 11 ∧ (transferring .showing false false 0 1).board.line.addressed ≠ some 10 ∧
    (probeReady.board.line.records.get 11).state = .fault ∧ (probeReady.board.line.records.get 11).probe = .running 0 ∧
    probeReady.board.line.transfer = none ∧ probeReady.board.line.probing = none ∧
    (∀ j, probeReady.board.eligible j = false) ∧ (∀ j, probeReady.board.probeDue j = false) := by decide
theorem test_signFrameSent :
    (after .signFrameSent { base with board := base.board.arbitrate }).board.line.sent =
      some ⟨selectFrame 11 false, some 200⟩ := by decide
theorem test_signFrameDiscard : after (.signFrameDiscard [0x5A, 0x8B, 0x12, 0, 0]) (transferring .sendingUnits false false 0 1) =
      transferring .sendingUnits false false 0 1 ∧ parseReply [0x5A, 0x8B, 0x12, 0, 0x63] = some (11, .take) := by
  decide +kernel
theorem test_probeTimerExpiry : (after (.probeTimerExpiry 11) probeReady).board.line.probing = some 11 ∧
    (after (.probeTimerExpiry 11) probeReady).board.line.sent = some ⟨[0x5A, 11, 4, 0, 241], none⟩ := by decide
theorem witness_SignRepliesMoveTheTransfer :
    (transferring .sendingUnits false false 8 1).board.line.transfer = some { Transfer.new 11 desired with
      phase := .sendingUnits, units := [⟨0, .whole⟩], breaks := 8 } ∧
    (transferring .sendingUnits false false 8 1).board.line.probing = none ∧
    (transferring .sendingUnits false false 8 1).board.line.sent = some ⟨[], some 1⟩ ∧
    (∀ phase : Phase, phase = .selecting ∨ phase = .resuming ∨ phase = .sendingUnits ∨ phase = .showing →
      ((transferring phase false false 7 0).board.line.transfer.map fun t => (t.phase, t.changePending)) =
        some (phase, false)) ∧
    (2560 : Word16).toNat = desired.sum ∧ (2561 : Word16).toNat ≠ desired.sum ∧
    (base.board.line.records.get 11).confirmed = none := by
  refine ⟨by decide, by decide, by decide, ?_, by decide, by decide, by decide⟩
  intro phase _
  rfl
theorem test_ready : ((after (.ready 11 .half 0) (transferring .selecting false false 0 1)).board.line.transfer.map
      fun t => (t.units.length, t.phase)) = some (8, .sendingUnits) ∧
    ((after (.ready 11 .half 0) (transferring .selecting false false 0 1)).board.line.records.get 11).width = .half := by
  decide
/-- A READY outside SELECTING and RESUMING and a SHOWN outside SHOWING count as a REFUSE; the READY records no width (R159,
log 23). -/
theorem test_repliesOutOfPhase :
    ((after (.ready 11 .half 0) (transferring .sendingUnits false false 0 1)).board.line.transfer.map (·.retryUsed)) =
      some true ∧
    ((after (.ready 11 .half 0) (transferring .sendingUnits false false 0 1)).board.line.records.get 11).width = .full ∧
    ((after (.signShown 11 2560) (transferring .selecting true false 0 1)).board.line.records.get 11).cause =
      some .rejected := by decide
theorem test_take : ((after (.take 11) (transferring .sendingUnits false false 0 1)).board.line.transfer.map (·.phase)) =
    some .showing ∧ (after (.take 10) (transferring .sendingUnits false false 0 1)).board.line.transfer.map (·.phase) =
      some .sendingUnits := by decide
theorem test_pause : ((after (.pause 11) (transferring .sendingUnits false false 7 1)).board.line.transfer.map
      fun t => (t.phase, t.breaks)) = some (.resuming, 8) ∧
    ((after (.pause 11) (transferring .sendingUnits false false 8 1)).board.line.records.get 11).cause = some .stalled := by
  decide
theorem test_refuse : ((after (.refuse 11) (transferring .showing false false 0 1)).board.line.transfer.map (·.retryUsed)) =
      some true ∧
    ((after (.refuse 11) (transferring .showing true false 0 1)).board.line.records.get 11).cause = some .rejected := by
  decide
theorem test_signShown : ((after (.signShown 11 2560) (transferring .showing false false 0 1)).board.line.records.get 11).state =
      .current ∧ ((after (.signShown 11 2560) (transferring .showing false false 0 1)).board.signs.get 11).needs = false ∧
    ((after (.signShown 11 2561) (transferring .showing false false 0 1)).board.line.transfer.map (·.mismatchUsed)) =
      some true := by decide
theorem witness_SilenceAndPendingChangesEndTheFrame :
    (transferring .selecting true false 0 0).board.line.sent = some ⟨[], some 0⟩ ∧
    ((transferring .selecting true false 0 0).board.line.transfer.map (·.retryUsed)) = some true ∧
    ((transferring .resuming false true 0 0).board.line.transfer.map fun t => (t.changePending, t.retryUsed, t.phase)) =
      some (true, false, .resuming) ∧ (transferring .resuming false true 0 0).board.line.probing = none ∧
    (probing 0).board.line.probing = some 11 ∧ (probing 0).board.line.transfer = none ∧
    (probing 0).board.line.sent = some ⟨probeFrame 11, some 0⟩ ∧
    ((probing 0).board.line.records.get 11).state = .fault ∧
    ((transferring .selecting true true 0 0).board.line.transfer.map (·.silentOnce)) = some false ∧
    ((silentBefore (transferring .selecting true true 0 0)).board.line.transfer.map (·.silentOnce)) = some true ∧
    ((transferring .showing false true 0 1).board.line.transfer.map fun t => (t.phase, t.page.sum)) =
      some (.showing, 2560) := by decide

/-- With a change pending, the first silence ends the transfer also after a REFUSE, and the second is FAULT (R170, log 22). -/
theorem test_silenceWithAChangePending :
    ((after .replyWindowExpiry (transferring .selecting true true 0 0)).board.line.transfer.map (·.changePending)) =
      some false ∧
    ((after .replyWindowExpiry (silentBefore (transferring .selecting true true 0 0))).board.line.records.get 11).cause =
      some .noReply ∧
    ((after (.signShown 11 2560) (transferring .showing false true 0 1)).board.line.records.get 11).confirmed.map (·.sum) =
      some 2560 := by decide
theorem test_replyWindowExpiry :
    ((after .replyWindowExpiry (transferring .selecting true false 0 0)).board.line.records.get 11).cause = some .noReply ∧
    ((after .replyWindowExpiry (transferring .selecting false true 0 0)).board.line.transfer.map (·.changePending)) =
      some false ∧
    ((after .replyWindowExpiry (probing 0)).board.line.records.get 11).probe = .running 60000 := by decide
theorem witness_FieldRestartRealigns : Ready .valley base ∧ Ready .panel base ∧ base.key = .service ∧
    State.reset.key ≠ .service ∧ base.commissioned = true ∧ State.reset.commissioned = false ∧
    Ready .valley (probing 1) ∧ (probing 1).board.line.probing = some 11 ∧ ¬ Releases .valley (probing 1) :=
  ⟨rfl, rfl, by decide, by decide, by decide, by decide, rfl, by decide, by unfold Releases; decide⟩
theorem test_fieldRestartWhileProbing : let t := after (.fieldRestart .valley) (probing 1)
    (t.board.line.records.get 11).probe = .running 60000 ∧ t.board.line.probing = none ∧ t.board.line.sent = none := by decide
theorem test_fieldRestart : let t := after (.fieldRestart .panel) (transferring .showing false false 0 1)
    reply .panel t = [0] ∧ (t.field.channels.get 0).count = 0 ∧ t.board.line.transfer.map (·.phase) = some .selecting ∧
      answer .avalanche (.fieldRestart .avalanche) base = [2] := by decide
theorem test_linkEvents : ((after (.linkReplySent .valley) (receiving (.replying [0x3C]))).links.get .valley).receiver = .hunting ∧
    ((after (.linkCheckFailure .valley) (receiving (.inFrame [1, 1] 0))).links.get .valley).receiver = .hunting ∧
    ((after (.linkBadLength .valley) (receiving (.inFrame [] 0))).links.get .valley).receiver = .hunting := by decide
theorem test_linkFaults : ((after (.linkFramingError .valley) (receiving (.inFrame [1] 0))).links.get .valley).receiver = .hunting ∧
    ((after (.interByteTimeout .valley) (receiving (.inFrame [1] 21))).links.get .valley).receiver = .hunting ∧
    ((after (.interByteTimeout .valley) (receiving (.inFrame [1] 20))).links.get .valley).receiver = .inFrame [1] 20 := by
  decide

-- ================================================================ the laws that every step keeps

/-- A state with a command waiting. -/
def queued : State := { base with pending := [.fullClose .valley] }

theorem queued_steps : ∃ t, step queued = .next t := ⟨_, rfl⟩

theorem witness_StepKeepsTheAttentionLines : LineLaw queued ∧ ∃ t, step queued = .next t :=
  ⟨by intro l; cases l <;> decide, queued_steps⟩
theorem witness_StepKeepsTheRecordLaws : RecordLaws queued ∧ ∃ t, step queued = .next t := by
  refine ⟨⟨fun i => ?_, fun z => ?_, fun g => ?_⟩, queued_steps⟩
  · have h : ∀ i : SiteId, queued.sites.get i = State.idleSite ∨ queued.sites.get i = { State.idleSite with inUse := true } := by
      decide
    rcases h i with e | e <;> rw [e] <;>
      exact ⟨by decide, by decide, by decide, by decide, by decide, by decide, by decide, by decide,
        fun g k => by cases k⟩
  · have h : ∀ z : ZoneId, (queued.zoneUnit.zones.get z).judge = queued.zoneUnit.zones.get z ∧
        (queued.zoneUnit.zones.get z).setLevel ≤ 5 ∧ (queued.zoneUnit.zones.get z).linkLoss ≤ 5 ∧
        (queued.zoneUnit.zones.get z).warnThreshold ≤ (queued.zoneUnit.zones.get z).closeThreshold := by decide
    exact h z
  · have h : ∀ g : GateId, (queued.road.gates.get g).timer = none := by decide
    have k : ∀ g : GateId, let x := queued.road.gates.get g
        x.raiseDrive = (x.state == .raising) ∧ x.lowerDrive = (x.state == .lowering) ∧
          x.cause.isSome = (x.state == .fault) ∧ x.check.isSome = x.state.target.isSome ∧
          x.timer.isSome = x.state.target.isSome := by decide
    refine ⟨(k g).1, (k g).2.1, (k g).2.2.1, (k g).2.2.2.1, (k g).2.2.2.2, fun ms e => ?_⟩
    rw [h g] at e
    cases e
theorem witness_StepKeepsTheNoticeList : NoticeLaw { noticed none sixteen with pending := [.fullClose .valley] } ∧
    ∃ t, step { noticed none sixteen with pending := [.fullClose .valley] } = .next t := ⟨law_full, ⟨_, rfl⟩⟩

/-- The one segment of the base state. -/
theorem one_segment (i : SegId) : queued.road.segs.get i = none ∨ (i = 7 ∧ queued.road.segs.get i = some segment) := by
  revert i
  decide

theorem entry_none (k : HoldKind) : HoldSet.entry HoldSet.none k = none := by cases k <;> rfl

theorem witness_StepKeepsTheSegmentLaws : SegmentLaws queued ∧ ∃ t, step queued = .next t := by
  refine ⟨⟨fun i sg h => ?_, ⟨fun i sg h => ?_, by decide, by decide⟩⟩, queued_steps⟩
  · rcases one_segment i with e | ⟨_, e⟩ <;> rw [e] at h <;> cases h
    refine ⟨fun k e h => ?_, by decide, by decide, by decide⟩
    rw [show segment.holds = HoldSet.none from rfl, entry_none] at h
    cases h
  · rcases one_segment i with e | ⟨_, e⟩ <;> rw [e] at h <;> cases h
    decide
theorem witness_StepKeepsTheSignLine : SignLineLaw queued ∧ ∃ t, step queued = .next t := by
  have h : ∀ i, (queued.board.line.records.get i) = State.idleLineRecord := by decide
  refine ⟨⟨fun t e => (by cases e), fun i e => ?_, fun i e => (by cases e), by decide, fun i => ?_⟩, queued_steps⟩
  · rw [h i] at e; cases e
  · rw [h i]; rfl
theorem witness_StepKeepsEveryStandingCause : NoticeLaw queued ∧ CauseLaw queued ∧ SourceLaw queued ∧
    ∃ t, step queued = .next t := by
  refine ⟨law_none, ⟨fun c z q i _ hq hc _ => ?_, fun z i h m => ?_, fun n i h => (by cases h), fun i sg t h ht => ?_⟩,
    fun i sg h => ?_, queued_steps⟩
  · have k : ∀ c, queued.zoneUnit.quals.get c = none ∨ queued.zoneUnit.quals.get c = some quiet := by decide
    rcases k c with e | e <;> rw [e] at hq <;> cases hq
    cases hc
  · have k : ∀ z : ZoneId, (queued.zoneUnit.zones.get z).closure = true → (queued.zoneUnit.zones.get z).exposed = [] := by
      decide
    rw [k z h] at m
    cases m
  · rcases one_segment i with e | ⟨_, e⟩ <;> rw [e] at h <;> cases h
    cases ht
    exact ⟨fun g => absurd g (by decide), fun g => absurd g (by decide)⟩
  · rcases one_segment i with e | ⟨_, e⟩ <;> rw [e] at h <;> cases h
    refine ⟨fun e k => ?_, fun e k => ?_, fun e k => ?_, fun e k => ?_⟩ <;>
      (rw [show segment.holds = HoldSet.none from rfl, entry_none] at k; cases k)
theorem witness_StepKeepsTheRaisingLaw : RoadLaw queued ∧ ∃ t, step queued = .next t := by
  refine ⟨⟨⟨by decide, fun i sg h => ?_, by decide⟩, by unfold DemandLaw; decide⟩, queued_steps⟩
  rcases one_segment i with e | ⟨k, e⟩ <;> rw [e] at h <;> cases h
  subst k
  exact ⟨by decide, by decide, by decide⟩

end Sys2Proof.Tests
end

section
/-! The state after reset: it has no segment, no notice and no transfer, and its tables hold idle records, so that each law
of the state holds of it (R27, R173, R192, R200). -/

namespace Sys2Proof.Machine

theorem reset_seg (i : SegId) : State.reset.road.segs.get i = none := get_replicate _ i
theorem reset_gate (g : GateId) : State.reset.road.gates.get g = State.idleGate := get_replicate _ g
theorem reset_site (i : SiteId) : State.reset.sites.get i = State.idleSite := get_replicate _ i
theorem reset_zone (z : ZoneId) : State.reset.zoneUnit.zones.get z = State.idleZone := get_replicate _ z
theorem reset_qual (c : ChanId) : State.reset.zoneUnit.quals.get c = none := get_replicate _ c
theorem reset_lineRecord (i : SignId) : State.reset.board.line.records.get i = State.idleLineRecord := get_replicate _ i

/-- Nothing is configured after reset, so that a law of configured segments holds of it. -/
theorem reset_no_segment {i : SegId} {sg : Segment} (h : State.reset.road.segs.get i = some sg) : False := by
  rw [reset_seg] at h
  cases h

theorem reset_lineLaw : LineLaw State.reset := by
  intro l
  cases l <;> decide

theorem reset_recordLaws : RecordLaws State.reset := by
  refine ⟨fun i => ?_, fun z => ?_, fun g => ?_⟩
  · rw [reset_site]
    refine ⟨by decide, by decide, by decide, by decide, rfl, rfl, by decide, by decide, fun g h => ?_⟩
    cases h
  · rw [reset_zone]
    exact ⟨rfl, by decide, by decide, by decide⟩
  · rw [reset_gate]
    refine ⟨rfl, rfl, rfl, rfl, rfl, fun ms h => ?_⟩
    cases h

theorem reset_noticeLaw : NoticeLaw State.reset := by
  have hl : State.reset.notices.list = [] := rfl
  unfold NoticeLaw
  rw [hl]
  simp

theorem reset_segmentLaws : SegmentLaws State.reset :=
  ⟨fun _ _ h => (reset_no_segment h).elim, fun _ _ h => (reset_no_segment h).elim, rfl, rfl⟩

theorem reset_signLineLaw : SignLineLaw State.reset := by
  unfold SignLineLaw
  intro l
  refine ⟨fun t h => (by cases h), fun i h => ?_, fun i h => (by cases h), rfl, fun i => ?_⟩
  · rw [reset_lineRecord] at h
    cases h
  · rw [reset_lineRecord]
    rfl

/-- A zone of the uncommissioned part is in closure and exposes nothing (R118). -/
theorem reset_causeLaw : CauseLaw State.reset := by
  refine ⟨fun c z q i _ h => ?_, fun z i _ h => ?_, fun n i h => (by cases h),
    fun _ _ _ h => (reset_no_segment h).elim⟩
  · rw [reset_qual] at h
    cases h
  · rw [reset_zone] at h
    cases h

theorem reset_sourceLaw : SourceLaw State.reset := fun _ _ h => (reset_no_segment h).elim

theorem reset_roadLaw : RoadLaw State.reset := by
  refine ⟨⟨fun g => ?_, fun _ _ h => (reset_no_segment h).elim, fun g i h => ?_⟩, fun g => ?_⟩
  · rw [reset_gate]
    exact ⟨List.nodup_nil, by decide⟩
  · rw [reset_gate] at h
    cases h
  · rw [reset_gate]
    exact ⟨rfl, fun h => (by cases h), fun h => (by cases h)⟩

theorem reset_raisingLaw : RaisingLaw State.reset := by
  intro g i h
  rw [reset_gate] at h
  cases h

end Sys2Proof.Machine

open Sys2Proof Sys2Proof.Machine

/-- Settles O60: each law of the state after reset, whose tables hold idle records and no segment. -/
theorem lawsHoldAtReset : Obligations.LawsHoldAtReset :=
  ⟨reset_lineLaw, reset_recordLaws, reset_noticeLaw, reset_segmentLaws, reset_signLineLaw, reset_causeLaw,
    reset_sourceLaw, reset_roadLaw, reset_raisingLaw⟩

end

section
/-! The segment laws on the road (R4, R9, R10, R50): which record each step of the segment state machine may write, and that
the hold operations and the chain of R42 keep the laws. -/

namespace Sys2Proof.Machine

-- ---------------------------------------------------------------- one segment record

/-- What the laws ask of one segment record, the latch apart: the segment law, and FULL only where it is shut (R50). -/
def SegOk (sg : Segment) : Prop := SegmentLaw sg ∧ (sg.holds.has .full = true → sg.state.shut = true)

theorem HoldSet.has_eq_false_of_empty {h : HoldSet} (he : h.empty = true) (k : HoldKind) : h.has k = false := by
  have hn : (h.get k.idx).isNone = true := (allIds_iff _).1 he k.idx
  unfold HoldSet.has HoldSet.entry
  simpa using hn

theorem HoldSet.empty_eq_false_of_has {h : HoldSet} {k : HoldKind} (hk : h.has k = true) : h.empty = false := by
  cases he : h.empty with
  | false => rfl
  | true => rw [h.has_eq_false_of_empty he k] at hk; cases hk

theorem HoldSet.has_put_same (h : HoldSet) (k : HoldKind) (o : Option HoldEntry) :
    HoldSet.has (put h k.idx o) k = o.isSome := by
  unfold HoldSet.has
  rw [entry_put, if_pos rfl]

theorem HoldSet.has_put_other (h : HoldSet) {k k' : HoldKind} (o : Option HoldEntry) (hk : k ≠ k') :
    HoldSet.has (put h k.idx o) k' = h.has k' := by
  unfold HoldSet.has
  rw [entry_put, if_neg hk]

/-- Taking an entry out of an empty hold set leaves it empty. -/
theorem HoldSet.empty_put_none {h : HoldSet} (he : h.empty = true) (k : HoldKind) :
    HoldSet.empty (put h k.idx Option.none) = true := by
  refine (allIds_iff _).2 fun i => ?_
  rw [get_put]
  split
  · rfl
  · exact (allIds_iff _).1 he i

/-- A segment that holds FULL after an entry of another kind was taken out held it before. -/
theorem HoldSet.has_of_put_none {h : HoldSet} {k k' : HoldKind}
    (hk : HoldSet.has (put h k.idx Option.none) k' = true) : h.has k' = true := by
  by_cases e : k = k'
  · subst e
    rw [h.has_put_same k Option.none] at hk
    cases hk
  · rwa [h.has_put_other Option.none e] at hk

theorem entryLaw_none : EntryLaw HoldSet.none := by
  intro k e h
  unfold HoldSet.entry HoldSet.none at h
  rw [get_replicate] at h
  cases h

/-- An entry written for its kind keeps the entry law when it has sources exactly where its kind has them, and a reason only
where its kind carries one (R4). -/
theorem EntryLaw.put {h : HoldSet} (hh : EntryLaw h) (k : HoldKind) {o : Option HoldEntry}
    (ho : ∀ e, o = some e → e.sources.isEmpty = !sourced k ∧ (e.reason.isSome = true → linkPlaced k = true)) :
    EntryLaw (Machine.put h k.idx o) := by
  intro k' e he
  rw [entry_put] at he
  split at he
  · next hk => exact hk ▸ ho e he
  · exact hh k' e he

/-- The record of a segment that has just entered a state is lawful where its hold set fits the state (R9, R13, R50). -/
theorem entered_segOk {sg : Segment} {st : SegState} (he : EntryLaw sg.holds)
    (ho : st = .opened ∨ st = .opening → sg.holds.empty = true) (hw : st = .warning → sg.holds.empty = false)
    (hf : sg.holds.has .full = true → st.shut = true) : SegOk (RoadEv.entered st sg) := by
  refine ⟨⟨he, ho, fun h => ⟨hw h, ?_⟩, fun h => ⟨?_, rfl⟩⟩, hf⟩
  · have : st = .warning := h
    simp [RoadEv.entered, this]
  · have : st ≠ .warning := h
    simp [RoadEv.entered, this]

/-- Entry to CLOSING or CLOSED asks only for lawful entries. -/
theorem entered_shut_segOk {sg : Segment} {st : SegState} (he : EntryLaw sg.holds) (hs : st.shut = true) :
    SegOk (RoadEv.entered st sg) :=
  entered_segOk he (by rintro (rfl | rfl) <;> cases hs) (by rintro rfl; cases hs) fun _ => hs

/-- Entry to OPEN or OPENING asks for an empty hold set. -/
theorem entered_open_segOk {sg : Segment} {st : SegState} (he : EntryLaw sg.holds) (hs : st = .opened ∨ st = .opening)
    (hn : sg.holds.empty = true) : SegOk (RoadEv.entered st sg) :=
  entered_segOk he (fun _ => hn) (by rcases hs with rfl | rfl <;> intro h <;> cases h) fun hf => by
    rw [sg.holds.has_eq_false_of_empty hn] at hf
    cases hf

/-- Warning confirmation moves the one running timer of a WARNING segment (R10, R11). -/
theorem startWarning_segOk {sg : Segment} (h : SegOk sg) (hw : sg.state = .warning) :
    SegOk (RoadEv.startWarning sg) := by
  obtain ⟨⟨he, _, hwarn, _⟩, hf⟩ := h
  have hn := (hwarn hw).1
  exact ⟨⟨he, fun ho => by rcases ho with h | h <;> exact absurd (hw.symm.trans h) (by decide),
    fun _ => ⟨hn, rfl⟩, fun hne => absurd hw hne⟩, hf⟩

-- ---------------------------------------------------------------- every segment of a road

/-- Every configured segment of a road is lawful. -/
def SegsOk (r : Road) : Prop := ∀ i sg, r.segs.get i = some sg → SegOk sg

theorem SegsOk.of_segs {r r' : Road} (h : SegsOk r) (e : r'.segs = r.segs) : SegsOk r' := by
  intro i sg hi
  rw [e] at hi
  exact h i sg hi

/-- The configured segments and their FULL entries are the same on two roads. -/
def FullKept (r r' : Road) : Prop := ∀ i, r'.configured i = r.configured i ∧ heldEntry r' i .full = heldEntry r i .full

theorem FullKept.rfl' (r : Road) : FullKept r r := fun _ => ⟨rfl, rfl⟩

theorem FullKept.trans' {a b c : Road} (h : FullKept a b) (k : FullKept b c) : FullKept a c := fun i =>
  ⟨(k i).1.trans (h i).1, (k i).2.trans (h i).2⟩

theorem RoadFrame.fullKept {r r' : Road} (h : RoadFrame r r') : FullKept r r' := fun i =>
  ⟨h.configured i, h.heldEntry i .full⟩

/-- A step of the road that keeps every segment lawful and every FULL entry as it was. -/
def KeepsSegs (f : RoadEv → RoadEv) : Prop := ∀ e, SegsOk e.road → SegsOk (f e).road ∧ FullKept e.road (f e).road

theorem KeepsSegs.id' : KeepsSegs fun e => e := fun e h => ⟨h, FullKept.rfl' e.road⟩

namespace RoadEv

theorem setSeg_get (e : RoadEv) (i j : SegId) (f : Segment → Segment) :
    (e.setSeg i f).road.segs.get j = if i = j then (e.road.segs.get i).map f else e.road.segs.get j := by
  show (alter e.road.segs i (Option.map f)).get j = _
  rw [get_alter]

/-- One record is written lawfully, and the others were lawful. -/
theorem setSeg_segsOk {e : RoadEv} {i : SegId} {f : Segment → Segment}
    (ho : ∀ j sg, j ≠ i → e.road.segs.get j = some sg → SegOk sg)
    (hi : ∀ sg, e.road.segs.get i = some sg → SegOk (f sg)) : SegsOk (e.setSeg i f).road := by
  intro j sg hj
  rw [setSeg_get] at hj
  split at hj
  · obtain ⟨old, hold, rfl⟩ := Option.map_eq_some_iff.1 hj
    exact hi old hold
  · next hne => exact ho j sg (fun h => hne h.symm) hj

theorem judgeWarning_segsOk (ctx : RoadCtx) {e : RoadEv} (i : SegId) (h : SegsOk e.road) :
    SegsOk (judgeWarning ctx e i).road := by
  refine setSeg_segsOk (fun j sg _ hj => h j sg hj) fun sg hi => ?_
  split
  · next hc =>
    simp only [Bool.and_eq_true, beq_iff_eq] at hc
    exact startWarning_segOk (h i sg hi) hc.1.1
  · exact h i sg hi

/-- A segment enters a state: lawful where its new record is, and the other segments were. -/
theorem enterSeg_segsOk_of (ctx : RoadCtx) {e : RoadEv} {i : SegId} {st : SegState}
    (ho : ∀ j sg, j ≠ i → e.road.segs.get j = some sg → SegOk sg)
    (hi : ∀ sg, e.road.segs.get i = some sg → SegOk (entered st sg)) : SegsOk (enterSeg ctx e i st).1.road := by
  have hset : SegsOk ((e.setSeg i (entered st)).touch i).road := setSeg_segsOk ho hi
  unfold enterSeg
  split
  · next hn =>
    intro j sg hj
    refine ho j sg ?_ hj
    rintro rfl
    rw [hn] at hj
    cases hj
  · dsimp only
    split
    · exact judgeWarning_segsOk ctx i hset
    · exact hset

theorem enterSeg_segsOk (ctx : RoadCtx) {e : RoadEv} {i : SegId} {st : SegState} (h : SegsOk e.road)
    (hi : ∀ sg, e.road.segs.get i = some sg → SegOk (entered st sg)) : SegsOk (enterSeg ctx e i st).1.road :=
  enterSeg_segsOk_of ctx (fun j sg _ hj => h j sg hj) hi

/-- CLOSING and CLOSED can be entered with any lawful entries. -/
theorem enterSeg_shut_segsOk (ctx : RoadCtx) {e : RoadEv} (i : SegId) {st : SegState} (h : SegsOk e.road)
    (hs : st.shut = true) : SegsOk (enterSeg ctx e i st).1.road :=
  enterSeg_segsOk ctx h fun sg hi => entered_shut_segOk (h i sg hi).1.1 hs

theorem handSeg_segsOk (ctx : RoadCtx) (fault : Bool) (i : SegId) {e : RoadEv} (h : SegsOk e.road) :
    SegsOk (handSeg ctx fault i e).1.road := by
  unfold handSeg
  split
  · exact h
  · split
    · exact enterSeg_shut_segsOk ctx i h rfl
    · exact h
  · exact h

theorem handAll_segsOk (ctx : RoadCtx) (fault : Bool) :
    ∀ (l : List SegId) (e : RoadEv), SegsOk e.road → SegsOk (handAll ctx fault l e).1.road
  | [], _, h => h
  | i :: l, _, h => handAll_segsOk ctx fault l _ (handSeg_segsOk ctx fault i h)

/-- The tasks on gates write no segment record. -/
theorem doTask_segs (ctx : RoadCtx) (e : RoadEv) (g : GateId) :
    (doTask ctx (.demand g) e).1.road.segs = e.road.segs ∧ (doTask ctx (.apply g) e).1.road.segs = e.road.segs ∧
      (doTask ctx (.settle g) e).1.road.segs = e.road.segs ∧ (doTask ctx (.resolve g) e).1.road.segs = e.road.segs := by
  refine ⟨?_, ?_, ?_, ?_⟩ <;> simp only [doTask]
  · split <;> rfl
  · split <;> rfl
  · split <;> rfl
  · split
    · split <;> rfl
    · rfl

/-- Each task keeps every segment lawful: only CLOSING completes and only OPENING, whose hold set is empty, is done. -/
theorem doTask_segsOk (ctx : RoadCtx) (t : Task) {e : RoadEv} (h : SegsOk e.road) :
    SegsOk (doTask ctx t e).1.road := by
  cases t with
  | demand g => exact h.of_segs (doTask_segs ctx e g).1
  | apply g => exact h.of_segs (doTask_segs ctx e g).2.1
  | settle g => exact h.of_segs (doTask_segs ctx e g).2.2.1
  | resolve g => exact h.of_segs (doTask_segs ctx e g).2.2.2
  | handed g fault => exact handAll_segsOk ctx fault _ e h
  | complete i =>
    simp only [doTask]
    split
    · split
      · next hi hc =>
        refine enterSeg_shut_segsOk ctx i (setSeg_segsOk (fun j sg _ hj => h j sg hj) fun sg hsg => ?_) rfl
        exact h i sg hsg
      · exact h
    · exact h
  | done i =>
    simp only [doTask]
    split
    · next sg hi =>
      split
      · next hc =>
        simp only [Bool.and_eq_true, beq_iff_eq] at hc
        refine enterSeg_segsOk ctx h fun sg' hi' => ?_
        obtain rfl : sg = sg' := Option.some.inj (hi.symm.trans hi')
        obtain ⟨⟨he, hempty, _⟩, _⟩ := h i sg hi
        exact entered_open_segOk he (Or.inl rfl) (hempty (Or.inr hc.1))
      · exact h
    · exact h

theorem run_segsOk (ctx : RoadCtx) (n : Nat) (tasks : List Task) {e : RoadEv} (h : SegsOk e.road) :
    SegsOk (run ctx n tasks e).road :=
  run_induction ctx (fun x => SegsOk x.road) (fun t _ hx => doTask_segsOk ctx t hx) n tasks e h

theorem chain_segsOk (ctx : RoadCtx) {r : RoadEv × List Task} (h : SegsOk r.1.road) : SegsOk (chain ctx r).road :=
  run_segsOk ctx _ _ h

-- ---------------------------------------------------------------- hold operations

/-- The entries of a kind that its rules allow: sources exactly where it has them, a reason only where it carries one (R4). -/
def EntryFits (k : HoldKind) (reason : Option Byte) (sources : List Nat) : Prop :=
  sources.isEmpty = (!sourced k) ∧ (reason.isSome = true → linkPlaced k = true)

/-- An arrival leads to a state that holds entries, and FULL shuts its segment (R9, R50). -/
theorem arrivalState_fits {sg : Segment} {k : HoldKind} {st : SegState} (h : arrivalState sg k = some st) :
    st ≠ .opened ∧ st ≠ .opening ∧ (st.shut = true ∨ (st = .warning ∧ sg.state = .opened ∧ k ≠ .full)) := by
  unfold arrivalState at h
  split at h
  · next hs =>
    split at h
    · cases h; simp [SegState.shut]
    · next hu =>
      cases h
      refine ⟨by decide, by decide, Or.inr ⟨rfl, hs, ?_⟩⟩
      rintro rfl
      simp [HoldKind.urgent] at hu
  · split at h
    · cases h; simp [SegState.shut]
    · cases h
  · cases h; simp [SegState.shut]
  · cases h

/-- Where an arrival leaves the state, the segment is shut, or in WARNING with an entry that is not FULL (R9, R14). -/
theorem arrivalState_none {sg : Segment} {k : HoldKind} (h : arrivalState sg k = none) :
    sg.state.shut = true ∨ (sg.state = .warning ∧ k ≠ .full) := by
  unfold arrivalState at h
  split at h
  · split at h <;> cases h
  · next hs =>
    split at h
    · cases h
    · next hu =>
      refine Or.inr ⟨hs, ?_⟩
      rintro rfl
      simp [HoldKind.urgent] at hu
  · cases h
  · next h1 h2 h3 =>
    left
    cases hs : sg.state <;> simp_all [SegState.shut]

theorem createEntry_segsOk (ctx : RoadCtx) (i : SegId) {k : HoldKind} {reason : Option Byte} {sources : List Nat}
    {e : RoadEv} (hf : EntryFits k reason sources) (h : SegsOk e.road) :
    SegsOk (createEntry ctx i k reason sources e).road := by
  unfold createEntry
  split
  · exact h
  · next sg hi =>
    obtain ⟨⟨he, hopen, hwarn, hquiet⟩, hfull⟩ := h i sg hi
    have hlaw : EntryLaw (put sg.holds k.idx (some ⟨ctx.since, reason, sources⟩)) :=
      he.put k fun x hx => by cases hx; exact hf
    have hhas : HoldSet.has (put sg.holds k.idx (some ⟨ctx.since, reason, sources⟩)) k = true :=
      HoldSet.has_put_same ..
    have hother : ∀ j s, j ≠ i →
        (e.writeEntry i k (some ⟨ctx.since, reason, sources⟩)).road.segs.get j = some s → SegOk s := by
      intro j s hj hs
      have hs' : (e.setSeg i _).road.segs.get j = some s := hs
      rw [setSeg_get, if_neg (Ne.symm hj)] at hs'
      exact h j s hs'
    have hself : ∀ s, (e.writeEntry i k (some ⟨ctx.since, reason, sources⟩)).road.segs.get i = some s →
        s = { sg with holds := put sg.holds k.idx (some ⟨ctx.since, reason, sources⟩) } := by
      intro s hs
      have hs' : (e.setSeg i _).road.segs.get i = some s := hs
      rw [setSeg_get, if_pos rfl, hi] at hs'
      exact (Option.some.inj hs').symm
    dsimp only
    split
    · next st hst =>
      obtain ⟨hno, hng, hshut⟩ := arrivalState_fits hst
      refine chain_segsOk ctx (enterSeg_segsOk_of ctx hother fun s hs => ?_)
      rw [hself s hs]
      refine entered_segOk hlaw (by rintro (rfl | rfl) <;> contradiction)
        (fun _ => HoldSet.empty_eq_false_of_has hhas) fun hb => ?_
      rcases hshut with hshut | ⟨_, hs', hk⟩
      · exact hshut
      · have hb' : sg.holds.has .full = true := by rwa [HoldSet.has_put_other _ _ hk] at hb
        rw [hs'] at hfull
        cases hfull hb'
    · next hst =>
      have hnone := arrivalState_none hst
      intro j s hs
      by_cases hj : j = i
      · subst hj
        rw [hself s hs]
        refine ⟨⟨hlaw, fun ho => ?_, fun hw => ⟨HoldSet.empty_eq_false_of_has hhas, (hwarn hw).2⟩, hquiet⟩, fun hb => ?_⟩
        · rcases hnone with hsh | ⟨hw, _⟩
          · rcases ho with h | h <;> simp [show sg.state = _ from h, SegState.shut] at hsh
          · rcases ho with h | h <;> simp [show sg.state = _ from h] at hw
        · rcases hnone with hsh | ⟨_, hk⟩
          · exact hsh
          · exact hfull (by rwa [HoldSet.has_put_other _ _ hk] at hb)
      · exact hother j s hj hs

/-- An entry that is rewritten for its kind changes nothing that the laws read but the entry (R6). -/
theorem writeEntry_segsOk {i : SegId} {k : HoldKind} {x : HoldEntry} {e : RoadEv} {sg : Segment} {old : HoldEntry}
    (hi : e.road.segs.get i = some sg) (ho : sg.holds.entry k = some old) (hf : EntryFits k x.reason x.sources)
    (h : SegsOk e.road) : SegsOk (e.writeEntry i k (some x)).road := by
  refine setSeg_segsOk (fun j sg _ hj => h j sg hj) fun sg' hi' => ?_
  obtain rfl : sg = sg' := Option.some.inj (hi.symm.trans hi')
  obtain ⟨⟨he, hopen, hwarn, hquiet⟩, hfull⟩ := h i sg hi
  have hk : sg.holds.has k = true := by simp [HoldSet.has, ho]
  have hne : sg.holds.empty = false := HoldSet.empty_eq_false_of_has hk
  have hne' : HoldSet.empty (put sg.holds k.idx (some x)) = false :=
    HoldSet.empty_eq_false_of_has (HoldSet.has_put_same sg.holds k (some x))
  refine ⟨⟨he.put k fun y hy => by cases hy; exact hf, fun hs => ?_, fun hw => ⟨hne', (hwarn hw).2⟩, hquiet⟩,
    fun hb => hfull ?_⟩
  · rw [hopen hs] at hne
    cases hne
  · by_cases e : k = .full
    · exact e ▸ hk
    · rwa [HoldSet.has_put_other _ _ e] at hb

theorem deleteEntry_segsOk (ctx : RoadCtx) (i : SegId) (k : HoldKind) {e : RoadEv} (h : SegsOk e.road) :
    SegsOk (deleteEntry ctx i k e).road := by
  unfold deleteEntry
  split
  · exact h
  · next sg hi =>
    obtain ⟨⟨he, hopen, hwarn, hquiet⟩, hfull⟩ := h i sg hi
    have hlaw : EntryLaw (put sg.holds k.idx none) := he.put k fun x hx => by cases hx
    have hget : ∀ j, (e.writeEntry i k none).road.segs.get j =
        if i = j then some { sg with holds := put sg.holds k.idx none } else e.road.segs.get j := by
      intro j
      show (e.setSeg i _).road.segs.get j = _
      rw [setSeg_get, hi]
      rfl
    split
    · next hk =>
      dsimp only
      split
      · next hc =>
        simp only [Bool.and_eq_true, beq_iff_eq] at hc
        refine chain_segsOk ctx (enterSeg_segsOk_of ctx (fun j s hj hs => ?_) fun s hs => ?_)
        · rw [hget, if_neg (Ne.symm hj)] at hs
          exact h j s hs
        · rw [hget, if_pos rfl] at hs
          cases hs
          exact entered_open_segOk hlaw (Or.inl rfl) hc.1
      · next hc =>
        intro j s hs
        rw [hget] at hs
        split at hs
        · cases hs
          refine ⟨⟨hlaw, fun ho => HoldSet.empty_put_none (hopen ho) k, fun hw => ⟨?_, (hwarn hw).2⟩, hquiet⟩,
            fun hb => hfull (HoldSet.has_of_put_none hb)⟩
          cases hem : HoldSet.empty (put sg.holds k.idx none) with
          | false => rfl
          | true => simp [hem, show sg.state = _ from hw] at hc
        · exact h j s hs
    · exact h

/-- Placing a kind without sources keeps the laws; FULL apart, it keeps every FULL entry. -/
theorem place_segsOk (ctx : RoadCtx) {k : HoldKind} {reason : Option Byte} (i : SegId) {e : RoadEv}
    (hs : sourced k = false) (hr : reason.isSome = true → linkPlaced k = true) (h : SegsOk e.road) :
    SegsOk (place ctx k reason i e).road := by
  unfold place
  split
  · exact h
  · next sg hi =>
    split
    · exact createEntry_segsOk ctx i ⟨by simp [hs], hr⟩ h
    · next old ho =>
      split
      · exact h
      · exact writeEntry_segsOk hi ho ⟨((h i sg hi).1.1 k old ho).1, hr⟩ h

theorem insertAsc_isEmpty (x : Nat) (l : List Nat) : (insertAsc x l).isEmpty = false := by
  cases hl : insertAsc x l with
  | nil => exact absurd (hl ▸ (mem_insertAsc x x l).2 (Or.inl rfl)) (by simp)
  | cons => rfl

theorem addSource_segsOk (ctx : RoadCtx) {k : HoldKind} (source : Nat) (i : SegId) {e : RoadEv} (hs : sourced k = true)
    (h : SegsOk e.road) : SegsOk (addSource ctx k source i e).road := by
  unfold addSource
  split
  · exact h
  · next sg hi =>
    split
    · exact createEntry_segsOk ctx i ⟨by simp [hs], fun hr => by cases hr⟩ h
    · next old ho =>
      split
      · exact h
      · refine writeEntry_segsOk hi ho ⟨?_, ((h i sg hi).1.1 k old ho).2⟩ h
        rw [insertAsc_isEmpty, hs]
        rfl

theorem removeSource_segsOk (ctx : RoadCtx) (k : HoldKind) (source : Nat) (i : SegId) {e : RoadEv}
    (h : SegsOk e.road) : SegsOk (removeSource ctx k source i e).road := by
  unfold removeSource
  split
  · exact h
  · next sg hi =>
    split
    · exact h
    · next old ho =>
      obtain ⟨hsrc, hreason⟩ := (h i sg hi).1.1 k old ho
      split
      · next hc =>
        dsimp only
        split
        · exact deleteEntry_segsOk ctx i k h
        · next hl =>
          refine writeEntry_segsOk hi ho ⟨?_, hreason⟩ h
          rw [Bool.not_eq_true] at hl
          have hne : old.sources.isEmpty = false := by
            cases hos : old.sources with
            | nil => rw [hos] at hc; simp at hc
            | cons => rfl
          rw [hl, ← hsrc, hne]
      · exact h

-- ---------------------------------------------------------------- the same with the FULL entries

/-- An operation that keeps which segments are configured and every entry of the other kinds keeps FULL. -/
theorem fullKept_of_spec {r r' : Road} {i : SegId} {k : HoldKind} {c : Prop} [Decidable c] {x : Option HoldEntry}
    (hc : ∀ j, r'.configured j = r.configured j)
    (hk : ∀ j k', heldEntry r' j k' = if i = j ∧ k = k' ∧ c then x else heldEntry r j k') (hne : k ≠ .full) :
    FullKept r r' := fun j => ⟨hc j, by rw [hk, if_neg fun h => hne h.2.1]⟩

theorem place_keepsSegs (ctx : RoadCtx) {k : HoldKind} {reason : Option Byte} (i : SegId) (hne : k ≠ .full)
    (hs : sourced k = false) (hr : reason.isSome = true → linkPlaced k = true) : KeepsSegs (place ctx k reason i) :=
  fun e h => ⟨place_segsOk ctx i hs hr h,
    fullKept_of_spec (place_spec ctx k reason i e).1 (place_spec ctx k reason i e).2 hne⟩

theorem addSource_keepsSegs (ctx : RoadCtx) {k : HoldKind} (source : Nat) (i : SegId) (hs : sourced k = true) :
    KeepsSegs (addSource ctx k source i) := fun e h =>
  ⟨addSource_segsOk ctx source i hs h, fullKept_of_spec (addSource_spec ctx k source i e).1
    (addSource_spec ctx k source i e).2 (by rintro rfl; cases hs)⟩

theorem removeSource_keepsSegs (ctx : RoadCtx) {k : HoldKind} (source : Nat) (i : SegId) (hne : k ≠ .full) :
    KeepsSegs (removeSource ctx k source i) := fun e h =>
  ⟨removeSource_segsOk ctx k source i h, fun j => ⟨(removeSource_spec ctx k source i e).1 j, by
    rw [(removeSource_spec ctx k source i e).2, if_neg fun h => hne h.2]⟩⟩

theorem deleteEntry_keepsSegs (ctx : RoadCtx) {k : HoldKind} (i : SegId) (hne : k ≠ .full) :
    KeepsSegs (deleteEntry ctx i k) := fun e h =>
  ⟨deleteEntry_segsOk ctx i k h, fun j => ⟨(deleteEntry_spec ctx i k e).1 j, by
    rw [(deleteEntry_spec ctx i k e).2, if_neg fun h => hne h.2]⟩⟩

/-- A fold of steps that keep the laws keeps them. -/
theorem keepsSegs_foldl {α : Type} {f : RoadEv → α → RoadEv} (hf : ∀ x, KeepsSegs fun e => f e x) :
    ∀ l : List α, KeepsSegs fun e => l.foldl f e
  | [], e, h => ⟨h, FullKept.rfl' e.road⟩
  | x :: l, e, h =>
    have hx := hf x e h
    have hl := keepsSegs_foldl hf l (f e x) hx.1
    ⟨hl.1, hx.2.trans' hl.2⟩

theorem each_keepsSegs {f : SegId → RoadEv → RoadEv} (hf : ∀ i, KeepsSegs (f i)) (l : List SegId) :
    KeepsSegs (each f l) := keepsSegs_foldl (f := fun e i => f i e) hf l

-- ---------------------------------------------------------------- gate events

/-- A step of a gate, with the chain that follows it, writes no hold set and keeps every segment lawful. -/
theorem chain_keepsSegs (ctx : RoadCtx) {step : RoadEv → RoadEv × List Task}
    (hs : ∀ e, (step e).1.road.segs = e.road.segs) (e : RoadEv) (h : SegsOk e.road) :
    SegsOk (chain ctx (step e)).road ∧ FullKept e.road (chain ctx (step e)).road := by
  refine ⟨chain_segsOk ctx (h.of_segs (hs e)), FullKept.trans' ?_ (chain_frame ctx (step e)).fullKept⟩
  intro i
  unfold Road.configured heldEntry
  rw [hs e]
  exact ⟨rfl, rfl⟩

theorem switchStep_segs (i : GateId) (sw : Switch) (level : Bool) (e : RoadEv) :
    (switchStep i sw level e).1.road.segs = e.road.segs := by
  unfold switchStep
  dsimp only
  split
  · split
    · rfl
    · split <;> rfl
  · split
    · rfl
    · split <;> rfl
  · split
    · rfl
    · split <;> rfl
  · split
    · rfl
    · split <;> rfl
  · rfl
  · rfl

theorem switchChange_keepsSegs (ctx : RoadCtx) (i : GateId) (sw : Switch) (level : Bool) :
    KeepsSegs (switchChange ctx i sw level) :=
  chain_keepsSegs ctx (step := fun e => switchStep i sw level (e.setGate i (setSwitch sw level)))
    fun _ => switchStep_segs ..

theorem stall_keepsSegs (ctx : RoadCtx) (i : GateId) : KeepsSegs (stall ctx i) :=
  chain_keepsSegs ctx (step := fun e => e.gateTo i ((e.road.gates.get i).fail .stall) []) fun _ => rfl

theorem clearFault_keepsSegs (ctx : RoadCtx) (i : GateId) : KeepsSegs (clearFault ctx i) :=
  chain_keepsSegs ctx
    (step := fun e => e.gateTo i ((e.road.gates.get i).enter .unknown none none none) [.resolve i]) fun _ => rfl

theorem resolveAll_keepsSegs (ctx : RoadCtx) : KeepsSegs (resolveAll ctx) :=
  keepsSegs_foldl (f := fun e i => chain ctx (e, [.resolve i]))
    (fun _ => chain_keepsSegs ctx (step := fun e => (e, [.resolve _])) fun _ => rfl) _

-- ---------------------------------------------------------------- segment events

/-- A step that has one segment enter a state, with the chain that follows. -/
theorem chain_enterSeg_keepsSegs (ctx : RoadCtx) {e : RoadEv} {i : SegId} {st : SegState} (h : SegsOk e.road)
    (hi : ∀ sg, e.road.segs.get i = some sg → SegOk (entered st sg)) :
    SegsOk (chain ctx (enterSeg ctx e i st)).road ∧ FullKept e.road (chain ctx (enterSeg ctx e i st)).road :=
  ⟨chain_segsOk ctx (enterSeg_segsOk ctx h hi), (chain_enterSeg_frame ctx e i st).fullKept⟩

theorem warningExpiry_keepsSegs (ctx : RoadCtx) (i : SegId) : KeepsSegs (warningExpiry ctx i) := fun _ h =>
  chain_enterSeg_keepsSegs ctx h fun sg hi => entered_shut_segOk (h i sg hi).1.1 rfl

/-- A REOPEN takes a segment whose hold set is empty (R18). -/
theorem reopen_keepsSegs (ctx : RoadCtx) {i : SegId} {e : RoadEv} (h : SegsOk e.road)
    (hn : ∀ sg, e.road.segs.get i = some sg → sg.holds.empty = true) :
    SegsOk (reopen ctx i e).road ∧ FullKept e.road (reopen ctx i e).road :=
  chain_enterSeg_keepsSegs ctx h fun sg hi => entered_open_segOk (h i sg hi).1.1 (Or.inr rfl) (hn sg hi)

end RoadEv

end Sys2Proof.Machine

end

section
/-! Every command keeps the segment laws: the laws as a property of the road and the latch, kept by each operation of an
event, by the judging of each request, and so by every step. -/

namespace Sys2Proof.Machine

-- ---------------------------------------------------------------- the laws of the state

/-- FULL is held by every configured segment, or by none (R50). -/
def FullIs (b : Bool) (r : Road) : Prop := ∀ i sg, r.segs.get i = some sg → sg.holds.has .full = b

/-- The window and the proposer are present exactly in PROPOSED (R49). -/
def WindowLaw (l : Latch) : Prop :=
  l.window.isSome = (l.state == .proposed) ∧ l.proposer.isSome = (l.state == .proposed)

theorem segmentLaws_iff (s : State) :
    SegmentLaws s ↔ SegsOk s.road ∧ FullIs (s.latch.state != .clear) s.road ∧ WindowLaw s.latch :=
  ⟨fun ⟨hseg, hfull, hwin⟩ =>
    ⟨fun i sg h => ⟨hseg i sg h, (hfull i sg h).2⟩, fun i sg h => (hfull i sg h).1, hwin⟩,
   fun ⟨hok, hfull, hwin⟩ =>
    ⟨fun i sg h => (hok i sg h).1, fun i sg h => ⟨hfull i sg h, (hok i sg h).2⟩, hwin⟩⟩

theorem FullKept.fullIs {b : Bool} {r r' : Road} (h : FullKept r r') (hf : FullIs b r) : FullIs b r' := by
  intro i sg' hi'
  have hc : r.configured i = true := by rw [← (h i).1]; simp [Road.configured, hi']
  obtain ⟨sg, hi⟩ := Option.isSome_iff_exists.1 hc
  have he := (h i).2
  simp only [heldEntry, hi, hi', Option.bind_some] at he
  unfold HoldSet.has
  rw [he]
  exact hf i sg hi

/-- The laws read the road and the latch record alone. -/
theorem SegmentLaws.congr {s t : State} (h : SegmentLaws s) (hr : t.road = s.road) (hl : t.latch = s.latch) :
    SegmentLaws t := by
  rw [segmentLaws_iff] at h ⊢
  rw [hr, hl]
  exact h

/-- A road that keeps every segment lawful and every FULL entry keeps the laws while the latch stands. -/
theorem SegmentLaws.of_road {s t : State} (h : SegmentLaws s) (hok : SegsOk t.road) (hk : FullKept s.road t.road)
    (hl : t.latch = s.latch) : SegmentLaws t := by
  rw [segmentLaws_iff] at h ⊢
  rw [hl]
  exact ⟨hok, hk.fullIs h.2.1, h.2.2⟩

theorem SegmentLaws.segsOk {s : State} (h : SegmentLaws s) : SegsOk s.road := ((segmentLaws_iff s).1 h).1

-- ---------------------------------------------------------------- warning confirmation, the board, the end of an event

theorem judgeWarning_segmentLaws {s : State} (i : SegId) (h : SegmentLaws s) : SegmentLaws (s.judgeWarning i) :=
  h.of_road (RoadEv.judgeWarning_segsOk s.roadCtx
      (e := { road := s.road, flags := 0, touched := Vector.replicate 8 false }) i h.segsOk)
    (RoadEv.judgeWarning_frame s.roadCtx
      { road := s.road, flags := 0, touched := Vector.replicate 8 false } i).fullKept rfl

theorem judgeSigns_segmentLaws : ∀ (l : List SignId) (s : State), SegmentLaws s → SegmentLaws (s.judgeSigns l)
  | [], _, h => h
  | i :: l, s, h => by
    show SegmentLaws (State.judgeSigns _ l)
    refine judgeSigns_segmentLaws l _ ?_
    dsimp only
    split
    · exact judgeWarning_segmentLaws _ h
    · exact h

theorem onBoard_segmentLaws (f : BoardEv → BoardEv) {s : State} (h : SegmentLaws s) : SegmentLaws (s.onBoard f) :=
  judgeSigns_segmentLaws _ _ (h.congr rfl rfl)

theorem lineStep_segmentLaws (f : BoardEv → BoardEv) {s : State} (h : SegmentLaws s) : SegmentLaws (s.lineStep f) :=
  (onBoard_segmentLaws f h).congr rfl rfl

theorem finish_segmentLaws {e : Ev} (h : SegmentLaws e.st) : SegmentLaws e.finish := by
  unfold Ev.finish
  split
  · split
    · exact h.congr rfl rfl
    · exact h
  · exact (onBoard_segmentLaws _ h).congr rfl rfl

-- ---------------------------------------------------------------- the operations of an event

/-- An operation of an event keeps the laws. -/
def KeepsLaws (f : Ev → Ev) : Prop := ∀ e, SegmentLaws e.st → SegmentLaws (f e).st

theorem keepsLaws_of_frame {f : Ev → Ev} (hr : ∀ e, (f e).st.road = e.st.road) (hl : ∀ e, (f e).st.latch = e.st.latch) :
    KeepsLaws f := fun e h => h.congr (hr e) (hl e)

theorem keepsLaws_foldl {α : Type} {f : Ev → α → Ev} (hf : ∀ x, KeepsLaws fun e => f e x) :
    ∀ l : List α, KeepsLaws fun e => l.foldl f e
  | [], _, h => h
  | x :: l, e, h => keepsLaws_foldl hf l (f e x) (hf x e h)

theorem onRoad_latch (f : RoadCtx → RoadEv → RoadEv) (e : Ev) : (e.onRoad f).st.latch = e.st.latch := rfl

theorem onRoad_segmentLaws {f : RoadCtx → RoadEv → RoadEv} {e : Ev} (h : SegmentLaws e.st)
    (hf : SegsOk (f e.st.roadCtx { road := e.st.road, flags := 0, touched := Vector.replicate 8 false }).road ∧
      FullKept e.st.road (f e.st.roadCtx { road := e.st.road, flags := 0, touched := Vector.replicate 8 false }).road) :
    SegmentLaws (e.onRoad f).st :=
  h.of_road (by rw [(onRoad_spec f e).1]; exact hf.1) (by rw [(onRoad_spec f e).1]; exact hf.2) (onRoad_latch f e)

theorem onRoad_keepsLaws {f : RoadCtx → RoadEv → RoadEv} (hf : ∀ ctx, KeepsSegs (f ctx)) :
    KeepsLaws fun e => e.onRoad f := fun e h => onRoad_segmentLaws h (hf e.st.roadCtx _ h.segsOk)

theorem place_keepsLaws {k : HoldKind} {reason : Option Byte} (l : List SegId) (hne : k ≠ .full)
    (hs : sourced k = false) (hr : reason.isSome = true → linkPlaced k = true) : KeepsLaws (Ev.place k reason l) :=
  onRoad_keepsLaws fun ctx => RoadEv.each_keepsSegs (fun i => RoadEv.place_keepsSegs ctx i hne hs hr) l

theorem remove_keepsLaws {k : HoldKind} (l : List SegId) (hne : k ≠ .full) : KeepsLaws (Ev.remove k l) :=
  onRoad_keepsLaws fun ctx => RoadEv.each_keepsSegs (fun i => RoadEv.deleteEntry_keepsSegs ctx i hne) l

theorem addSource_keepsLaws {k : HoldKind} (source : Nat) (l : List SegId) (hs : sourced k = true) :
    KeepsLaws (Ev.addSource k source l) :=
  onRoad_keepsLaws fun ctx => RoadEv.each_keepsSegs (fun i => RoadEv.addSource_keepsSegs ctx source i hs) l

theorem removeSource_keepsLaws {k : HoldKind} (source : Nat) (l : List SegId) (hne : k ≠ .full) :
    KeepsLaws (Ev.removeSource k source l) :=
  onRoad_keepsLaws fun ctx => RoadEv.each_keepsSegs (fun i => RoadEv.removeSource_keepsSegs ctx source i hne) l

-- ---------------------------------------------------------------- hearing a frame (R25, R178)

theorem judgeRelease_keepsLaws : KeepsLaws Ev.judgeRelease := by
  intro e h
  unfold Ev.judgeRelease
  split
  · exact remove_keepsLaws e.segs (by decide) e h
  · exact h

theorem setMark_keepsLaws (l : Link) : KeepsLaws (Ev.setMark l) := by
  intro e h
  unfold Ev.setMark
  split
  · split
    · exact h
    · exact judgeRelease_keepsLaws _ (h.congr rfl rfl)
  · split
    · exact h
    · exact judgeRelease_keepsLaws _ (h.congr rfl rfl)
  · exact h

theorem heard_keepsLaws (l : Link) : KeepsLaws (Ev.heard l) := by
  intro e h
  unfold Ev.heard
  refine setMark_keepsLaws l _ ?_
  split <;> exact h.congr rfl rfl

-- ---------------------------------------------------------------- zones, detectors, sites, notices

theorem onZone_keepsLaws (z : ZoneId) (f : Zone → Zone) : KeepsLaws (Ev.onZone z f) := by
  intro e h
  unfold Ev.onZone
  dsimp only
  split
  · refine addSource_keepsLaws _ _ rfl _ ?_
    split <;> exact h.congr rfl rfl
  · refine removeSource_keepsLaws _ _ (by decide) _ ?_
    split <;> exact h.congr rfl rfl
  · split <;> exact h.congr rfl rfl

theorem onQual_keepsLaws (c : ChanId) (f : Qualification → Qualification) : KeepsLaws (Ev.onQual c f) := by
  intro e h
  unfold Ev.onQual
  split
  · exact h
  · dsimp only
    split
    · exact addSource_keepsLaws _ _ rfl _ (h.congr rfl rfl)
    · exact removeSource_keepsLaws _ _ (by decide) _ (h.congr rfl rfl)
    · exact h.congr rfl rfl

theorem silence_keepsLaws (l : Link) : KeepsLaws (Ev.silence l) := by
  intro e h
  have start : SegmentLaws (if (e.st.links.get l).active then
      (e.on (State.onLink l LinkRecord.silence)).attend Attn.link
      else e.on (State.onLink l LinkRecord.silence)).st := by
    split <;> exact h.congr rfl rfl
  unfold Ev.silence
  dsimp only
  cases l with
  | avalanche => exact keepsLaws_foldl (fun z => onZone_keepsLaws z Zone.lose) _ _ start
  | valley => exact start
  | panel => exact start

theorem endGate_keepsLaws (c : ChanId) : KeepsLaws (Ev.endGate c) := by
  intro e h
  unfold Ev.endGate
  dsimp only
  split
  · exact h.congr rfl rfl
  · exact onQual_keepsLaws c _ _ (h.congr rfl rfl)
  · exact h.congr rfl rfl

theorem deliverSite_keepsLaws (i : SiteId) : KeepsLaws (Ev.deliverSite i) := fun e h =>
  keepsLaws_foldl endGate_keepsLaws (e.st.field.delivery i) e h

theorem alignWeather_keepsLaws (t : Site) (i : SegId) : KeepsLaws (Ev.alignWeather t i) := by
  intro e h
  unfold Ev.alignWeather
  split
  · exact h
  · dsimp only
    refine keepsLaws_foldl (fun c => ?_) _ _ (keepsLaws_foldl (fun c => ?_) _ e h)
    · intro e h
      dsimp only
      split
      · exact h
      · exact removeSource_keepsLaws _ _ (by decide) e h
    · intro e h
      dsimp only
      split
      · exact addSource_keepsLaws _ _ rfl e h
      · exact h

/-- The restriction record of a segment is outside the laws (R93). -/
theorem writeRestriction_keepsLaws (x : Restriction) (j : SegId) : KeepsLaws fun e => e.on fun s =>
    { s with road := { s.road with segs := alter s.road.segs j fun o => o.map fun sg => { sg with restriction := x } } } := by
  intro e h
  have hget : ∀ i, ((e.on fun s => { s with road := { s.road with
      segs := alter s.road.segs j fun o => o.map fun sg => { sg with restriction := x } } }).st.road.segs.get i) =
      if j = i then (e.st.road.segs.get j).map fun sg => { sg with restriction := x } else e.st.road.segs.get i :=
    fun i => get_alter _ _ _ _
  refine h.of_road (fun i sg hi => ?_) (fun i => ?_) rfl
  · rw [hget] at hi
    split at hi
    · obtain ⟨old, hold, rfl⟩ := Option.map_eq_some_iff.1 hi
      exact h.segsOk j old hold
    · exact h.segsOk i sg hi
  · unfold Road.configured heldEntry
    rw [hget]
    split
    · next hji => subst hji; cases e.st.road.segs.get j <;> exact ⟨rfl, rfl⟩
    · exact ⟨rfl, rfl⟩

theorem closePeriod_keepsLaws (i : SiteId) : KeepsLaws (Ev.closePeriod i) := by
  intro e h
  unfold Ev.closePeriod
  dsimp only
  refine SegmentLaws.congr (s := Ev.st (List.foldl _ _ _)) ?_ rfl rfl
  refine keepsLaws_foldl (fun j => alignWeather_keepsLaws _ j) _ _ ?_
  refine keepsLaws_foldl (fun j => writeRestriction_keepsLaws _ j) _ _ ?_
  exact h.congr rfl rfl

theorem siteGateEnd_keepsLaws (i : SiteId) : KeepsLaws (Ev.siteGateEnd i) := by
  intro e h
  unfold Ev.siteGateEnd
  split
  · exact closePeriod_keepsLaws i _ (deliverSite_keepsLaws i e h)
  · exact deliverSite_keepsLaws i e h

theorem sitePeriodEnd_keepsLaws (i : SiteId) : KeepsLaws (Ev.sitePeriodEnd i) := by
  intro e h
  unfold Ev.sitePeriodEnd
  split
  · exact closePeriod_keepsLaws i _ (deliverSite_keepsLaws i e h)
  · exact closePeriod_keepsLaws i e h

theorem measurementGateEnd_keepsLaws (c : ChanId) : KeepsLaws (Ev.measurementGateEnd c) := by
  intro e h
  unfold Ev.measurementGateEnd
  split
  · exact siteGateEnd_keepsLaws _ e h
  · exact endGate_keepsLaws c e h

theorem evaluate_keepsLaws : KeepsLaws Ev.evaluate := by
  intro e h
  unfold Ev.evaluate
  dsimp only
  refine SegmentLaws.congr (s := Ev.st (List.foldl _ _ _)) ?_ rfl rfl
  refine keepsLaws_foldl (f := fun e (n : Notice) => Ev.noticeChange n.segs e)
    (fun n => keepsLaws_of_frame (fun _ => rfl) fun _ => rfl) _ _ ?_
  refine keepsLaws_foldl (fun n => removeSource_keepsLaws _ _ (by decide)) _ _ ?_
  exact keepsLaws_foldl (fun n => addSource_keepsLaws _ _ rfl) _ _ h

theorem evaluateIfValid_keepsLaws : KeepsLaws Ev.evaluateIfValid := by
  intro e h
  unfold Ev.evaluateIfValid
  split
  · exact evaluate_keepsLaws e h
  · exact h

theorem alignNotice_keepsLaws (old new : Notice) : KeepsLaws (Ev.alignNotice old new) := by
  intro e h
  unfold Ev.alignNotice
  split
  · exact removeSource_keepsLaws _ _ (by decide) _ (addSource_keepsLaws _ _ rfl e h)
  · exact h

-- ---------------------------------------------------------------- the latch (R50 to R54)

theorem setLatch_latch (f : Latch → Latch) (e : Ev) : (e.setLatch f).st.latch = f e.st.latch := by
  unfold Ev.setLatch
  dsimp only
  split <;> rfl

theorem setLatch_road (f : Latch → Latch) (e : Ev) : (e.setLatch f).st.road = e.st.road := by
  unfold Ev.setLatch
  dsimp only
  split <;> rfl

/-- A latch change that keeps whether the latch is CLEAR keeps the laws when window and proposer follow the state. -/
theorem setLatch_segmentLaws {f : Latch → Latch} {e : Ev} (h : SegmentLaws e.st)
    (hs : ((f e.st.latch).state != .clear) = (e.st.latch.state != .clear)) (hw : WindowLaw (f e.st.latch)) :
    SegmentLaws (e.setLatch f).st := by
  rw [segmentLaws_iff] at h ⊢
  rw [setLatch_latch, setLatch_road, hs]
  exact ⟨h.1, h.2.1, hw⟩

theorem configuredIds_mem (r : Road) (i : SegId) : i ∈ r.configuredIds ↔ r.configured i = true := mem_idsWhere _ _

/-- FULL placed on, or removed from, every segment of a list stands so on each of them, and as it was on the others. -/
theorem each_full_spec {f : SegId → RoadEv → RoadEv} {b : Bool}
    (hc : ∀ i e j, (f i e).road.configured j = e.road.configured j)
    (hk : ∀ i e j, e.road.configured j = true →
      (heldEntry (f i e).road j .full).isSome = if i = j then b else (heldEntry e.road j .full).isSome) :
    ∀ (l : List SegId) (e : RoadEv) (j : SegId), (RoadEv.each f l e).road.configured j = e.road.configured j ∧
      (e.road.configured j = true → (heldEntry (RoadEv.each f l e).road j .full).isSome =
        if j ∈ l then b else (heldEntry e.road j .full).isSome)
  | [], _, _ => ⟨rfl, fun _ => by simp [RoadEv.each]⟩
  | i :: l, e, j => by
    have ih := each_full_spec hc hk l (f i e) j
    have hrun : RoadEv.each f (i :: l) e = RoadEv.each f l (f i e) := rfl
    rw [hrun]
    refine ⟨ih.1.trans (hc i e j), fun hj => ?_⟩
    rw [ih.2 ((hc i e j).trans hj), hk i e j hj]
    by_cases hij : i = j
    · simp [hij]
    · simp [hij, Ne.symm hij]

theorem fullIs_of_each {f : SegId → RoadEv → RoadEv} {b : Bool}
    (hc : ∀ i e j, (f i e).road.configured j = e.road.configured j)
    (hk : ∀ i e j, e.road.configured j = true →
      (heldEntry (f i e).road j .full).isSome = if i = j then b else (heldEntry e.road j .full).isSome)
    (e : RoadEv) : FullIs b (RoadEv.each f e.road.configuredIds e).road := by
  intro j sg hj
  have hs := each_full_spec hc hk e.road.configuredIds e j
  have hcj : e.road.configured j = true := by rw [← hs.1]; simp [Road.configured, hj]
  have h := hs.2 hcj
  rw [if_pos ((configuredIds_mem _ _).2 hcj)] at h
  simpa [heldEntry, hj, HoldSet.has] using h

/-- FULL placed on every configured segment keeps each of them lawful, and all of them hold it (R50, R51). -/
theorem place_full_segs (ctx : RoadCtx) {e : RoadEv} (h : SegsOk e.road) :
    SegsOk (RoadEv.each (RoadEv.place ctx .full none) e.road.configuredIds e).road ∧
      FullIs true (RoadEv.each (RoadEv.place ctx .full none) e.road.configuredIds e).road := by
  refine ⟨?_, fullIs_of_each (fun i e => (RoadEv.place_spec ctx .full none i e).1) (fun i e j hj => ?_) e⟩
  · have hl : ∀ (l : List SegId) (e : RoadEv), SegsOk e.road →
        SegsOk (RoadEv.each (RoadEv.place ctx .full none) l e).road := by
      intro l
      induction l with
      | nil => exact fun _ h => h
      | cons i l ih => exact fun e h => ih _ (RoadEv.place_segsOk ctx i rfl (fun hr => by cases hr) h)
    exact hl _ e h
  · rw [(RoadEv.place_spec ctx .full none i e).2]
    by_cases hij : i = j
    · subst hij; simp [hj]
    · simp [hij]

/-- FULL removed from every configured segment keeps each of them lawful, and none of them holds it (R50, R54). -/
theorem remove_full_segs (ctx : RoadCtx) {e : RoadEv} (h : SegsOk e.road) :
    SegsOk (RoadEv.each (fun i => RoadEv.deleteEntry ctx i .full) e.road.configuredIds e).road ∧
      FullIs false (RoadEv.each (fun i => RoadEv.deleteEntry ctx i .full) e.road.configuredIds e).road := by
  refine ⟨?_, fullIs_of_each (fun i e => (RoadEv.deleteEntry_spec ctx i .full e).1) (fun i e j _ => ?_) e⟩
  · have hl : ∀ (l : List SegId) (e : RoadEv), SegsOk e.road →
        SegsOk (RoadEv.each (fun i => RoadEv.deleteEntry ctx i .full) l e).road := by
      intro l
      induction l with
      | nil => exact fun _ h => h
      | cons i l ih => exact fun e h => ih _ (RoadEv.deleteEntry_segsOk ctx i .full h)
    exact hl _ e h
  · rw [(RoadEv.deleteEntry_spec ctx i .full e).2]
    by_cases hij : i = j
    · simp [hij]
    · simp [hij]

theorem fullClose_keepsLaws : KeepsLaws Ev.fullClose := by
  intro e h
  unfold Ev.fullClose
  split
  · next hc =>
    rw [segmentLaws_iff] at h ⊢
    have hp := place_full_segs (e.setLatch Latch.toLatched).st.roadCtx
      (e := { road := (e.setLatch Latch.toLatched).st.road, flags := 0, touched := Vector.replicate 8 false })
      (by rw [setLatch_road]; exact h.1)
    have hl : (((e.setLatch Latch.toLatched).place .full none e.segs).requestLatchWrite).st.latch =
        e.st.latch.toLatched := setLatch_latch _ _
    have hr : (((e.setLatch Latch.toLatched).place .full none e.segs).requestLatchWrite).st.road =
        (RoadEv.each (RoadEv.place (e.setLatch Latch.toLatched).st.roadCtx .full none)
          (e.setLatch Latch.toLatched).st.road.configuredIds
          { road := (e.setLatch Latch.toLatched).st.road, flags := 0, touched := Vector.replicate 8 false }).road := by
      refine (onRoad_spec (fun ctx => RoadEv.each (RoadEv.place ctx .full none) e.segs) (e.setLatch Latch.toLatched)).1.trans ?_
      rw [setLatch_road]
      rfl
    rw [hl, hr]
    exact ⟨hp.1, hp.2, rfl, rfl⟩
  · next hp => exact setLatch_segmentLaws h (by rw [hp]; rfl) ⟨rfl, rfl⟩
  · exact h

theorem releaseFull_segmentLaws {e : Ev} (h : SegmentLaws e.st) : SegmentLaws e.releaseFull.st := by
  unfold Ev.releaseFull
  rw [segmentLaws_iff] at h ⊢
  have hp := remove_full_segs (e.setLatch Latch.toClear).st.roadCtx
    (e := { road := (e.setLatch Latch.toClear).st.road, flags := 0, touched := Vector.replicate 8 false })
    (by rw [setLatch_road]; exact h.1)
  have hl : (((e.setLatch Latch.toClear).remove .full e.segs).requestLatchWrite).st.latch = e.st.latch.toClear :=
    setLatch_latch _ _
  have hr : (((e.setLatch Latch.toClear).remove .full e.segs).requestLatchWrite).st.road =
      (RoadEv.each (fun i => RoadEv.deleteEntry (e.setLatch Latch.toClear).st.roadCtx i .full)
        (e.setLatch Latch.toClear).st.road.configuredIds
        { road := (e.setLatch Latch.toClear).st.road, flags := 0, touched := Vector.replicate 8 false }).road := by
    refine (onRoad_spec (fun ctx => RoadEv.each (fun i => RoadEv.deleteEntry ctx i .full) e.segs)
      (e.setLatch Latch.toClear)).1.trans ?_
    rw [setLatch_road]
    rfl
  rw [hl, hr]
  exact ⟨hp.1, hp.2, rfl, rfl⟩

-- ---------------------------------------------------------------- loads (R27, R28, R199, R200)

theorem loadSeg_fields {st : Store} {i : SegId} {sg : Segment} (h : st.loadSeg i = some sg) :
    sg.state = .closed ∧ sg.confirmWait = none ∧ sg.warningTimer = none := by
  unfold Store.loadSeg at h
  split at h
  · cases h; exact ⟨rfl, rfl, rfl⟩
  · cases h

theorem startHolds_entryLaw (s : State) (since : Option Nat) (sg : Segment) : EntryLaw (s.startHolds since sg) := by
  have start : EntryLaw (put HoldSet.none HoldKind.startup.idx (some (State.startEntry since []))) :=
    entryLaw_none.put .startup fun e he => by cases he; exact ⟨rfl, fun h => by cases h⟩
  have full : EntryLaw (if s.latch.state = .clear then put HoldSet.none HoldKind.startup.idx (some (State.startEntry since []))
      else put (put HoldSet.none HoldKind.startup.idx (some (State.startEntry since []))) HoldKind.full.idx
        (some (State.startEntry since []))) := by
    split
    · exact start
    · exact start.put .full fun e he => by cases he; exact ⟨rfl, fun h => by cases h⟩
  unfold State.startHolds
  dsimp only
  have sourcedPut : ∀ (h : HoldSet) (k : HoldKind) (l : List Nat), sourced k = true → EntryLaw h →
      EntryLaw (if l.isEmpty then h else put h k.idx (some (State.startEntry since l))) := by
    intro h k l hk hh
    split
    · exact hh
    · next hl =>
      refine hh.put k fun e he => ?_
      cases he
      exact ⟨by simpa [hk, State.startEntry] using hl, fun h => by cases h⟩
  exact sourcedPut _ .zone _ rfl (sourcedPut _ .weather _ rfl full)

theorem startHolds_full (s : State) (since : Option Nat) (sg : Segment) :
    (s.startHolds since sg).has .full = (s.latch.state != .clear) := by
  unfold State.startHolds
  dsimp only
  have skip : ∀ (h : HoldSet) (k : HoldKind) (l : List Nat), k ≠ .full →
      (if l.isEmpty then h else put h k.idx (some (State.startEntry since l)) : HoldSet).has .full = h.has .full := by
    intro h k l hk
    split
    · rfl
    · exact HoldSet.has_put_other _ _ hk
  rw [skip _ .zone _ (by decide), skip _ .weather _ (by decide)]
  cases hs : s.latch.state <;> simp [HoldSet.has, entry_put]
  decide

/-- A start hold set fits a segment that stands CLOSED (R27, R28). -/
theorem placeStart_segmentLaws {s : State} (since : Option Nat)
    (hc : ∀ i sg, s.road.segs.get i = some sg → sg.state = .closed ∧ sg.confirmWait = none ∧ sg.warningTimer = none)
    (hw : WindowLaw s.latch) : SegmentLaws (s.placeStart since) := by
  have hget : ∀ i sg', (s.placeStart since).road.segs.get i = some sg' →
      ∃ sg, s.road.segs.get i = some sg ∧ sg' = { sg with holds := s.startHolds since sg } := by
    intro i sg' hi
    have hi' : (mapIds _ s.road.segs).get i = some sg' := hi
    rw [get_mapIds] at hi'
    obtain ⟨sg, hsg, rfl⟩ := Option.map_eq_some_iff.1 hi'
    exact ⟨sg, hsg, rfl⟩
  rw [segmentLaws_iff]
  refine ⟨fun i sg' hi => ?_, fun i sg' hi => ?_, hw⟩
  · obtain ⟨sg, hsg, rfl⟩ := hget i sg' hi
    obtain ⟨hst, hcw, hwt⟩ := hc i sg hsg
    refine ⟨⟨startHolds_entryLaw s since sg, fun h => ?_, fun h => ?_, fun _ => ⟨hcw, hwt⟩⟩, fun _ => ?_⟩
    · exact absurd h (by simp [hst])
    · exact absurd h (by simp [hst])
    · simp [hst, SegState.shut]
  · obtain ⟨sg, hsg, rfl⟩ := hget i sg' hi
    exact startHolds_full s since sg

theorem loadTables_segs (s : State) : ∀ i sg, s.loadTables.road.segs.get i = some sg →
    sg.state = .closed ∧ sg.confirmWait = none ∧ sg.warningTimer = none := by
  intro i sg hi
  have hi' : (Vector.ofFn s.store.loadSeg).get i = some sg := hi
  rw [get_ofFn] at hi'
  exact loadSeg_fields hi'

theorem loadAtReset_segs (s : State) : ∀ i sg, s.loadAtReset.road.segs.get i = some sg →
    sg.state = .closed ∧ sg.confirmWait = none ∧ sg.warningTimer = none := by
  intro i sg hi
  unfold State.loadAtReset at hi
  split at hi
  · exact loadTables_segs s i sg hi
  · have hi' : (Vector.replicate 8 none).get i = some sg := hi
    rw [get_replicate] at hi'
    cases hi'

theorem loadAtReset_windowLaw {s : State} (h : WindowLaw s.latch) : WindowLaw s.loadAtReset.latch := by
  unfold State.loadAtReset
  split <;> exact h

theorem afterLoad_keepsLaws : KeepsLaws Ev.afterLoad := by
  intro e h
  unfold Ev.afterLoad
  split
  · rw [raiseAll_st]
    exact onRoad_segmentLaws (f := fun ctx r => RoadEv.resolveAll ctx { r with flags := r.flags ||| Attn.segment }) h
      (RoadEv.resolveAll_keepsSegs e.st.roadCtx { road := e.st.road, flags := 0 ||| Attn.segment
                                                  touched := Vector.replicate 8 false } h.segsOk)
  · exact h

theorem commit_keepsLaws : KeepsLaws Ev.commit := by
  intro e h
  unfold Ev.commit
  refine afterLoad_keepsLaws _ ?_
  have hl : SegmentLaws (e.st.loadTables.placeStart e.st.since) :=
    placeStart_segmentLaws _ (loadTables_segs e.st) ((segmentLaws_iff _).1 h).2.2
  exact hl.congr rfl rfl

theorem afterReset_segmentLaws (levels : Levels) (s : State) : SegmentLaws (afterReset levels s) := by
  refine finish_segmentLaws (afterLoad_keepsLaws _ ?_)
  refine placeStart_segmentLaws none (loadAtReset_segs _) (loadAtReset_windowLaw ?_)
  unfold resetBase
  dsimp only
  constructor <;> split <;> rfl

-- ---------------------------------------------------------------- time and samples

theorem tick_segmentLaws {s : State} (h : SegmentLaws s) : SegmentLaws s.tick := by
  have hget : ∀ i, s.tick.road.segs.get i = (s.road.segs.get i).map Segment.tick := fun i => get_mapIds _ _ i
  have down : ∀ t : Timer, (Timer.down t).isSome = t.isSome := fun t => by cases t <;> rfl
  rw [segmentLaws_iff] at h ⊢
  obtain ⟨hok, hfull, hwin, hprop⟩ := h
  refine ⟨fun i sg' hi => ?_, fun i sg' hi => ?_, (down s.latch.window).trans hwin, hprop⟩
  · rw [hget] at hi
    obtain ⟨sg, hsg, rfl⟩ := Option.map_eq_some_iff.1 hi
    obtain ⟨⟨he, hopen, hwarn, hquiet⟩, hf⟩ := hok i sg hsg
    refine ⟨⟨he, hopen, fun hw => ⟨(hwarn hw).1, ?_⟩, fun hn => ?_⟩, hf⟩
    · show (Timer.down sg.confirmWait).isSome = !(Timer.down sg.warningTimer).isSome
      rw [down, down]
      exact (hwarn hw).2
    · show Timer.down sg.confirmWait = none ∧ Timer.down sg.warningTimer = none
      rw [(hquiet hn).1, (hquiet hn).2]
      exact ⟨rfl, rfl⟩
  · rw [hget] at hi
    obtain ⟨sg, hsg, rfl⟩ := Option.map_eq_some_iff.1 hi
    exact hfull i sg hsg

/-- A filter that moves without an accepted change is outside the laws (R62). -/
theorem sampleSwitch_keepsLaws (g : GateId) (sw : Switch) (level : Bool) : KeepsLaws (Ev.sampleSwitch g sw level) := by
  intro e h
  unfold Ev.sampleSwitch
  dsimp only
  split
  · exact onRoad_keepsLaws (fun ctx => RoadEv.switchChange_keepsSegs ctx g sw level) e h
  · exact h.of_road (h.segsOk.of_segs rfl) (fun _ => ⟨rfl, rfl⟩) rfl

theorem samplePin_keepsLaws (pin : KeyPin) (level : Bool) : KeepsLaws (Ev.samplePin pin level) := by
  intro e h
  unfold Ev.samplePin
  dsimp only
  split <;> exact h.congr rfl rfl

theorem samplePulse_keepsLaws (c : ChanId) (level : Bool) : KeepsLaws (Ev.samplePulse c level) := by
  intro e h
  unfold Ev.samplePulse
  dsimp only
  refine SegmentLaws.congr h ?_ ?_ <;> repeat' split
  all_goals rfl

theorem sampleGate_keepsLaws (levels : Levels) (g : GateId) : KeepsLaws fun e =>
    (e.sampleSwitch g .raised (levels.raised.get g)).sampleSwitch g .lowered (levels.lowered.get g) := fun e h =>
  sampleSwitch_keepsLaws g .lowered _ _ (sampleSwitch_keepsLaws g .raised _ e h)

theorem sampleAll_keepsLaws (levels : Levels) : KeepsLaws (Ev.sampleAll levels) := by
  intro e h
  unfold Ev.sampleAll
  dsimp only
  refine keepsLaws_foldl (f := fun e c => e.samplePulse c (levels.pulse.get c))
    (fun c => samplePulse_keepsLaws c _) _ _ ?_
  refine samplePin_keepsLaws .b _ _ (samplePin_keepsLaws .a _ _ ?_)
  exact keepsLaws_foldl
    (f := fun e g => (e.sampleSwitch g .raised (levels.raised.get g)).sampleSwitch g .lowered (levels.lowered.get g))
    (sampleGate_keepsLaws levels) (List.finRange 6) e h

theorem loseCarrier_keepsLaws (c : ChanId) : KeepsLaws (Ev.loseCarrier c) := fun _ h =>
  onQual_keepsLaws c _ _ (h.congr rfl rfl)

theorem restartQuals_keepsLaws : KeepsLaws Ev.restartQuals :=
  keepsLaws_foldl (f := fun e c => e.onQual c Qualification.restart) (fun c => onQual_keepsLaws c _) _

theorem boardRestart_keepsLaws : KeepsLaws fun e =>
    (e.on fun s => { s with board := s.board.restart }).thenArbitrate := fun _ h => h.congr rfl rfl

theorem fieldRestart_keepsLaws : KeepsLaws Ev.fieldRestart := by
  intro e h
  unfold Ev.fieldRestart
  exact boardRestart_keepsLaws _ (restartQuals_keepsLaws _ (h.congr rfl rfl))

-- ---------------------------------------------------------------- judging a request

/-- The effects of an accepted request keep the laws; a refusal has none. -/
def Verdict.KeepsLaws : Verdict → Prop
  | .refuse _ => True
  | .accept e _ => SegmentLaws e.st

theorem deny_keeps (r : Result) : (Verdict.deny r).KeepsLaws := trivial

theorem check_keeps {l : List (Option Result)} {v : Unit → Verdict} (h : firstFailure l = none → (v ()).KeepsLaws) :
    (Verdict.check l v).KeepsLaws := by
  unfold Verdict.check
  split
  · trivial
  · next hn => exact h hn

theorem fitting_keeps {b : Bool} {v : Unit → Verdict} (h : (v ()).KeepsLaws) : (Verdict.fitting b v).KeepsLaws := by
  unfold Verdict.fitting
  split
  · exact h
  · trivial

theorem ownKind_linkPlaced (l : Link) : linkPlaced (ownKind l) = true ∧ sourced (ownKind l) = false ∧ ownKind l ≠ .full := by
  cases l <;> exact ⟨rfl, rfl, by decide⟩

/-- A kind that a link may release is one that links place, and so not FULL (R23). -/
theorem needReleaseAuthority_ne_full {s : State} {l : Link} {k : HoldKind} (h : s.needReleaseAuthority l k = none) :
    k ≠ .full := by
  rintro rfl
  cases l <;> cases h

theorem judgeHoldPlace_keeps (l : Link) (reason : Option Byte) (segs : List Byte) {e : Ev} (h : SegmentLaws e.st) :
    (judgeHoldPlace l reason segs e).KeepsLaws := by
  refine fitting_keeps (check_keeps fun _ => ?_)
  split
  · exact deny_keeps _
  · obtain ⟨hp, hs, hne⟩ := ownKind_linkPlaced l
    exact place_keepsLaws _ hne hs (fun _ => hp) e h

theorem firstFailure_head {o : Option Result} {l : List (Option Result)} (h : firstFailure (o :: l) = none) : o = none := by
  cases o with
  | none => rfl
  | some r => cases h

theorem judgeHoldRelease_keeps (l : Link) (kind : HoldKind) (segs : List Byte) {e : Ev} (h : SegmentLaws e.st) :
    (judgeHoldRelease l kind segs e).KeepsLaws := by
  refine fitting_keeps (check_keeps fun hc => ?_)
  split
  · exact deny_keeps _
  · exact remove_keepsLaws _ (needReleaseAuthority_ne_full (firstFailure_head hc)) e h

/-- A segment that REOPEN takes has an empty hold set (R18). -/
theorem reopenOutcome_ok_holds {s : State} {i : SegId} {sg : Segment} (hi : s.road.segs.get i = some sg)
    (h : reopenOutcome s i = .ok) : sg.holds.empty = true := by
  unfold reopenOutcome at h
  rw [hi] at h
  dsimp only at h
  split at h
  · cases h
  · split at h
    · cases h
    · next he => simpa using he

theorem reopenOne_keepsLaws (acc : Ev × List Result) (i : SegId) (h : SegmentLaws acc.1.st) :
    SegmentLaws (reopenOne acc i).1.st := by
  unfold reopenOne
  dsimp only
  split
  · next hok =>
    exact onRoad_segmentLaws (f := fun ctx => RoadEv.reopen ctx i) h
      (RoadEv.reopen_keepsSegs _ h.segsOk fun sg hi => reopenOutcome_ok_holds hi hok)
  · exact h

theorem reopenAll_keepsLaws (l : List SegId) :
    ∀ acc : Ev × List Result, SegmentLaws acc.1.st → SegmentLaws (l.foldl reopenOne acc).1.st := by
  induction l with
  | nil => exact fun _ h => h
  | cons i l ih => exact fun acc h => ih _ (reopenOne_keepsLaws acc i h)

theorem judgeReopen_keeps (l : Link) (segs : List Byte) {e : Ev} (h : SegmentLaws e.st) :
    (judgeReopen l segs e).KeepsLaws := by
  refine fitting_keeps (check_keeps fun _ => ?_)
  split
  · exact deny_keeps _
  · exact reopenAll_keepsLaws _ (e, []) h

theorem judgeNoticeCreate_keeps (l : Link) (kind : Byte) (body : NoticeBody) {e : Ev} (h : SegmentLaws e.st) :
    (judgeNoticeCreate l kind body e).KeepsLaws := by
  refine fitting_keeps (check_keeps fun _ => ?_)
  split
  · exact deny_keeps _
  · dsimp only
    split
    · exact deny_keeps _
    · split
      · exact deny_keeps _
      · exact evaluateIfValid_keepsLaws _ (h.congr rfl rfl)

theorem judgeNoticeAmend_keeps (l : Link) (id revision : Byte) (body : NoticeBody) {e : Ev} (h : SegmentLaws e.st) :
    (judgeNoticeAmend l id revision body e).KeepsLaws := by
  refine fitting_keeps ?_
  dsimp only
  split
  · trivial
  · split
    · trivial
    · split
      · trivial
      · split
        · trivial
        · split
          · trivial
          · split
            · trivial
            · exact evaluateIfValid_keepsLaws _ (alignNotice_keepsLaws _ _ _ (h.congr rfl rfl))

theorem judgeNoticeWithdraw_keeps (l : Link) (id : Byte) {e : Ev} (h : SegmentLaws e.st) :
    (judgeNoticeWithdraw l id e).KeepsLaws := by
  refine check_keeps fun _ => ?_
  split
  · exact deny_keeps _
  · split
    · exact deny_keeps _
    · exact h.congr rfl rfl

theorem judgeNoticeLift_keeps (l : Link) (id : Byte) {e : Ev} (h : SegmentLaws e.st) :
    (judgeNoticeLift l id e).KeepsLaws := by
  refine check_keeps fun _ => ?_
  split
  · exact deny_keeps _
  · split
    · exact deny_keeps _
    · split
      · exact deny_keeps _
      · exact SegmentLaws.congr (removeSource_keepsLaws _ _ (by decide) (e.setNotices _) (h.congr rfl rfl)) rfl rfl

theorem judgeSignOverride_keeps (l : Link) (sign : Byte) (o : Option OverrideBody) {e : Ev} (h : SegmentLaws e.st) :
    (judgeSignOverride l sign o e).KeepsLaws := by
  refine check_keeps fun _ => ?_
  split
  · exact deny_keeps _
  · split
    · exact deny_keeps _
    · exact h.congr rfl rfl

theorem judgeZoneLevel_keeps (l : Link) (zone level : Byte) {e : Ev} (h : SegmentLaws e.st) :
    (judgeZoneLevel l zone level e).KeepsLaws := by
  refine check_keeps fun _ => ?_
  split
  · exact deny_keeps _
  · exact judgeRelease_keepsLaws _ (onZone_keepsLaws _ _ e h)

theorem judgeDetectorClear_keeps (l : Link) (channel : Byte) {e : Ev} (h : SegmentLaws e.st) :
    (judgeDetectorClear l channel e).KeepsLaws := by
  unfold judgeDetectorClear
  dsimp only
  split
  · trivial
  · split
    · trivial
    · split
      · trivial
      · split
        · trivial
        · exact onQual_keepsLaws _ _ e h

theorem judgeTestTrip_keeps (l : Link) (channel : Byte) {e : Ev} (h : SegmentLaws e.st) :
    (judgeTestTrip l channel e).KeepsLaws := by
  refine check_keeps fun _ => ?_
  split
  · exact deny_keeps _
  · split
    · exact onQual_keepsLaws _ _ e h
    · exact deny_keeps _

theorem judgeGateFaultClear_keeps (l : Link) (gate : Byte) {e : Ev} (h : SegmentLaws e.st) :
    (judgeGateFaultClear l gate e).KeepsLaws := by
  refine check_keeps fun _ => ?_
  split
  · exact deny_keeps _
  · split
    · exact onRoad_keepsLaws (fun ctx => RoadEv.clearFault_keepsSegs ctx _) e h
    · exact deny_keeps _

/-- A proposal needs a latch that is not CLEAR, and leaves it not CLEAR (R52). -/
theorem propose_segmentLaws (p : Proposer) {e : Ev} (h : SegmentLaws e.st) (hn : (e.st.latch.state != .clear) = true) :
    SegmentLaws (e.setLatch (Latch.propose p)).st :=
  setLatch_segmentLaws h (by rw [hn]; rfl) ⟨rfl, rfl⟩

theorem need_eq_none {b : Bool} {r : Result} (h : need b r = none) : b = true := by
  unfold need at h
  split at h
  · assumption
  · cases h

theorem firstFailure_none_iff (l : List (Option Result)) : firstFailure l = none ↔ ∀ o ∈ l, o = none := by
  induction l with
  | nil => simp [firstFailure]
  | cons o l ih => cases o <;> simp [firstFailure, ih]

theorem judgeReleasePropose_keeps (l : Link) {e : Ev} (h : SegmentLaws e.st) : (judgeReleasePropose l e).KeepsLaws := by
  cases l with
  | panel => exact deny_keeps _
  | valley =>
    unfold judgeReleasePropose
    refine check_keeps fun hc => ?_
    exact propose_segmentLaws .valley h (need_eq_none (r := .state) ((firstFailure_none_iff _).1 hc _ (by simp)))
  | avalanche =>
    unfold judgeReleasePropose
    refine check_keeps fun hc => ?_
    exact propose_segmentLaws .avalanche h (need_eq_none (r := .state) ((firstFailure_none_iff _).1 hc _ (by simp)))

theorem judgeCommit_keeps (l : Link) {e : Ev} (h : SegmentLaws e.st) : (judgeCommit l e).KeepsLaws := by
  refine check_keeps fun _ => ?_
  exact commit_keepsLaws e h

theorem judgeStoreWrite_keeps (l : Link) (region number : Byte) (bytes : List Byte) {e : Ev} (h : SegmentLaws e.st) :
    (judgeStoreWrite l region number bytes e).KeepsLaws := by
  unfold judgeStoreWrite
  refine fitting_keeps (check_keeps fun _ => ?_)
  split
  · exact deny_keeps _
  · refine check_keeps fun _ => ?_
    exact h.congr rfl rfl

theorem judgeStoreRead_keeps (region number : Byte) {e : Ev} (h : SegmentLaws e.st) :
    (judgeStoreRead region number e).KeepsLaws := by
  unfold judgeStoreRead
  split
  · exact deny_keeps _
  · exact h

theorem judgeProtectSet_keeps (l : Link) (region : Byte) {e : Ev} (h : SegmentLaws e.st) :
    (judgeProtectSet l region e).KeepsLaws := by
  refine check_keeps fun _ => ?_
  split
  · exact h
  · split
    · exact deny_keeps _
    · exact h.congr rfl rfl

/-- Every request, however it is judged, keeps the laws. -/
theorem judgeOf_keeps (c : Instr) {e : Ev} (h : SegmentLaws e.st) : (judgeOf c e).KeepsLaws := by
  cases c with
  | status l => exact h.congr rfl rfl
  | query l object id part => exact h
  | holdPlace l reason segs => exact judgeHoldPlace_keeps l reason segs h
  | holdRelease l kind segs => exact judgeHoldRelease_keeps l kind segs h
  | startupRelease l =>
    unfold judgeOf judgeStartupRelease
    refine check_keeps fun _ => ?_
    exact remove_keepsLaws (k := .startup) _ (by decide) e h
  | reopen l segs => exact judgeReopen_keeps l segs h
  | timeSet l value =>
    unfold judgeOf judgeTimeSet
    refine check_keeps fun _ => ?_
    exact evaluate_keepsLaws _ (h.congr rfl rfl)
  | noticeCreate l kind body => exact judgeNoticeCreate_keeps l kind body h
  | noticeAmend l id revision body => exact judgeNoticeAmend_keeps l id revision body h
  | noticeWithdraw l id => exact judgeNoticeWithdraw_keeps l id h
  | noticeLift l id => exact judgeNoticeLift_keeps l id h
  | signOverride l sign o => exact judgeSignOverride_keeps l sign o h
  | zoneLevel l zone level => exact judgeZoneLevel_keeps l zone level h
  | detectorClear l channel => exact judgeDetectorClear_keeps l channel h
  | testTrip l channel => exact judgeTestTrip_keeps l channel h
  | gateFaultClear l gate => exact judgeGateFaultClear_keeps l gate h
  | fullClose l =>
    unfold judgeOf judgeFullClose
    refine check_keeps fun _ => ?_
    exact fullClose_keepsLaws e h
  | releasePropose l => exact judgeReleasePropose_keeps l h
  | releaseConfirm l =>
    unfold judgeOf judgeReleaseConfirm
    refine check_keeps fun _ => ?_
    exact releaseFull_segmentLaws h
  | fieldRestart l =>
    unfold judgeOf judgeFieldRestart
    refine check_keeps fun _ => ?_
    exact fieldRestart_keepsLaws e h
  | attentionEnable l enable =>
    unfold judgeOf judgeAttentionEnable
    refine check_keeps fun _ => ?_
    exact h.congr rfl rfl
  | commissionEnter l =>
    unfold judgeOf judgeCommissionEnter
    refine check_keeps fun _ => ?_
    exact h.congr rfl rfl
  | commissionExit l =>
    unfold judgeOf judgeCommissionExit
    refine check_keeps fun _ => ?_
    exact h.congr rfl rfl
  | storeWrite l region number bytes => exact judgeStoreWrite_keeps l region number bytes h
  | storeRead l region number => exact judgeStoreRead_keeps region number h
  | protectSet l region => exact judgeProtectSet_keeps l region h
  | storeErase l =>
    unfold judgeOf judgeStoreErase
    refine check_keeps fun _ => ?_
    exact h.congr rfl rfl
  | commit l => exact judgeCommit_keeps l h
  | storeSum l =>
    unfold judgeOf judgeStoreSum
    refine check_keeps fun _ => ?_
    exact h
  | _ => exact deny_keeps _

theorem takeRequest_segmentLaws (l : Link) (kind : Byte) {judge : Ev → Verdict} {s : State}
    (hj : ∀ e : Ev, SegmentLaws e.st → (judge e).KeepsLaws) (h : SegmentLaws s) :
    SegmentLaws (takeRequest l kind judge s) := by
  cases hr : (s.links.get l).replying with
  | true => rwa [takeRequest_lost kind judge hr]
  | false =>
    have hh : SegmentLaws (hearing l s).st := heard_keepsLaws l _ h
    have hv := hj (hearing l s) hh
    cases hv' : judge (hearing l s) with
    | refuse body =>
      rw [takeRequest_refused hr hv']
      exact (finish_segmentLaws hh).congr rfl rfl
    | accept e reply =>
      rw [takeRequest_accepted hr hv']
      rw [hv'] at hv
      exact (finish_segmentLaws hv).congr rfl rfl

/-- A command that is a request, judged as `judgeOf` judges it, keeps the laws. -/
theorem request_segmentLaws (l : Link) (kind : Byte) (c : Instr) {s t : State} (h : SegmentLaws s)
    (ht : request l kind (judgeOf c) s = .next t) : SegmentLaws t := by
  cases ht
  exact takeRequest_segmentLaws l kind (fun _ he => judgeOf_keeps c he) h

-- ---------------------------------------------------------------- the other commands

/-- An event that keeps the laws, taken only when it is due. -/
theorem event_segmentLaws {s : State} {f : Ev → Ev} (hf : KeepsLaws f) (h : SegmentLaws s) : SegmentLaws (s.event f) :=
  finish_segmentLaws (hf (Ev.start s) h)

theorem ite_segmentLaws {c : Prop} [Decidable c] {a b : State} (ha : c → SegmentLaws a) (hb : SegmentLaws b) :
    SegmentLaws (if c then a else b) := by
  split
  · next hc => exact ha hc
  · exact hb

/-- The confirmation wait of a WARNING segment becomes its warning timer (R11). -/
theorem waitExpiry_segmentLaws {s : State} {i : SegId} (h : SegmentLaws s) (hd : s.road.waitDue i = true) :
    SegmentLaws (s.onRoadOnly fun r => { r with segs := alter r.segs i (Option.map RoadEv.startWarning) }) := by
  let e : RoadEv := { road := s.road, flags := 0, touched := Vector.replicate 8 false }
  refine h.of_road (RoadEv.setSeg_segsOk (e := e) (f := RoadEv.startWarning) (fun j sg _ hj => h.segsOk j sg hj)
    fun sg hi => startWarning_segOk (h.segsOk i sg hi) ?_) (RoadEv.setSeg_frame e i RoadEv.startWarning fun _ => rfl).fullKept rfl
  have hi' : s.road.segs.get i = some sg := hi
  unfold Road.waitDue at hd
  rw [hi'] at hd
  simp only [Bool.and_eq_true, beq_iff_eq] at hd
  exact hd.1

theorem latchWordWriteComplete_segmentLaws {s t : State} (h : SegmentLaws s)
    (ht : execLatchWordWriteComplete s = .next t) : SegmentLaws t := by
  unfold execLatchWordWriteComplete at ht
  cases ht
  split
  · rw [segmentLaws_iff] at h ⊢
    exact h
  · exact h

theorem landWrite_segmentLaws {s : State} (w : StoreWrite) (v : LatchValue) (h : SegmentLaws s) :
    SegmentLaws (s.landWrite w v) := by
  rw [segmentLaws_iff] at h ⊢
  exact h

theorem storeWriteComplete_segmentLaws {s t : State} (h : SegmentLaws s) (ht : execStoreWriteComplete s = .next t) :
    SegmentLaws t := by
  unfold execStoreWriteComplete at ht
  cases ht
  split
  · exact landWrite_segmentLaws _ _ h
  · exact lineStep_segmentLaws _ (landWrite_segmentLaws _ _ h)
  · exact landWrite_segmentLaws _ _ h
  · exact h

theorem eraseComplete_segmentLaws {s t : State} (h : SegmentLaws s) (ht : execEraseComplete s = .next t) :
    SegmentLaws t := by
  unfold execEraseComplete at ht
  cases ht
  split
  · exact lineStep_segmentLaws _ (landWrite_segmentLaws _ _ h)
  · exact h

theorem takeReply_segmentLaws (i : SignId) (r : SignReply) {s : State} (h : SegmentLaws s) :
    SegmentLaws (s.takeReply i r) := ite_segmentLaws (fun _ => lineStep_segmentLaws _ h) h

theorem signFrameDiscard_segmentLaws {frame : List Byte} {s t : State} (h : SegmentLaws s)
    (ht : execSignFrameDiscard frame s = .next t) : SegmentLaws t := by
  unfold execSignFrameDiscard at ht
  cases ht
  split
  · exact takeReply_segmentLaws _ _ h
  · exact h

theorem linkByteReceived_segmentLaws {l : Link} {b : Byte} {s t : State} (h : SegmentLaws s)
    (ht : execLinkByteReceived l b s = .next t) : SegmentLaws t := by
  unfold execLinkByteReceived at ht
  cases ht
  split
  · exact takeRequest_segmentLaws l _ (fun _ he => judgeOf_keeps _ he) (h.congr rfl rfl)
  · exact h.congr rfl rfl

theorem jointWindowExpiry_segmentLaws {s : State} (h : SegmentLaws s) (hd : s.latch.windowDue = true) :
    SegmentLaws (s.event fun e => e.setLatch Latch.toLatched) := by
  refine finish_segmentLaws (setLatch_segmentLaws (e := Ev.start s) h ?_ ⟨rfl, rfl⟩)
  unfold Latch.windowDue at hd
  simp only [Bool.and_eq_true, beq_iff_eq] at hd
  rw [start_st, hd.1]
  rfl

/-- Every command keeps the segment laws. -/
theorem exec_segmentLaws (c : Instr) {s t : State} (h : SegmentLaws s) (ht : exec c s = .next t) : SegmentLaws t := by
  cases c with
  | status l => exact request_segmentLaws l _ (.status l) h ht
  | query l object id part => exact request_segmentLaws l _ (.query l object id part) h ht
  | holdPlace l reason segs => exact request_segmentLaws l _ (.holdPlace l reason segs) h ht
  | holdRelease l kind segs => exact request_segmentLaws l _ (.holdRelease l kind segs) h ht
  | startupRelease l => exact request_segmentLaws l _ (.startupRelease l) h ht
  | reopen l segs => exact request_segmentLaws l _ (.reopen l segs) h ht
  | timeSet l value => exact request_segmentLaws l _ (.timeSet l value) h ht
  | noticeCreate l kind body => exact request_segmentLaws l _ (.noticeCreate l kind body) h ht
  | noticeAmend l id revision body => exact request_segmentLaws l _ (.noticeAmend l id revision body) h ht
  | noticeWithdraw l id => exact request_segmentLaws l _ (.noticeWithdraw l id) h ht
  | noticeLift l id => exact request_segmentLaws l _ (.noticeLift l id) h ht
  | signOverride l sign o => exact request_segmentLaws l _ (.signOverride l sign o) h ht
  | zoneLevel l zone level => exact request_segmentLaws l _ (.zoneLevel l zone level) h ht
  | detectorClear l channel => exact request_segmentLaws l _ (.detectorClear l channel) h ht
  | testTrip l channel => exact request_segmentLaws l _ (.testTrip l channel) h ht
  | gateFaultClear l gate => exact request_segmentLaws l _ (.gateFaultClear l gate) h ht
  | fullClose l => exact request_segmentLaws l _ (.fullClose l) h ht
  | releasePropose l => exact request_segmentLaws l _ (.releasePropose l) h ht
  | releaseConfirm l => exact request_segmentLaws l _ (.releaseConfirm l) h ht
  | fieldRestart l => exact request_segmentLaws l _ (.fieldRestart l) h ht
  | attentionEnable l enable => exact request_segmentLaws l _ (.attentionEnable l enable) h ht
  | commissionEnter l => exact request_segmentLaws l _ (.commissionEnter l) h ht
  | commissionExit l => exact request_segmentLaws l _ (.commissionExit l) h ht
  | storeWrite l region number bytes => exact request_segmentLaws l _ (.storeWrite l region number bytes) h ht
  | storeRead l region number => exact request_segmentLaws l _ (.storeRead l region number) h ht
  | protectSet l region => exact request_segmentLaws l _ (.protectSet l region) h ht
  | storeErase l => exact request_segmentLaws l _ (.storeErase l) h ht
  | commit l => exact request_segmentLaws l _ (.commit l) h ht
  | storeSum l => exact request_segmentLaws l _ (.storeSum l) h ht
  | formatRefusal l kind => exact request_segmentLaws l _ (.formatRefusal l kind) h ht
  | linkCheckFailure l => cases ht; exact h.congr rfl rfl
  | linkBadLength l => cases ht; exact h.congr rfl rfl
  | linkFramingError l => cases ht; exact h.congr rfl rfl
  | interByteTimeout l => cases ht; exact h.congr rfl rfl
  | linkReplySent l => cases ht; exact h.congr rfl rfl
  | linkSilenceExpiry l => cases ht; exact ite_segmentLaws (fun _ => event_segmentLaws (silence_keepsLaws l) h) h
  | hardwareReset levels => cases ht; exact afterReset_segmentLaws levels s
  | confirmationWaitExpiry i => cases ht; exact ite_segmentLaws (waitExpiry_segmentLaws h) h
  | warningTimerExpiry i =>
    cases ht
    exact ite_segmentLaws (fun _ => event_segmentLaws
      (onRoad_keepsLaws fun ctx => RoadEv.warningExpiry_keepsSegs ctx i) h) h
  | endSwitchChange g sw level =>
    cases ht
    exact ite_segmentLaws (fun _ => h) (event_segmentLaws
      (onRoad_keepsLaws fun ctx => RoadEv.switchChange_keepsSegs ctx g sw level) h)
  | travelTimeout g =>
    cases ht
    exact ite_segmentLaws (fun _ => event_segmentLaws (onRoad_keepsLaws fun ctx => RoadEv.stall_keepsSegs ctx g) h) h
  | jointWindowExpiry => cases ht; exact ite_segmentLaws (jointWindowExpiry_segmentLaws h) h
  | latchWordWriteComplete => exact latchWordWriteComplete_segmentLaws h ht
  | storeWriteComplete => exact storeWriteComplete_segmentLaws h ht
  | eraseComplete => exact eraseComplete_segmentLaws h ht
  | keyPinChange pin level =>
    cases ht
    exact ite_segmentLaws (fun _ => h) (event_segmentLaws (keepsLaws_of_frame (fun _ => rfl) fun _ => rfl) h)
  | pulseInputChange c level =>
    cases ht
    exact ite_segmentLaws (fun _ => h) (event_segmentLaws (keepsLaws_of_frame (fun _ => rfl) fun _ => rfl) h)
  | carrierLoss c => cases ht; exact ite_segmentLaws (fun _ => event_segmentLaws (loseCarrier_keepsLaws c) h) h
  | measurementGateEnd c =>
    cases ht
    exact ite_segmentLaws (fun _ => event_segmentLaws (measurementGateEnd_keepsLaws c) h) h
  | sitePeriodClose i => cases ht; exact ite_segmentLaws (fun _ => event_segmentLaws (sitePeriodEnd_keepsLaws i) h) h
  | minuteTick =>
    cases ht
    exact ite_segmentLaws (fun _ => event_segmentLaws (fun e he => evaluate_keepsLaws _ (he.congr rfl rfl)) h) h
  | probeTimerExpiry i => cases ht; exact ite_segmentLaws (fun _ => h.congr rfl rfl) h
  | signFrameSent => cases ht; exact h.congr rfl rfl
  | replyWindowExpiry => cases ht; exact ite_segmentLaws (fun _ => lineStep_segmentLaws _ h) h
  | signFrameDiscard frame => exact signFrameDiscard_segmentLaws h ht
  | ready i width sum => cases ht; exact takeReply_segmentLaws i _ h
  | take i => cases ht; exact takeReply_segmentLaws i _ h
  | pause i => cases ht; exact takeReply_segmentLaws i _ h
  | refuse i => cases ht; exact takeReply_segmentLaws i _ h
  | signShown i sum => cases ht; exact takeReply_segmentLaws i _ h
  | linkByteReceived l b => exact linkByteReceived_segmentLaws h ht
  | inputSample levels =>
    have e : s.tick.event (Ev.sampleAll levels) = t := Host.Outcome.next.inj ht
    rw [← e]
    exact event_segmentLaws (sampleAll_keepsLaws levels) (tick_segmentLaws h)

end Sys2Proof.Machine

open Sys2Proof Sys2Proof.Machine

/-- Settles O56: the command at the front of the queue keeps the laws, and an idle step changes nothing. -/
theorem stepKeepsTheSegmentLaws : Obligations.StepKeepsTheSegmentLaws := by
  intro s t h ht
  unfold step at ht
  split at ht
  · cases ht
    exact h
  · next c rest _ => exact exec_segmentLaws c (s := { s with pending := rest }) (h.congr rfl rfl) ht

end

section
/-! Hearing and answering a request (R25, R176 to R179, R183): the state in which a request is judged, what its refusal and its
acceptance leave, and sets of attention flags. -/

namespace Sys2Proof.Machine

-- ---------------------------------------------------------------- sets of flags

theorem within_zero (m : FlagSet) : Within m 0 := by simp [Within]

theorem Within.or {m f g : FlagSet} (hf : Within m f) (hg : Within m g) : Within m (f ||| g) := by
  unfold Within at *
  rw [BitVec.and_comm, BitVec.and_or_distrib_left, BitVec.and_comm, hf, BitVec.and_comm, hg]
  rfl

theorem Within.mono {m n f : FlagSet} (hf : Within m f) (hm : m ||| n = n) : Within n f := by
  unfold Within at *
  rw [← hm, BitVec.not_or, ← BitVec.and_assoc, hf]
  exact BitVec.zero_and

theorem within_self (m : FlagSet) : Within m m := by simp [Within]

theorem Includes.or_left {m f : FlagSet} (hf : Includes m f) (g : FlagSet) : Includes m (f ||| g) := by
  unfold Includes at *
  rw [BitVec.and_comm, BitVec.and_or_distrib_left, BitVec.and_comm, hf]
  apply BitVec.eq_of_getLsbD_eq
  intro i _
  simp only [BitVec.getLsbD_or, BitVec.getLsbD_and]
  cases m.getLsbD i <;> rfl

theorem Includes.or_right {m g : FlagSet} (f : FlagSet) (hg : Includes m g) : Includes m (f ||| g) := by
  rw [BitVec.or_comm]
  exact hg.or_left f

theorem includes_self (m : FlagSet) : Includes m m := BitVec.and_self

/-- A set within flags that are disjoint from `m` adds nothing of `m`. -/
theorem includes_or_iff {m f g n : FlagSet} (hg : Within n g) (hm : m &&& n = 0) : Includes m (f ||| g) ↔ Includes m f := by
  have hz : g &&& m = 0 := by
    unfold Within at hg
    apply BitVec.eq_of_getLsbD_eq
    intro i _
    have h1 := congrArg (fun x => x.getLsbD i) hg
    have h2 := congrArg (fun x => x.getLsbD i) hm
    simp only [BitVec.getLsbD_and, BitVec.getLsbD_not] at h1 h2 ⊢
    revert h1 h2
    cases g.getLsbD i <;> cases m.getLsbD i <;> cases n.getLsbD i <;> simp_all
  unfold Includes
  rw [BitVec.and_comm, BitVec.and_or_distrib_left, BitVec.and_comm m g, hz, BitVec.and_comm f m]
  exact iff_of_eq (congrArg (· = m) BitVec.or_zero)

-- ---------------------------------------------------------------- hearing a frame

/-- The links once a frame was heard on one of them: its timer reloaded, and LINK attention where it was SILENT (R183). -/
def State.hearLink (l : Link) (s : State) : State :=
  let r := s.onLink l LinkRecord.reload
  if (s.links.get l).active then r else r.attend Attn.link

/-- The state once a frame was heard, before the automatic start-up release: the link and its start-up mark (R25, R183). -/
def State.hear (l : Link) (s : State) : State :=
  { s.hearLink l with valleyHeard := s.valleyHeard || l == .valley, avalancheHeard := s.avalancheHeard || l == .avalanche }

theorem hearLink_keeps (l : Link) (s : State) : KeepsBut [.links] s (s.hearLink l) := by
  unfold State.hearLink
  dsimp only
  split
  · intro b hb
    cases b <;> simp_all [Block.same]
  · intro b hb
    cases b <;> simp_all [Block.same]

theorem hear_keeps (l : Link) (s : State) : KeepsBut [.links, .marks] s (s.hear l) := by
  have h := hearLink_keeps l s
  intro b hb
  have hb' : b ∉ [Block.links] := by
    intro hm
    simp at hm
    subst hm
    simp at hb
  have k := h b hb'
  cases b <;> first | exact k | simp at hb

theorem heard_hearLink (l : Link) (s : State) :
    (Ev.start s).heard l = Ev.setMark l (Ev.start (s.hearLink l)) := by
  unfold Ev.heard State.hearLink
  dsimp only [start_st]
  cases (s.links.get l).active <;> rfl

theorem hear_of_marked {l : Link} {s : State} (hv : l = .valley → s.valleyHeard = true)
    (ha : l = .avalanche → s.avalancheHeard = true) : s.hear l = s.hearLink l := by
  have kv : (s.hearLink l).valleyHeard = s.valleyHeard := (hearLink_keeps l s .marks (by simp)).1
  have ka : (s.hearLink l).avalancheHeard = s.avalancheHeard := (hearLink_keeps l s .marks (by simp)).2
  have ev : (s.valleyHeard || l == .valley) = (s.hearLink l).valleyHeard := by
    rw [kv]
    cases l <;> simp_all
  have ea : (s.avalancheHeard || l == .avalanche) = (s.hearLink l).avalancheHeard := by
    rw [ka]
    cases l <;> simp_all
  unfold State.hear
  rw [ev, ea]

/-- The release is judged in the event in which a start-up mark is newly set (R25). -/
theorem releases_iff {l : Link} {s : State} : Releases l s ↔
    (l = .valley ∧ s.valleyHeard = false ∨ l = .avalanche ∧ s.avalancheHeard = false) ∧
      (Ev.start (s.hear l)).releaseDue = true := by
  have hk := hear_keeps l s
  have hc : (s.hear l).commissioned = s.commissioned := hk .commissioned (by simp)
  have hz : (s.hear l).zoneUnit = s.zoneUnit := hk .zoneUnit (by simp)
  unfold Releases Ev.releaseDue
  simp only [start_st, hc, hz, Bool.and_eq_true, allIds_iff]
  have hv : (s.hear l).valleyHeard = (s.valleyHeard || l == .valley) := rfl
  have ha : (s.hear l).avalancheHeard = (s.avalancheHeard || l == .avalanche) := rfl
  rw [hv, ha]
  cases l <;> simp <;> tauto

theorem setMark_of_new {l : Link} {s : State}
    (h : l = .valley ∧ s.valleyHeard = false ∨ l = .avalanche ∧ s.avalancheHeard = false) :
    Ev.setMark l (Ev.start (s.hearLink l)) = (Ev.start (s.hear l)).judgeRelease := by
  have kv : (s.hearLink l).valleyHeard = s.valleyHeard := (hearLink_keeps l s .marks (by simp)).1
  have ka : (s.hearLink l).avalancheHeard = s.avalancheHeard := (hearLink_keeps l s .marks (by simp)).2
  rcases h with ⟨rfl, h⟩ | ⟨rfl, h⟩
  · unfold Ev.setMark
    dsimp only
    rw [if_neg (by simp [kv, h])]
    have e : s.hear .valley = { s.hearLink .valley with valleyHeard := true } := by
      unfold State.hear
      rw [show (s.avalancheHeard || Link.valley == .avalanche) = (s.hearLink .valley).avalancheHeard by
        rw [ka]; cases s.avalancheHeard <;> rfl, h]
      rfl
    rw [e]
    rfl
  · unfold Ev.setMark
    dsimp only
    rw [if_neg (by simp [ka, h])]
    have e : s.hear .avalanche = { s.hearLink .avalanche with avalancheHeard := true } := by
      unfold State.hear
      rw [show (s.valleyHeard || Link.avalanche == .valley) = (s.hearLink .avalanche).valleyHeard by
        rw [kv]; cases s.valleyHeard <;> rfl, h]
      rfl
    rw [e]
    rfl

theorem setMark_of_old {l : Link} {s : State}
    (h : ¬ (l = .valley ∧ s.valleyHeard = false ∨ l = .avalanche ∧ s.avalancheHeard = false)) :
    Ev.setMark l (Ev.start (s.hearLink l)) = Ev.start (s.hear l) := by
  have kv : (s.hearLink l).valleyHeard = s.valleyHeard := (hearLink_keeps l s .marks (by simp)).1
  have ka : (s.hearLink l).avalancheHeard = s.avalancheHeard := (hearLink_keeps l s .marks (by simp)).2
  have e : s.hear l = s.hearLink l := hear_of_marked (by rintro rfl; simpa using h) (by rintro rfl; simpa using h)
  rw [e]
  unfold Ev.setMark
  cases l with
  | valley => simp at h; simp [kv, h]
  | avalanche => simp at h; simp [ka, h]
  | panel => rfl

/-- A frame that releases no STARTUP entry leaves its link and mark alone changed, and raises no sign (R25). -/
theorem hearing_of_not_releases {l : Link} {s : State} (h : ¬ Releases l s) : hearing l s = Ev.start (s.hear l) := by
  unfold hearing
  rw [heard_hearLink]
  rw [releases_iff] at h
  by_cases hm : l = .valley ∧ s.valleyHeard = false ∨ l = .avalanche ∧ s.avalancheHeard = false
  · rw [setMark_of_new hm]
    unfold Ev.judgeRelease
    rw [if_neg fun hd => h ⟨hm, hd⟩]
  · exact setMark_of_old hm

/-- A frame that sets the last start-up mark removes STARTUP from every configured segment (R25). -/
theorem hearing_of_releases {l : Link} {s : State} (h : Releases l s) :
    hearing l s = (Ev.start (s.hear l)).remove .startup (s.hear l).road.configuredIds := by
  unfold hearing
  rw [heard_hearLink]
  obtain ⟨hm, hd⟩ := releases_iff.1 h
  rw [setMark_of_new hm]
  unfold Ev.judgeRelease
  rw [if_pos hd]
  rfl

theorem hear_road (l : Link) (s : State) : (s.hear l).road = s.road := hear_keeps l s .road (by simp)
theorem hear_board (l : Link) (s : State) : (s.hear l).board = s.board := hear_keeps l s .board (by simp)

theorem heardState_of_not_releases {l : Link} {s : State} (h : ¬ Releases l s) : heardState l s = s.hear l := by
  unfold heardState
  rw [hearing_of_not_releases h]
  rfl

theorem afterHearing_of_not_releases {l : Link} {s : State} (h : ¬ Releases l s) : afterHearing l s = s.hear l := by
  unfold afterHearing
  rw [hearing_of_not_releases h]
  exact finish_quiet _ setIds_replicate_false rfl

theorem hearLink_get (l m : Link) (s : State) : ((s.hearLink l).links.get m) =
    (if (s.links.get l).active then id else LinkRecord.setFlags Attn.link)
      (if l = m then (s.links.get m).reload else s.links.get m) := by
  unfold State.hearLink State.onLink
  dsimp only
  have h : (s.links.alter l LinkRecord.reload).get m = if l = m then (s.links.get m).reload else s.links.get m := by
    by_cases hm : l = m
    · subst hm; simp
    · rw [links_get_alter_other _ _ hm, if_neg hm]
  split
  · exact h
  · rw [State.attend_get]
    exact congrArg _ h

/-- The links once a frame was heard (R183, R186). -/
theorem hear_get (l m : Link) (s : State) :
    ((s.hear l).links.get m).attention = (s.links.get m).attention ||| (if (s.links.get l).active then 0 else Attn.link) ∧
      ((s.hear l).links.get m).receiver = (s.links.get m).receiver ∧
      ((s.hear l).links.get m).enable = (s.links.get m).enable ∧ ((s.hear l).links.get m).limit = (s.links.get m).limit ∧
      ((s.hear l).links.get m).active = (decide (l = m) || (s.links.get m).active) ∧
      ((s.hear l).links.get m).timer = if l = m then (s.links.get m).limit.map (· * 1000) else (s.links.get m).timer := by
  have h : (s.hear l).links.get m = (s.hearLink l).links.get m := rfl
  rw [h, hearLink_get]
  by_cases hm : l = m <;> cases (s.links.get l).active <;> simp [hm, LinkRecord.reload]

-- ---------------------------------------------------------------- gains

theorem Gains.active {f : FlagSet} {s t : State} (h : Gains f s t) (m : Link) :
    (t.links.get m).active = (s.links.get m).active := by rw [h m]
theorem Gains.timer {f : FlagSet} {s t : State} (h : Gains f s t) (m : Link) :
    (t.links.get m).timer = (s.links.get m).timer := by rw [h m]
theorem Gains.limit {f : FlagSet} {s t : State} (h : Gains f s t) (m : Link) :
    (t.links.get m).limit = (s.links.get m).limit := by rw [h m]
theorem Gains.receiver {f : FlagSet} {s t : State} (h : Gains f s t) (m : Link) :
    (t.links.get m).receiver = (s.links.get m).receiver := by rw [h m]
theorem Gains.enable {f : FlagSet} {s t : State} (h : Gains f s t) (m : Link) :
    (t.links.get m).enable = (s.links.get m).enable := by rw [h m]
theorem Gains.attention {f : FlagSet} {s t : State} (h : Gains f s t) (m : Link) :
    (t.links.get m).attention = (s.links.get m).attention ||| f := by rw [h m]

/-- The reply leaves on the links that an event has left (R178). -/
theorem Gains.answered {f : FlagSet} {s u : State} (h : Gains f s u) (l : Link) (kind : Byte) (body : List Byte) :
    Answered l kind body f s (u.startReply l kind body) := by
  intro m
  have k := (startReply_answered l kind body u).1 m
  rw [k, h m]
  simp

theorem Gains.finish {f : FlagSet} {s : State} {e : Ev} (h : Gains f s e.st) : Gains f s e.finish := by
  have k := h.trans' (finish_spec e).2.2
  simpa using k

-- ---------------------------------------------------------------- the heard state

theorem heardState_field {b : Block} {l : Link} {s : State} (hb : b ∉ [Block.marks, .links, .road]) :
    b.same s (heardState l s) := heardState_keeps l s b hb

@[simp] theorem heardState_commissioned (l : Link) (s : State) : (heardState l s).commissioned = s.commissioned :=
  heardState_keeps l s .commissioned (by simp)
@[simp] theorem heardState_key (l : Link) (s : State) : (heardState l s).key = s.key :=
  heardState_keeps l s .key (by simp)
@[simp] theorem heardState_notices (l : Link) (s : State) : (heardState l s).notices = s.notices :=
  heardState_keeps l s .notices (by simp)
@[simp] theorem heardState_zoneUnit (l : Link) (s : State) : (heardState l s).zoneUnit = s.zoneUnit :=
  heardState_keeps l s .zoneUnit (by simp)
@[simp] theorem heardState_latch (l : Link) (s : State) : (heardState l s).latch = s.latch :=
  heardState_keeps l s .latch (by simp)
@[simp] theorem heardState_field' (l : Link) (s : State) : (heardState l s).field = s.field :=
  heardState_keeps l s .field (by simp)
@[simp] theorem heardState_sites (l : Link) (s : State) : (heardState l s).sites = s.sites :=
  heardState_keeps l s .sites (by simp)
@[simp] theorem heardState_board (l : Link) (s : State) : (heardState l s).board = s.board :=
  heardState_keeps l s .board (by simp)
@[simp] theorem hearing_st (l : Link) (s : State) : (hearing l s).st = heardState l s := rfl

/-- Hearing keeps the marks but for the one that it sets (R25). -/
theorem heardState_marks (l : Link) (s : State) : (heardState l s).valleyHeard = (s.valleyHeard || l == .valley) ∧
    (heardState l s).avalancheHeard = (s.avalancheHeard || l == .avalanche) := by
  by_cases h : Releases l s
  · have k := (onRoad_spec (fun ctx => RoadEv.each (fun i => RoadEv.deleteEntry ctx i .startup)
      (s.hear l).road.configuredIds) (Ev.start (s.hear l))).2.1 .marks (by simp)
    unfold heardState
    rw [hearing_of_releases h]
    exact k
  · rw [heardState_of_not_releases h]
    exact ⟨rfl, rfl⟩

/-- Hearing on one link gains flags beside what it does to that link's record (R183, R186). -/
theorem heardState_gains (l : Link) (s : State) : ∃ f, Gains f (s.hear l) (heardState l s) := by
  by_cases h : Releases l s
  · unfold heardState
    rw [hearing_of_releases h]
    exact ⟨_, (onRoad_spec _ (Ev.start (s.hear l))).2.2⟩
  · rw [heardState_of_not_releases h]
    exact ⟨0, Gains.of_eq rfl⟩

/-- Hearing on one link leaves the state of another as it was (R183). -/
theorem heardState_active_other {l m : Link} (s : State) (h : l ≠ m) :
    ((heardState l s).links.get m).active = (s.links.get m).active := by
  obtain ⟨f, hf⟩ := heardState_gains l s
  rw [hf.active, (hear_get l m s).2.2.2.2.1]
  simp [h]

theorem heardState_configured (l : Link) (s : State) (i : SegId) :
    (heardState l s).road.configured i = s.road.configured i := by
  by_cases h : Releases l s
  · unfold heardState
    rw [hearing_of_releases h]
    have hr : (Ev.remove .startup (s.hear l).road.configuredIds (Ev.start (s.hear l))).st.road =
        (RoadEv.each (fun i => RoadEv.deleteEntry (s.hear l).roadCtx i .startup) (s.hear l).road.configuredIds
          { road := (s.hear l).road, flags := 0, touched := Vector.replicate 8 false }).road := (onRoad_spec _ _).1
    rw [hr]
    have hl : ∀ (ids : List SegId) (e : RoadEv), (RoadEv.each (fun i => RoadEv.deleteEntry (s.hear l).roadCtx i .startup)
        ids e).road.configured i = e.road.configured i := by
      intro ids
      induction ids with
      | nil => exact fun _ => rfl
      | cons j ids ih => exact fun e => (ih _).trans ((RoadEv.deleteEntry_spec _ j .startup e).1 i)
    rw [hl, hear_road]
  · rw [heardState_of_not_releases h, hear_road]

-- ---------------------------------------------------------------- refusals and acceptances

/-- A request whose judging denies is refused (R179). -/
theorem refused_of_deny {l : Link} {s : State} {kind : Byte} {judge : Ev → Verdict} {r : Result} (h : Ready l s)
    (k : judge (hearing l s) = Verdict.deny r) : Refused l kind r s (takeRequest l kind judge s) :=
  takeRequest_refused h k

theorem check_of_failure {l : List (Option Result)} {v : Unit → Verdict} {r : Result} (h : firstFailure l = some r) :
    Verdict.check l v = Verdict.deny r := by
  unfold Verdict.check
  rw [h]

theorem check_of_pass {l : List (Option Result)} {v : Unit → Verdict} (h : firstFailure l = none) :
    Verdict.check l v = v () := by
  unfold Verdict.check
  rw [h]

theorem fitting_of_fits {b : Bool} {v : Unit → Verdict} (h : b = true) : Verdict.fitting b v = v () := by
  unfold Verdict.fitting
  rw [if_pos h]

@[simp] theorem need_true (r : Result) : need true r = none := rfl
@[simp] theorem need_false (r : Result) : need false r = some r := rfl
@[simp] theorem firstFailure_nil : firstFailure [] = none := rfl
@[simp] theorem firstFailure_some (r : Result) (l : List (Option Result)) : firstFailure (some r :: l) = some r := rfl
@[simp] theorem firstFailure_none (l : List (Option Result)) : firstFailure (none :: l) = firstFailure l := rfl

theorem keyOperate_eq (s : State) : s.keyOperate = !decide (s.key = .locked) := by
  unfold State.keyOperate
  cases s.key <;> rfl

theorem keyService_eq (s : State) : s.keyService = decide (s.key = .service) := by
  unfold State.keyService
  cases s.key <;> rfl

-- ---------------------------------------------------------------- lists of segments (R1, R18, R22, R23)

theorem segSet_of_names {r : Road} {segs : List Byte} (h : NamesConfigured r segs) :
    segSet r segs = some (idsWhere (lists segs)) := by
  obtain ⟨hne, hall⟩ := h
  unfold segSet
  rw [if_neg (by simpa using hne), if_pos]
  · rfl
  · rw [List.all_eq_true]
    intro b hb
    obtain ⟨i, hi, hc⟩ := hall b hb
    rw [idOf_eq_some.2 hi]
    exact hc

theorem segSet_of_not_names {r : Road} {segs : List Byte} (h : ¬ NamesConfigured r segs) : segSet r segs = none := by
  unfold segSet
  split
  · rfl
  · next hne =>
    split
    · next hall =>
      refine absurd ⟨by simpa using hne, fun b hb => ?_⟩ h
      have hb' := List.all_eq_true.1 hall b hb
      split at hb'
      · next i hi => exact ⟨i, idOf_eq_some.1 hi, hb'⟩
      · cases hb'
    · rfl

theorem namesConfigured_congr {r r' : Road} {segs : List Byte} (h : ∀ i, r'.configured i = r.configured i) :
    NamesConfigured r' segs ↔ NamesConfigured r segs := by
  unfold NamesConfigured
  simp only [h]

theorem nodup_idsWhere {n : Nat} (p : Fin n → Bool) : (idsWhere p).Nodup := (List.nodup_finRange n).filter _

end Sys2Proof.Machine

end

section
/-! What one event does to a single segment record: the chain of R42 (R15, R19, R20), warning confirmation (R11), the removal
of an entry (R7, R13) and an arrival (R5, R9, R14, R20); and the attention that the road sets (R8, R43). -/

namespace Sys2Proof.Machine

open RoadEv (entered startWarning)

-- ---------------------------------------------------------------- the chain and one segment

/-- What the chain can make of a segment record: nothing, the end or the abort of an opening, the end of a closing. -/
def ChainSeg (sg sg' : Segment) : Prop :=
  sg' = sg ∨ (sg.state = .opening ∧ sg' = entered .opened sg) ∨ (sg.state = .opening ∧ sg' = entered .closing sg) ∨
    ((sg.state = .opening ∨ sg.state = .closing) ∧ ∃ bad, sg' = { entered .closed sg with incomplete := bad })

theorem ChainSeg.rfl' (sg : Segment) : ChainSeg sg sg := Or.inl rfl

theorem ChainSeg.holds {sg sg' : Segment} (h : ChainSeg sg sg') : sg'.holds = sg.holds := by
  rcases h with rfl | ⟨_, rfl⟩ | ⟨_, rfl⟩ | ⟨_, _, rfl⟩ <;> rfl

theorem ChainSeg.moves {sg sg' : Segment} (h : ChainSeg sg sg') : Moves sg.state sg'.state := by
  rcases h with rfl | ⟨h, rfl⟩ | ⟨h, rfl⟩ | ⟨h | h, _, rfl⟩
  · exact Or.inl rfl
  · exact Or.inr (Or.inl ⟨h, nofun⟩)
  · exact Or.inr (Or.inl ⟨h, nofun⟩)
  · exact Or.inr (Or.inl ⟨h, nofun⟩)
  · exact Or.inr (Or.inr ⟨h, rfl⟩)

/-- A segment in OPEN, WARNING or CLOSED is outside the chain. -/
theorem ChainSeg.eq_of_still {sg sg' : Segment} (h : ChainSeg sg sg') (ho : sg.state ≠ .opening)
    (hc : sg.state ≠ .closing) : sg' = sg := by
  rcases h with rfl | ⟨h, _⟩ | ⟨h, _⟩ | ⟨h | h, _⟩
  · rfl
  all_goals exact absurd h (by assumption)

theorem ChainSeg.trans' {a b c : Segment} (h : ChainSeg a b) (k : ChainSeg b c) : ChainSeg a c := by
  rcases h with rfl | ⟨h, rfl⟩ | ⟨h, rfl⟩ | ⟨h, bad, rfl⟩
  · exact k
  · rw [k.eq_of_still (nofun) (nofun)]
    exact Or.inr (Or.inl ⟨h, rfl⟩)
  · rcases k with rfl | ⟨k, _⟩ | ⟨k, _⟩ | ⟨_, bad, rfl⟩
    · exact Or.inr (Or.inr (Or.inl ⟨h, rfl⟩))
    · exact absurd k nofun
    · exact absurd k nofun
    · exact Or.inr (Or.inr (Or.inr ⟨Or.inl h, bad, rfl⟩))
  · rw [k.eq_of_still (nofun) (nofun)]
    exact Or.inr (Or.inr (Or.inr ⟨h, bad, rfl⟩))

/-- A shut segment stays shut under the chain, with its hold set. -/
theorem ChainSeg.shut {sg sg' : Segment} (h : ChainSeg sg sg') (hs : sg.state.shut = true) : sg'.state.shut = true := by
  rcases h with rfl | ⟨h, _⟩ | ⟨h, _⟩ | ⟨_, _, rfl⟩
  · exact hs
  · rw [h] at hs; cases hs
  · rw [h] at hs; cases hs
  · rfl

theorem ChainSeg.of_closed {sg sg' : Segment} (h : ChainSeg sg sg') (hs : sg.state = .closed) : sg' = sg :=
  h.eq_of_still (by rw [hs]; decide) (by rw [hs]; decide)
theorem ChainSeg.of_opened {sg sg' : Segment} (h : ChainSeg sg sg') (hs : sg.state = .opened) : sg' = sg :=
  h.eq_of_still (by rw [hs]; decide) (by rw [hs]; decide)
theorem ChainSeg.of_warning {sg sg' : Segment} (h : ChainSeg sg sg') (hs : sg.state = .warning) : sg' = sg :=
  h.eq_of_still (by rw [hs]; decide) (by rw [hs]; decide)

/-- Every segment record of `r'` is what the chain can make of the one of `r`. -/
def ChainSegs (r r' : Road) : Prop := ∀ i, Option.Rel ChainSeg (r.segs.get i) (r'.segs.get i)

theorem rel_refl (o : Option Segment) : Option.Rel ChainSeg o o := by
  cases o with
  | none => exact .none
  | some sg => exact .some (ChainSeg.rfl' sg)

theorem ChainSegs.rfl' (r : Road) : ChainSegs r r := fun _ => rel_refl _

theorem ChainSegs.of_segs {r r' : Road} (h : r'.segs = r.segs) : ChainSegs r r' := fun i => by
  rw [h]
  exact rel_refl _

theorem rel_trans {a b c : Option Segment} (h : Option.Rel ChainSeg a b) (k : Option.Rel ChainSeg b c) :
    Option.Rel ChainSeg a c := by
  cases h with
  | none => exact k
  | some h => cases k with
    | some k => exact .some (h.trans' k)

theorem ChainSegs.trans' {a b c : Road} (h : ChainSegs a b) (k : ChainSegs b c) : ChainSegs a c := fun i =>
  rel_trans (h i) (k i)

theorem rel_some {R : Segment → Segment → Prop} {o o' : Option Segment} {sg : Segment} (h : Option.Rel R o o')
    (ho : o = some sg) : ∃ sg', o' = some sg' ∧ R sg sg' := by
  subst ho
  cases h with
  | some h => exact ⟨_, rfl, h⟩

theorem ChainSegs.some {r r' : Road} (h : ChainSegs r r') {i : SegId} {sg : Segment} (hi : r.segs.get i = some sg) :
    ∃ sg', r'.segs.get i = some sg' ∧ ChainSeg sg sg' := rel_some (h i) hi

namespace RoadEv

theorem enterSeg_get_of (ctx : RoadCtx) {e : RoadEv} {i : SegId} {st : SegState} {sg : Segment} (j : SegId)
    (hi : e.road.segs.get i = some sg) (hw : st ≠ .warning) : (enterSeg ctx e i st).1.road.segs.get j =
      if i = j then some (entered st sg) else e.road.segs.get j := by
  have hset : ((e.setSeg i (entered st)).touch i).road.segs.get j =
      if i = j then some (entered st sg) else e.road.segs.get j := by
    have h := setSeg_get e i j (entered st)
    rw [hi] at h
    exact h
  unfold enterSeg
  rw [hi]
  dsimp only
  rw [if_neg (by simpa using hw)]
  exact hset

theorem enterSeg_get_none (ctx : RoadCtx) {e : RoadEv} {i : SegId} (st : SegState) (hi : e.road.segs.get i = none) :
    enterSeg ctx e i st = (e, []) := by
  unfold enterSeg
  rw [hi]

/-- A segment enters WARNING: the confirmation wait starts, or the warning timer at once where the warning is confirmed. -/
theorem enterSeg_warning_get (ctx : RoadCtx) {e : RoadEv} {i : SegId} {sg : Segment} (j : SegId)
    (hi : e.road.segs.get i = some sg) : (enterSeg ctx e i .warning).1.road.segs.get j =
      if i = j then some (if ctx.confirmed.get i then startWarning (entered .warning sg) else entered .warning sg)
      else e.road.segs.get j := by
  have hset : ∀ j, ((e.setSeg i (entered .warning)).touch i).road.segs.get j =
      if i = j then some (entered .warning sg) else e.road.segs.get j := by
    intro j
    have h := setSeg_get e i j (entered .warning)
    rw [hi] at h
    exact h
  unfold enterSeg
  rw [hi]
  dsimp only
  rw [if_pos (by decide)]
  unfold judgeWarning
  rw [setSeg_get, hset, hset, if_pos rfl]
  split
  · rw [Option.map_some]
    cases ctx.confirmed.get i <;> rfl
  · rfl

theorem enterSeg_chainSegs (ctx : RoadCtx) {e : RoadEv} {i : SegId} {st : SegState} (hw : st ≠ .warning)
    (h : ∀ sg, e.road.segs.get i = some sg → ChainSeg sg (entered st sg)) :
    ChainSegs e.road (enterSeg ctx e i st).1.road := by
  intro j
  cases hi : e.road.segs.get i with
  | none => rw [enterSeg_get_none ctx st hi]; exact rel_refl _
  | some sg =>
    rw [enterSeg_get_of ctx j hi hw]
    split
    · next hij => subst hij; rw [hi]; exact .some (h sg hi)
    · exact rel_refl _

theorem handSeg_chainSegs (ctx : RoadCtx) (fault : Bool) (i : SegId) (e : RoadEv) :
    ChainSegs e.road (handSeg ctx fault i e).1.road := by
  unfold handSeg
  split
  · exact ChainSegs.rfl' _
  · next h =>
    split
    · refine enterSeg_chainSegs ctx (by decide) fun sg hi => Or.inr (Or.inr (Or.inl ⟨?_, rfl⟩))
      simpa [Road.segState, hi] using h
    · exact ChainSegs.rfl' _
  · exact ChainSegs.rfl' _

theorem handAll_chainSegs (ctx : RoadCtx) (fault : Bool) :
    ∀ (l : List SegId) (e : RoadEv), ChainSegs e.road (handAll ctx fault l e).1.road
  | [], e => ChainSegs.rfl' e.road
  | i :: l, e => (handSeg_chainSegs ctx fault i e).trans' (handAll_chainSegs ctx fault l _)

/-- One task writes segment records only as the chain may. -/
theorem doTask_chainSegs (ctx : RoadCtx) (t : Task) (e : RoadEv) : ChainSegs e.road (doTask ctx t e).1.road := by
  cases t with
  | demand g => exact .of_segs (doTask_segs ctx e g).1
  | apply g => exact .of_segs (doTask_segs ctx e g).2.1
  | settle g => exact .of_segs (doTask_segs ctx e g).2.2.1
  | resolve g => exact .of_segs (doTask_segs ctx e g).2.2.2
  | handed g fault => exact handAll_chainSegs ctx fault _ e
  | complete i =>
    simp only [doTask]
    split
    · next sg hi =>
      split
      · next hc =>
        simp only [Bool.and_eq_true, beq_iff_eq] at hc
        intro j
        have hset := fun j => setSeg_get e i j fun sg => { sg with
          incomplete := sg.gates.any fun g => (e.road.gates.get g).state == .fault }
        have hi' := hset i
        rw [if_pos rfl, hi] at hi'
        have hg := setSeg_get e i j fun s => { s with
          incomplete := sg.gates.any fun g => (e.road.gates.get g).state == .fault }
        rw [enterSeg_get_of ctx (sg := { sg with
          incomplete := sg.gates.any fun g => (e.road.gates.get g).state == .fault }) j
          (by rw [setSeg_get, if_pos rfl, hi]; rfl) (by decide), hg]
        by_cases hij : i = j
        · subst hij
          rw [if_pos rfl, hi]
          exact .some (Or.inr (Or.inr (Or.inr ⟨Or.inr hc.1, _, rfl⟩)))
        · rw [if_neg hij, if_neg hij]
          exact rel_refl _
      · exact ChainSegs.rfl' _
    · exact ChainSegs.rfl' _
  | done i =>
    simp only [doTask]
    split
    · next sg hi =>
      split
      · next hc =>
        simp only [Bool.and_eq_true, beq_iff_eq] at hc
        refine enterSeg_chainSegs ctx (by decide) fun sg' hi' => ?_
        obtain rfl : sg = sg' := Option.some.inj (hi.symm.trans hi')
        exact Or.inr (Or.inl ⟨hc.1, rfl⟩)
      · exact ChainSegs.rfl' _
    · exact ChainSegs.rfl' _

theorem run_chainSegs (ctx : RoadCtx) (n : Nat) (tasks : List Task) (e : RoadEv) :
    ChainSegs e.road (run ctx n tasks e).road :=
  run_induction ctx (fun x => ChainSegs e.road x.road) (fun t x h => h.trans' (doTask_chainSegs ctx t x)) n tasks e
    (ChainSegs.rfl' _)

theorem chain_chainSegs (ctx : RoadCtx) (r : RoadEv × List Task) : ChainSegs r.1.road (chain ctx r).road :=
  run_chainSegs ctx _ _ _

-- ---------------------------------------------------------------- attention of the road

/-- The flags that the road sets: SEGMENT and GATE (R8, R43). -/
def roadFlags : FlagSet := Attn.segment ||| Attn.gate

theorem segment_within : Within roadFlags Attn.segment := by unfold Within; decide
theorem gate_within : Within roadFlags Attn.gate := by unfold Within; decide

/-- One step of the road sets no flag but SEGMENT and GATE, and takes none back. -/
def FlagsGrow (e e' : RoadEv) : Prop := ∃ f, e'.flags = e.flags ||| f ∧ Within roadFlags f

theorem FlagsGrow.rfl' (e : RoadEv) : FlagsGrow e e := ⟨0, by simp, within_zero _⟩

theorem FlagsGrow.of_eq {e e' : RoadEv} (h : e'.flags = e.flags) : FlagsGrow e e' := ⟨0, by simp [h], within_zero _⟩

theorem FlagsGrow.trans' {a b c : RoadEv} : FlagsGrow a b → FlagsGrow b c → FlagsGrow a c := by
  rintro ⟨f, hf, wf⟩ ⟨g, hg, wg⟩
  exact ⟨f ||| g, by rw [hg, hf, BitVec.or_assoc], wf.or wg⟩

theorem FlagsGrow.includes {a b : RoadEv} {m : FlagSet} (h : FlagsGrow a b) (hm : Includes m a.flags) :
    Includes m b.flags := by
  obtain ⟨f, hf, _⟩ := h
  rw [hf]
  exact hm.or_left f

theorem setSeg_grow (e : RoadEv) (i : SegId) (f : Segment → Segment) : FlagsGrow e (e.setSeg i f) := .of_eq rfl
theorem touch_grow (e : RoadEv) (i : SegId) : FlagsGrow e (e.touch i) := ⟨_, rfl, segment_within⟩
theorem gateTo_grow (e : RoadEv) (i : GateId) (g : Gate) (rest : List Task) : FlagsGrow e (e.gateTo i g rest).1 :=
  ⟨_, rfl, gate_within⟩

theorem enterSeg_grow (ctx : RoadCtx) (e : RoadEv) (i : SegId) (st : SegState) : FlagsGrow e (enterSeg ctx e i st).1 := by
  unfold enterSeg
  split
  · exact .rfl' e
  · dsimp only
    split
    · exact (touch_grow (e.setSeg i (entered st)) i).trans' (.of_eq rfl)
    · exact touch_grow (e.setSeg i (entered st)) i

theorem handSeg_grow (ctx : RoadCtx) (fault : Bool) (i : SegId) (e : RoadEv) :
    FlagsGrow e (handSeg ctx fault i e).1 := by
  unfold handSeg
  split
  · exact .rfl' e
  · split
    · exact enterSeg_grow ctx e i .closing
    · exact .rfl' e
  · exact .rfl' e

theorem handAll_grow (ctx : RoadCtx) (fault : Bool) :
    ∀ (l : List SegId) (e : RoadEv), FlagsGrow e (handAll ctx fault l e).1
  | [], e => .rfl' e
  | i :: l, e => (handSeg_grow ctx fault i e).trans' (handAll_grow ctx fault l _)

theorem doTask_grow (ctx : RoadCtx) (t : Task) (e : RoadEv) : FlagsGrow e (doTask ctx t e).1 := by
  cases t with
  | demand i =>
    simp only [doTask]
    split
    · exact .rfl' e
    · exact .of_eq rfl
  | apply i =>
    simp only [doTask]
    split
    · exact gateTo_grow ..
    · exact gateTo_grow ..
    · exact gateTo_grow ..
    · exact .rfl' e
  | settle i =>
    simp only [doTask]
    split
    · exact gateTo_grow ..
    · exact gateTo_grow ..
    · exact gateTo_grow ..
    · exact .rfl' e
  | resolve i =>
    simp only [doTask]
    split
    · split <;> exact gateTo_grow ..
    · exact .rfl' e
  | handed i fault => exact handAll_grow ctx fault _ e
  | complete i =>
    simp only [doTask]
    split
    · split
      · exact (setSeg_grow ..).trans' (enterSeg_grow ..)
      · exact .rfl' e
    · exact .rfl' e
  | done i =>
    simp only [doTask]
    split
    · split
      · exact enterSeg_grow ..
      · exact .rfl' e
    · exact .rfl' e

theorem run_grow (ctx : RoadCtx) (n : Nat) (tasks : List Task) (e : RoadEv) : FlagsGrow e (run ctx n tasks e) :=
  run_induction ctx (FlagsGrow e) (fun t x h => h.trans' (doTask_grow ctx t x)) n tasks e (.rfl' e)

theorem chain_grow (ctx : RoadCtx) (r : RoadEv × List Task) : FlagsGrow r.1 (chain ctx r) := run_grow ctx _ _ _

theorem chain_enterSeg_grow (ctx : RoadCtx) (e : RoadEv) (i : SegId) (st : SegState) :
    FlagsGrow e (chain ctx (enterSeg ctx e i st)) := (enterSeg_grow ctx e i st).trans' (chain_grow ..)

theorem enterSeg_includes (ctx : RoadCtx) {e : RoadEv} {i : SegId} (st : SegState) {sg : Segment}
    (hi : e.road.segs.get i = some sg) : Includes Attn.segment (enterSeg ctx e i st).1.flags := by
  unfold enterSeg
  rw [hi]
  dsimp only
  split <;> exact (includes_self Attn.segment).or_right _

theorem writeEntry_grow (e : RoadEv) (i : SegId) (k : HoldKind) (o : Option HoldEntry) :
    FlagsGrow e (e.writeEntry i k o) := (setSeg_grow ..).trans' (touch_grow ..)

theorem writeEntry_includes (e : RoadEv) (i : SegId) (k : HoldKind) (o : Option HoldEntry) :
    Includes Attn.segment (e.writeEntry i k o).flags := (includes_self Attn.segment).or_right _

theorem createEntry_grow (ctx : RoadCtx) (i : SegId) (k : HoldKind) (reason : Option Byte) (sources : List Nat)
    (e : RoadEv) : FlagsGrow e (createEntry ctx i k reason sources e) := by
  unfold createEntry
  split
  · exact .rfl' e
  · dsimp only
    split
    · exact (writeEntry_grow ..).trans' (chain_enterSeg_grow ..)
    · exact writeEntry_grow ..

theorem createEntry_includes (ctx : RoadCtx) {i : SegId} (k : HoldKind) (reason : Option Byte) (sources : List Nat)
    {e : RoadEv} {sg : Segment} (hi : e.road.segs.get i = some sg) :
    Includes Attn.segment (createEntry ctx i k reason sources e).flags := by
  unfold createEntry
  rw [hi]
  dsimp only
  split
  · exact (chain_enterSeg_grow ..).includes (writeEntry_includes ..)
  · exact writeEntry_includes ..

theorem deleteEntry_grow (ctx : RoadCtx) (i : SegId) (k : HoldKind) (e : RoadEv) :
    FlagsGrow e (deleteEntry ctx i k e) := by
  unfold deleteEntry
  split
  · exact .rfl' e
  · split
    · dsimp only
      split
      · exact (writeEntry_grow ..).trans' (chain_enterSeg_grow ..)
      · exact writeEntry_grow ..
    · exact .rfl' e

theorem place_grow (ctx : RoadCtx) (k : HoldKind) (reason : Option Byte) (i : SegId) (e : RoadEv) :
    FlagsGrow e (place ctx k reason i e) := by
  unfold place
  split
  · exact .rfl' e
  · split
    · exact createEntry_grow ..
    · split
      · exact .rfl' e
      · exact writeEntry_grow ..

theorem addSource_grow (ctx : RoadCtx) (k : HoldKind) (source : Nat) (i : SegId) (e : RoadEv) :
    FlagsGrow e (addSource ctx k source i e) := by
  unfold addSource
  split
  · exact .rfl' e
  · split
    · exact createEntry_grow ..
    · split
      · exact .rfl' e
      · exact writeEntry_grow ..

theorem removeSource_grow (ctx : RoadCtx) (k : HoldKind) (source : Nat) (i : SegId) (e : RoadEv) :
    FlagsGrow e (removeSource ctx k source i e) := by
  unfold removeSource
  split
  · exact .rfl' e
  · split
    · exact .rfl' e
    · split
      · dsimp only
        split
        · exact deleteEntry_grow ..
        · exact writeEntry_grow ..
      · exact .rfl' e

theorem each_grow {f : SegId → RoadEv → RoadEv} (hf : ∀ i e, FlagsGrow e (f i e)) :
    ∀ (l : List SegId) (e : RoadEv), FlagsGrow e (each f l e)
  | [], e => .rfl' e
  | i :: l, e => (hf i e).trans' (each_grow hf l _)

end RoadEv

-- ---------------------------------------------------------------- warning confirmation at the end of an event

/-- A segment record that warning confirmation may have judged: unchanged, or its warning timer started (R11). -/
def Confirms (sg sg' : Segment) : Prop :=
  sg' = sg ∨ (sg.state = .warning ∧ sg.warningTimer = none ∧ sg' = startWarning sg)

theorem Confirms.rfl' (sg : Segment) : Confirms sg sg := Or.inl rfl

theorem Confirms.holds {sg sg' : Segment} (h : Confirms sg sg') : sg'.holds = sg.holds := by
  rcases h with rfl | ⟨_, _, rfl⟩ <;> rfl
theorem Confirms.state {sg sg' : Segment} (h : Confirms sg sg') : sg'.state = sg.state := by
  rcases h with rfl | ⟨_, _, rfl⟩ <;> rfl
theorem Confirms.incomplete {sg sg' : Segment} (h : Confirms sg sg') : sg'.incomplete = sg.incomplete := by
  rcases h with rfl | ⟨_, _, rfl⟩ <;> rfl

theorem Confirms.eq {sg sg' : Segment} (h : Confirms sg sg') (hs : sg.state ≠ .warning) : sg' = sg := by
  rcases h with rfl | ⟨h, _⟩
  · rfl
  · exact absurd h hs

theorem Confirms.trans' {a b c : Segment} (h : Confirms a b) (k : Confirms b c) : Confirms a c := by
  rcases h with rfl | ⟨h1, h2, rfl⟩
  · exact k
  · rcases k with rfl | ⟨_, k2, _⟩
    · exact Or.inr ⟨h1, h2, rfl⟩
    · cases k2

/-- Every segment record of `t` is the one of `s`, warning confirmation judged. -/
def ConfirmsAll (s t : State) : Prop := t.road.gates = s.road.gates ∧
  ∀ i, Option.Rel Confirms (s.road.segs.get i) (t.road.segs.get i)

theorem ConfirmsAll.of_eq {s t : State} (h : t.road = s.road) : ConfirmsAll s t := by
  rw [ConfirmsAll, h]
  refine ⟨rfl, fun i => ?_⟩
  cases s.road.segs.get i with
  | none => exact .none
  | some sg => exact .some (.rfl' sg)

theorem ConfirmsAll.trans' {s t u : State} (h : ConfirmsAll s t) (k : ConfirmsAll t u) : ConfirmsAll s u := by
  refine ⟨k.1.trans h.1, fun i => ?_⟩
  have hi := h.2 i
  have ki := k.2 i
  revert hi ki
  generalize s.road.segs.get i = a
  generalize t.road.segs.get i = b
  generalize u.road.segs.get i = c
  intro hi ki
  cases hi with
  | none => exact ki
  | some h => cases ki with
    | some k => exact .some (h.trans' k)

theorem ConfirmsAll.some {s t : State} (h : ConfirmsAll s t) {i : SegId} {sg : Segment}
    (hi : s.road.segs.get i = some sg) : ∃ sg', t.road.segs.get i = some sg' ∧ Confirms sg sg' := rel_some (h.2 i) hi

theorem judgeWarning_confirms (s : State) (i : SegId) : ConfirmsAll s (s.judgeWarning i) := by
  refine ⟨rfl, fun j => ?_⟩
  have hj := RoadEv.setSeg_get { road := s.road, flags := 0, touched := Vector.replicate 8 false } i j fun sg =>
    if sg.state == .warning && sg.warningTimer.isNone && s.roadCtx.confirmed.get i then startWarning sg else sg
  have hj' : (s.judgeWarning i).road.segs.get j = _ := hj
  rw [hj']
  split
  · next hij =>
    subst hij
    cases s.road.segs.get i with
    | none => exact .none
    | some sg =>
      refine .some ?_
      dsimp only
      split
      · next hc =>
        simp only [Bool.and_eq_true, beq_iff_eq, Option.isNone_iff_eq_none] at hc
        exact Or.inr ⟨hc.1.1, hc.1.2, rfl⟩
      · exact .rfl' sg
  · exact (ConfirmsAll.of_eq (s := s) rfl).2 j

theorem judgeSigns_confirms : ∀ (l : List SignId) (s : State), ConfirmsAll s (s.judgeSigns l)
  | [], _ => .of_eq rfl
  | i :: l, s => by
    show ConfirmsAll s (State.judgeSigns _ l)
    refine ConfirmsAll.trans' ?_ (judgeSigns_confirms l _)
    dsimp only
    split
    · exact judgeWarning_confirms s _
    · exact .of_eq rfl

theorem onBoard_confirms (f : BoardEv → BoardEv) (s : State) : ConfirmsAll s (s.onBoard f) :=
  (ConfirmsAll.of_eq (s := s)
    (t := ({ s with board := (f (BoardEv.start s.board)).board } : State).attend _) rfl).trans' (judgeSigns_confirms _ _)

theorem lineStep_confirms (f : BoardEv → BoardEv) (s : State) : ConfirmsAll s (s.lineStep f) :=
  (onBoard_confirms f s).trans' (.of_eq rfl)

theorem finish_confirms (e : Ev) : ConfirmsAll e.st e.finish := by
  unfold Ev.finish
  split
  · split <;> exact .of_eq rfl
  · exact (onBoard_confirms _ e.st).trans' (.of_eq rfl)

theorem ConfirmsAll.heldEntry {s t : State} (h : ConfirmsAll s t) (i : SegId) (k : HoldKind) :
    Machine.heldEntry t.road i k = Machine.heldEntry s.road i k := by
  have hi := h.2 i
  unfold Machine.heldEntry
  revert hi
  generalize s.road.segs.get i = a
  generalize t.road.segs.get i = b
  intro hi
  cases hi with
  | none => rfl
  | some h => rw [Option.bind_some, Option.bind_some, h.holds]

-- ---------------------------------------------------------------- the removal of an entry

/-- A segment record from which an entry was taken: a WARNING segment whose hold set empties is OPEN (R7, R13). -/
def withoutEntry (k : HoldKind) (sg : Segment) : Segment :=
  if sg.holds.has k then
    let left : Segment := { sg with holds := put sg.holds k.idx none }
    if left.holds.empty && sg.state == .warning then entered .opened left else left
  else sg

theorem withoutEntry_entry (k k' : HoldKind) (sg : Segment) :
    (withoutEntry k sg).holds.entry k' = if k = k' then none else sg.holds.entry k' := by
  unfold withoutEntry
  dsimp only
  split
  · have h : HoldSet.entry (put sg.holds k.idx none) k' = if k = k' then none else sg.holds.entry k' := entry_put ..
    split <;> exact h
  · next hn =>
    split
    · next hk =>
      subst hk
      simpa [HoldSet.has] using hn
    · rfl

/-- The removal of an entry leads where R7 and R13 say. -/
theorem withoutEntry_leaves (k : HoldKind) (sg : Segment) : LeavesAt sg (withoutEntry k sg) := by
  unfold LeavesAt withoutEntry
  dsimp only
  by_cases hk : sg.holds.has k = true
  · have hne : sg.holds.empty = false := HoldSet.empty_eq_false_of_has hk
    rw [if_pos hk]
    by_cases hc : (HoldSet.empty (put sg.holds k.idx none) && sg.state == .warning) = true
    · rw [if_pos hc]
      simp only [Bool.and_eq_true, beq_iff_eq] at hc
      rw [if_pos ⟨hc.2, hne, hc.1⟩]
      exact ⟨rfl, rfl, rfl⟩
    · rw [if_neg hc, if_neg]
      · exact Or.inl rfl
      · rintro ⟨hw, _, he⟩
        simp [hw, he] at hc
  · rw [if_neg hk, if_neg]
    · exact Or.inl rfl
    · rintro ⟨_, h1, h2⟩
      rw [h1] at h2
      cases h2

/-- The chain before and after a removal, and warning confirmation at the end, leave what the removal leads to. -/
theorem leavesAt_of_chain {sg a b sg' : Segment} (h1 : ChainSeg sg a) (h2 : LeavesAt a b) (h3 : ChainSeg b sg') :
    LeavesAt sg sg' := by
  unfold LeavesAt at *
  by_cases hw : sg.state = .warning
  · obtain rfl := h1.of_warning hw
    rw [h3.holds]
    split
    · next hc =>
      rw [if_pos hc] at h2
      rw [h3.of_opened h2.1]
      exact h2
    · next hc =>
      rw [if_neg hc] at h2
      exact h2.trans' h3.moves
  · rw [if_neg fun h => hw h.1]
    have ha : a.state ≠ .warning := by
      intro h
      rcases h1.moves with e | ⟨_, e⟩ | ⟨_, e⟩
      · exact hw (e.trans h)
      · exact e h
      · rw [h] at e; cases e
    rw [if_neg fun h => ha h.1] at h2
    exact (h1.moves.trans' h2).trans' h3.moves

theorem LeavesAt.confirms {sg a sg' : Segment} (h : LeavesAt sg a) (k : Confirms a sg') : LeavesAt sg sg' := by
  unfold LeavesAt at *
  rw [k.holds, k.state]
  split
  · next hc =>
    rw [if_pos hc] at h
    rw [k.eq (by rw [h.1]; decide)]
    exact h
  · next hc =>
    rw [if_neg hc] at h
    exact h

theorem leavesAt_of_chainSeg {sg sg' : Segment} (h : ChainSeg sg sg') : LeavesAt sg sg' := by
  unfold LeavesAt
  rw [h.holds, if_neg (by rintro ⟨_, h1, h2⟩; rw [h1] at h2; cases h2)]
  exact h.moves

namespace RoadEv

/-- A removal at one segment: the record without the entry there, and what the chain makes of the other segments. -/
theorem deleteEntry_seg (ctx : RoadCtx) (i j : SegId) (k : HoldKind) (e : RoadEv) :
    (i = j → (deleteEntry ctx i k e).road.segs.get j = (e.road.segs.get j).map (withoutEntry k)) ∧
      (i ≠ j → Option.Rel ChainSeg (e.road.segs.get j) ((deleteEntry ctx i k e).road.segs.get j)) := by
  unfold deleteEntry
  split
  · next hi => exact ⟨fun h => by subst h; simp [hi], fun _ => rel_refl _⟩
  · next sg hi =>
    have hw : ∀ j, (e.writeEntry i k none).road.segs.get j =
        if i = j then some { sg with holds := put sg.holds k.idx none } else e.road.segs.get j := by
      intro j
      have h := setSeg_get e i j fun sg => { sg with holds := put sg.holds k.idx none }
      rw [hi] at h
      exact h
    split
    · next hk =>
      dsimp only
      split
      · next hc =>
        have he := fun j => enterSeg_get_of ctx (st := .opened) j ((hw i).trans (if_pos rfl)) (by decide)
        have hch := chain_chainSegs ctx (enterSeg ctx (e.writeEntry i k none) i .opened)
        refine ⟨fun h => ?_, fun h => ?_⟩
        · subst h
          obtain ⟨sg', hg, hr⟩ := hch.some ((he i).trans (if_pos rfl))
          rw [hg, hr.of_opened rfl, hi, Option.map_some]
          unfold withoutEntry
          rw [if_pos hk]
          dsimp only
          rw [if_pos hc]
        · have hj := hch j
          rw [he j, if_neg h, hw j, if_neg h] at hj
          exact hj
      · next hc =>
        refine ⟨fun h => ?_, fun h => ?_⟩
        · subst h
          rw [hw, if_pos rfl, hi, Option.map_some]
          unfold withoutEntry
          rw [if_pos hk]
          dsimp only
          rw [if_neg hc]
        · rw [hw, if_neg h]
          exact rel_refl _
    · next hk =>
      refine ⟨fun h => ?_, fun _ => rel_refl _⟩
      subst h
      rw [hi, Option.map_some]
      unfold withoutEntry
      rw [if_neg hk]

/-- The same step at several segments, each once: what it does to the record of a listed one, between what the chain makes of
that record before and after. -/
theorem each_seg {f : SegId → RoadEv → RoadEv} {P : Segment → Segment → Prop}
    (hself : ∀ i e sg, e.road.segs.get i = some sg → ∃ a, (f i e).road.segs.get i = some a ∧ P sg a)
    (hother : ∀ i j e, i ≠ j → Option.Rel ChainSeg (e.road.segs.get j) ((f i e).road.segs.get j)) (j : SegId) :
    ∀ (l : List SegId) (e : RoadEv) (sg : Segment), l.Nodup → e.road.segs.get j = some sg →
      ∃ sg', (each f l e).road.segs.get j = some sg' ∧
        if j ∈ l then ∃ mid a, ChainSeg sg mid ∧ P mid a ∧ ChainSeg a sg' else ChainSeg sg sg'
  | [], _, sg, _, h => ⟨sg, h, by simpa using ChainSeg.rfl' sg⟩
  | i :: l, e, sg, hnd, h => by
    have hl := (List.nodup_cons.1 hnd)
    show ∃ sg', (each f l (f i e)).road.segs.get j = some sg' ∧ _
    by_cases hij : i = j
    · subst hij
      obtain ⟨a, ha, hp⟩ := hself i e sg h
      obtain ⟨sg', hg, hr⟩ := each_seg hself hother i l _ _ hl.2 ha
      rw [if_neg hl.1] at hr
      exact ⟨sg', hg, by rw [if_pos (by simp)]; exact ⟨sg, a, .rfl' sg, hp, hr⟩⟩
    · obtain ⟨mid, hm, hc⟩ := rel_some (hother i j e hij) h
      obtain ⟨sg', hg, hr⟩ := each_seg hself hother j l _ _ hl.2 hm
      refine ⟨sg', hg, ?_⟩
      by_cases hj : j ∈ l
      · rw [if_pos hj] at hr
        rw [if_pos (List.mem_cons_of_mem _ hj)]
        obtain ⟨m, a, h1, h2, h3⟩ := hr
        exact ⟨m, a, hc.trans' h1, h2, h3⟩
      · rw [if_neg hj] at hr
        rw [if_neg (by simp [hj, Ne.symm hij])]
        exact hc.trans' hr

theorem deleteEntry_self (ctx : RoadCtx) (k : HoldKind) (i : SegId) (e : RoadEv) (sg : Segment)
    (h : e.road.segs.get i = some sg) :
    ∃ a, (deleteEntry ctx i k e).road.segs.get i = some a ∧ a = withoutEntry k sg :=
  ⟨_, by rw [(deleteEntry_seg ctx i i k e).1 rfl, h]; rfl, rfl⟩

/-- Removals at several segments: the entry has left those listed, and each state follows R7 and R13. -/
theorem each_deleteEntry_leaves (ctx : RoadCtx) (k : HoldKind) {l : List SegId} (e : RoadEv) {j : SegId} {sg : Segment}
    (hl : l.Nodup) (h : e.road.segs.get j = some sg) :
    ∃ sg', (each (fun i => deleteEntry ctx i k) l e).road.segs.get j = some sg' ∧
      (∀ k', sg'.holds.entry k' = if k' = k ∧ j ∈ l then none else sg.holds.entry k') ∧ LeavesAt sg sg' := by
  obtain ⟨sg', hg, hr⟩ := each_seg (f := fun i => deleteEntry ctx i k) (deleteEntry_self ctx k)
    (fun i j e => (deleteEntry_seg ctx i j k e).2) j l e sg hl h
  refine ⟨sg', hg, ?_⟩
  by_cases hj : j ∈ l
  · rw [if_pos hj] at hr
    obtain ⟨mid, _, h1, rfl, h2⟩ := hr
    refine ⟨fun k' => ?_, leavesAt_of_chain h1 (withoutEntry_leaves k mid) h2⟩
    rw [h2.holds, withoutEntry_entry, h1.holds]
    simp [hj, eq_comm]
  · rw [if_neg hj] at hr
    refine ⟨fun k' => ?_, leavesAt_of_chainSeg hr⟩
    rw [hr.holds]
    simp [hj]

end RoadEv

-- ---------------------------------------------------------------- a step of the road within an event

/-- The end of an event after a step of the road, beside the state that it began in: the flags, the blocks, the gates, and
each segment record (R8, R43, R152). -/
theorem onRoad_finish_spec (f : RoadCtx → RoadEv → RoadEv) (e : Ev)
    (hf : ∀ ctx x, RoadEv.FlagsGrow x (f ctx x)) :
    let r := f e.st.roadCtx { road := e.st.road, flags := 0, touched := Vector.replicate 8 false }
    KeepsBut [.links, .road, .board] e.st (e.onRoad f).finish ∧ Gains r.flags e.st (e.onRoad f).finish ∧
      Within (Attn.segment ||| Attn.gate) r.flags ∧ (e.onRoad f).finish.road.gates = r.road.gates ∧
      ∀ i sg, r.road.segs.get i = some sg → ∃ sg', (e.onRoad f).finish.road.segs.get i = some sg' ∧ Confirms sg sg' := by
  dsimp only
  obtain ⟨hroad, hkeep, hgain⟩ := onRoad_spec f e
  have hconf := finish_confirms (e.onRoad f)
  obtain ⟨g, hg, hw⟩ := hf e.st.roadCtx { road := e.st.road, flags := 0, touched := Vector.replicate 8 false }
  refine ⟨(hkeep.mono (by simp)).trans' (finish_spec _).1, hgain.finish, ?_, ?_, fun i sg hi => ?_⟩
  · rw [hg]
    exact (within_zero _).or hw
  · rw [hconf.1, hroad]
  · exact hconf.some (by rw [hroad]; exact hi)

end Sys2Proof.Machine

end

section
/-! The requests that take entries out of hold sets: HOLD_RELEASE, STARTUP_RELEASE, and the automatic start-up release that
hearing a frame may bring with it (R7, R13, R23, R25, R26, R177). -/

namespace Sys2Proof.Machine

-- ---------------------------------------------------------------- an accepted step of the road

/-- The start of a reply keeps a segment record. -/
theorem startReply_segs (l : Link) (kind : Byte) (body : List Byte) (s : State) :
    (s.startReply l kind body).road.segs = s.road.segs := rfl

/-- An accepted request whose effect is a step of the road, beside the state in which it was judged (R178). -/
theorem accepted_onRoad {l : Link} {s : State} {kind : Byte} {judge : Ev → Verdict} {f : RoadCtx → RoadEv → RoadEv}
    {reply : State → List Byte} (h : Ready l s) (hj : judge (hearing l s) = .accept ((hearing l s).onRoad f) reply)
    (hf : ∀ ctx x, RoadEv.FlagsGrow x (f ctx x)) :
    let r := f (heardState l s).roadCtx { road := (heardState l s).road, flags := 0, touched := Vector.replicate 8 false }
    let t := takeRequest l kind judge s
    KeepsBut [.links, .road, .board] (heardState l s) t ∧
      Answered l kind (reply ((hearing l s).onRoad f).finish) r.flags (heardState l s) t ∧
      Within (Attn.segment ||| Attn.gate) r.flags ∧ t.road.gates = r.road.gates ∧
      ∀ i sg, r.road.segs.get i = some sg → ∃ sg', t.road.segs.get i = some sg' ∧ Confirms sg sg' := by
  dsimp only
  obtain ⟨hkeep, hgain, hw, hgates, hsegs⟩ := onRoad_finish_spec f (hearing l s) hf
  rw [takeRequest_accepted h hj]
  refine ⟨hkeep.trans' ((startReply_answered _ _ _ _).2.mono (by simp)), hgain.answered l kind _, hw, hgates, hsegs⟩

/-- Removals on each of a list of segments leave each record as R7 and R13 say, also behind the end of the event. -/
theorem removed_becomes {ctx : RoadCtx} {k : HoldKind} {ids : List SegId} {r : RoadEv} {s t : State} (hn : ids.Nodup)
    (hs : r.road = s.road)
    (ht : ∀ i sg, (RoadEv.each (fun i => RoadEv.deleteEntry ctx i k) ids r).road.segs.get i = some sg →
      ∃ sg', t.road.segs.get i = some sg' ∧ Confirms sg sg') :
    SegmentBecomes s t fun i sg sg' =>
      (∀ k', sg'.holds.entry k' = if k' = k ∧ i ∈ ids then none else sg.holds.entry k') ∧ LeavesAt sg sg' := by
  intro i sg hi
  obtain ⟨mid, hm, hent, hleave⟩ := RoadEv.each_deleteEntry_leaves ctx k r hn (hs ▸ hi)
  obtain ⟨sg', hg, hc⟩ := ht i mid hm
  exact ⟨sg', hg, fun k' => by rw [hc.holds, hent], hleave.confirms hc⟩

/-- An accepted removal of a kind from a list of segments (R7, R13). -/
theorem accepted_remove {l : Link} {s : State} {kind : Byte} {judge : Ev → Verdict} {k : HoldKind} {ids : List SegId}
    (h : Ready l s) (hj : judge (hearing l s) = Verdict.done ((hearing l s).remove k ids)) (hn : ids.Nodup) :
    let t := takeRequest l kind judge s
    KeepsBut [.links, .road, .board] (heardState l s) t ∧
      (∃ f, Answered l kind [0x00] f (heardState l s) t ∧ Within (Attn.segment ||| Attn.gate) f) ∧
      SegmentBecomes (heardState l s) t fun i sg sg' =>
        (∀ k', sg'.holds.entry k' = if k' = k ∧ i ∈ ids then none else sg.holds.entry k') ∧ LeavesAt sg sg' := by
  obtain ⟨hkeep, hans, hw, _, hsegs⟩ := accepted_onRoad (kind := kind) h hj fun ctx =>
    RoadEv.each_grow (fun i => RoadEv.deleteEntry_grow ctx i k) ids
  exact ⟨hkeep, ⟨_, hans, hw⟩, removed_becomes hn rfl hsegs⟩

-- ---------------------------------------------------------------- a removal that finds nothing

theorem deleteEntry_absent (ctx : RoadCtx) {i : SegId} {k : HoldKind} {e : RoadEv}
    (h : ∀ sg, e.road.segs.get i = some sg → sg.holds.entry k = none) : RoadEv.deleteEntry ctx i k e = e := by
  unfold RoadEv.deleteEntry
  split
  · rfl
  · next sg hi =>
    rw [if_neg]
    simp [HoldSet.has, h sg hi]

theorem each_deleteEntry_absent (ctx : RoadCtx) {k : HoldKind} (l : List SegId) {e : RoadEv}
    (h : ∀ i sg, e.road.segs.get i = some sg → sg.holds.entry k = none) :
    RoadEv.each (fun i => RoadEv.deleteEntry ctx i k) l e = e := by
  induction l with
  | nil => rfl
  | cons i l ih =>
    show RoadEv.each (fun i => RoadEv.deleteEntry ctx i k) l (RoadEv.deleteEntry ctx i k e) = e
    rw [deleteEntry_absent ctx (h i)]
    exact ih

/-- A removal of a kind that no segment holds changes no block and sets no flag (R7, R26). -/
theorem remove_absent {k : HoldKind} {s : State} (l : List SegId)
    (h : ∀ i sg, s.road.segs.get i = some sg → sg.holds.entry k = none) :
    KeepsBut [.links] s ((Ev.start s).remove k l).finish ∧ Gains 0 s ((Ev.start s).remove k l).finish := by
  have hnone := each_deleteEntry_absent s.roadCtx l (e := { road := s.road, flags := 0, touched := Vector.replicate 8 false }) h
  have hrem : (Ev.start s).remove k l =
      ((Ev.start s).on fun s => { s with road := s.road }).attend 0 := by
    unfold Ev.remove Ev.onRoad
    dsimp only [start_st]
    rw [hnone]
    dsimp only
    rw [setIds_replicate_false]
    rfl
  rw [hrem, finish_quiet _ (by simp [Ev.attend]) rfl]
  exact ⟨attend_keeps 0 s, attend_gains 0 s⟩

-- ---------------------------------------------------------------- authority (R23, R26)

theorem valleySilent_heard_panel (s : State) :
    (heardState .panel s).valleySilent = !s.links.valley.active :=
  congrArg (!·) (heardState_active_other (l := .panel) (m := .valley) s (by decide))

/-- The panel may name the kind and the key alone is wrong for it (R23). -/
def KeyAlone (s : State) (l : Link) (kind : HoldKind) : Prop :=
  l = .panel ∧ s.key = .locked ∧ (kind = .panel ∨ (kind = .valley ∧ s.links.valley.active = false))

theorem needReleaseAuthority_heard (l : Link) (s : State) (kind : HoldKind) :
    (MayRelease s l kind → (heardState l s).needReleaseAuthority l kind = none) ∧
      (KeyAlone s l kind → (heardState l s).needReleaseAuthority l kind = some .key) ∧
      (¬ MayRelease s l kind → ¬ KeyAlone s l kind →
        (heardState l s).needReleaseAuthority l kind = some .authority) := by
  unfold MayRelease KeyAlone State.needReleaseAuthority
  cases l with
  | valley => cases kind <;> simp
  | avalanche => cases kind <;> simp
  | panel =>
    rw [valleySilent_heard_panel, keyOperate_eq, heardState_key]
    cases kind <;> cases s.links.valley.active <;> by_cases hk : s.key = .locked <;> simp [hk]

@[simp] theorem link_beq (l m : Link) : (l == m) = decide (l = m) := by cases l <;> cases m <;> rfl

theorem needPanelService_heard (l : Link) (s : State) :
    (heardState l s).needPanelService l =
      if l = .panel then (if s.key = .service then none else some .key) else some .authority := by
  unfold State.needPanelService
  rw [keyService_eq, heardState_key]
  cases l <;> by_cases hk : s.key = .service <;> simp [hk]

theorem needCommissioned_heard (l : Link) (s : State) :
    (heardState l s).needCommissioned = if s.commissioned then none else some .state := by
  unfold State.needCommissioned need
  rw [heardState_commissioned]

theorem judgeHoldRelease_eq {l : Link} {kind : HoldKind} {segs : List Byte} (s : State) (hf : segListFits segs = true) :
    judgeHoldRelease l kind segs (hearing l s) =
      Verdict.check [(heardState l s).needReleaseAuthority l kind, (heardState l s).needCommissioned] fun _ =>
        match segSet (heardState l s).road segs with
        | none => Verdict.deny .range
        | some ids => Verdict.done ((hearing l s).remove kind ids) := by
  unfold judgeHoldRelease
  rw [fitting_of_fits hf]
  rfl

/-- STARTUP has left every segment where it was taken from all that are configured. -/
theorem startup_becomes {s t : State} (h : SegmentBecomes s t fun i sg sg' =>
      (∀ k, sg'.holds.entry k = if k = .startup ∧ i ∈ s.road.configuredIds then none else sg.holds.entry k) ∧
        LeavesAt sg sg') :
    SegmentBecomes s t fun _ sg sg' =>
      (∀ k, sg'.holds.entry k = if k = .startup then none else sg.holds.entry k) ∧ LeavesAt sg sg' := by
  intro i sg hi
  obtain ⟨sg', hg, hent, hleave⟩ := h i sg hi
  refine ⟨sg', hg, fun k => ?_, hleave⟩
  have hc : i ∈ s.road.configuredIds := (configuredIds_mem _ _).2 (by simp [Road.configured, hi])
  rw [hent]
  simp [hc]

/-- A frame that finds no STARTUP entry leaves the road as it was, whether or not it sets the last mark (R25, R26). -/
theorem afterHearing_road_of_no_startup {l : Link} {s : State}
    (h : ∀ i sg, s.road.segs.get i = some sg → sg.holds.entry .startup = none) : (afterHearing l s).road = s.road := by
  by_cases hr : Releases l s
  · unfold afterHearing
    rw [hearing_of_releases hr]
    rw [((remove_absent (s := s.hear l) _ (by rw [hear_road]; exact h)).1 .road (by simp)), hear_road]
  · rw [afterHearing_of_not_releases hr, hear_road]

-- ---------------------------------------------------------------- a frame that is answered and changes nothing more

/-- The state after hearing a frame, beside the state before (R25, R178, R183). -/
theorem afterHearing_spec (l : Link) (s : State) :
    KeepsBut [.marks, .links, .road, .board] s (afterHearing l s) ∧
      (∃ f, Gains f (s.hear l) (afterHearing l s)) ∧
      (afterHearing l s).valleyHeard = (s.valleyHeard || l == .valley) ∧
      (afterHearing l s).avalancheHeard = (s.avalancheHeard || l == .avalanche) := by
  have hf := finish_spec (hearing l s)
  obtain ⟨f, hg⟩ := heardState_gains l s
  have hm := hf.1 .marks (by simp)
  exact ⟨((heardState_keeps l s).mono (by simp)).trans' (hf.1.mono (by simp)), ⟨f, Gains.finish (e := hearing l s) hg⟩,
    hm.1.trans (heardState_marks l s).1, hm.2.trans (heardState_marks l s).2⟩

/-- The automatic start-up release, at the end of its event (R25). -/
theorem afterHearing_of_releases {l : Link} {s : State} (h : Releases l s) :
    SegmentBecomes s (afterHearing l s) fun _ sg sg' =>
      (∀ k, sg'.holds.entry k = if k = .startup then none else sg.holds.entry k) ∧ LeavesAt sg sg' := by
  have hsegs := (onRoad_finish_spec
    (fun ctx => RoadEv.each (fun i => RoadEv.deleteEntry ctx i .startup) (s.hear l).road.configuredIds)
    (Ev.start (s.hear l)) fun ctx => RoadEv.each_grow (fun i => RoadEv.deleteEntry_grow ctx i .startup) _).2.2.2.2
  refine startup_becomes ?_
  unfold afterHearing
  rw [hearing_of_releases h]
  have hb := removed_becomes (s := s) (nodup_idsWhere _) (hear_road l s) hsegs
  rw [hear_road] at hb ⊢
  exact hb

end Sys2Proof.Machine

open Sys2Proof Sys2Proof.Machine

/-- Settles O12: the checks of R23 in their order, then the removal on each listed segment. -/
theorem holdReleaseRemovesTheNamedKind : Obligations.HoldReleaseRemovesTheNamedKind := by
  intro l kind segs s hr hf
  have hj := judgeHoldRelease_eq (l := l) (kind := kind) s hf
  obtain ⟨hmay, hkey, hauth⟩ := needReleaseAuthority_heard l s kind
  have hcom := needCommissioned_heard l s
  have hnames := namesConfigured_congr (segs := segs) (heardState_configured l s)
  refine ⟨_, rfl, fun h1 h2 => ?_, fun h => ?_, fun h1 h2 => ?_, fun h1 h2 h3 => ?_, fun h1 h2 h3 => ?_⟩
  · exact refused_of_deny hr (hj.trans (check_of_failure (by simp [hauth h1 h2])))
  · exact refused_of_deny hr (hj.trans (check_of_failure (by simp [hkey h])))
  · exact refused_of_deny hr (hj.trans (check_of_failure (by simp [hmay h1, hcom, h2])))
  · refine refused_of_deny hr (hj.trans ((check_of_pass (by simp [hmay h1, hcom, h2])).trans ?_))
    rw [segSet_of_not_names fun h => h3 (hnames.1 h)]
  · have hacc : judgeHoldRelease l kind segs (hearing l s) =
        Verdict.done ((hearing l s).remove kind (idsWhere (lists segs))) := by
      rw [hj, check_of_pass (by simp [hmay h1, hcom, h2]), segSet_of_names (hnames.2 h3)]
    obtain ⟨hkeep, hans, hseg⟩ := accepted_remove (kind := 0x04) hr hacc (nodup_idsWhere _)
    refine ⟨hkeep, hans, fun i sg hi => ?_⟩
    obtain ⟨sg', hg, hent, hleave⟩ := hseg i sg hi
    exact ⟨sg', hg, fun k => by rw [hent]; simp, hleave⟩

/-- Settles O13: the checks of R26 in their order, then the removal of STARTUP from every configured segment, which does
nothing where no segment holds it. -/
theorem startupReleaseRemovesStartup : Obligations.StartupReleaseRemovesStartup := by
  intro l s hr
  have hps := needPanelService_heard l s
  have hcom := needCommissioned_heard l s
  refine ⟨_, rfl, fun h => ?_, fun h1 h2 => ?_, fun h1 h2 h3 => ?_, fun h1 h2 h3 => ?_, fun h1 h2 h3 h4 => ?_,
    fun h m => afterHearing_road_of_no_startup h⟩
  · exact refused_of_deny hr (check_of_failure (by simp [hps, h]))
  · exact refused_of_deny hr (check_of_failure (by rw [hearing_st, hps]; simp [h1, h2]))
  · exact refused_of_deny hr (check_of_failure (by rw [hearing_st, hps, hcom]; simp [h1, h2, h3]))
  · have hacc : judgeStartupRelease l (hearing l s) =
        Verdict.done ((hearing l s).remove .startup (heardState l s).road.configuredIds) :=
      check_of_pass (by rw [hearing_st, hps, hcom]; simp [h1, h2, h3])
    obtain ⟨hkeep, hans, hseg⟩ := accepted_remove (kind := 0x05) hr hacc (nodup_idsWhere _)
    have hm := heardState_marks l s
    have hk := hkeep .marks (by simp)
    subst h1
    exact ⟨hkeep, by simpa using hk.1.trans hm.1, by simpa using hk.2.trans hm.2, hans, startup_becomes hseg⟩
  · have hnr : ¬ Releases l s := by
      rintro ⟨_, _, ⟨h, _⟩ | ⟨h, _⟩⟩ <;> rw [h1] at h <;> cases h
    have hst : heardState l s = s.hear l := heardState_of_not_releases hnr
    have hacc : judgeStartupRelease l (hearing l s) =
        Verdict.done ((Ev.start (s.hear l)).remove .startup (s.hear l).road.configuredIds) := by
      rw [← hearing_of_not_releases hnr, ← hst]
      exact check_of_pass (by rw [hearing_st, hps, hcom]; simp [h1, h2, h3])
    obtain ⟨hkeep, hgain⟩ := remove_absent (s := s.hear l) (k := .startup) (s.hear l).road.configuredIds
      (by rw [hear_road]; exact h4)
    rw [takeRequest_accepted hr hacc, afterHearing_of_not_releases hnr]
    exact ⟨hkeep.trans' (startReply_answered _ _ _ _).2, hgain.answered l 0x05 _⟩

/-- Settles O6: a frame that does not fit is heard and answered, and its event does nothing more but an automatic start-up
release. -/
theorem formatRefusalHearsItsFrame : Obligations.FormatRefusalHearsItsFrame := by
  intro l kind s hr
  have ht : takeRequest l kind judgeFormat s = (afterHearing l s).startReply l kind [0x01] := takeRequest_refused hr rfl
  obtain ⟨hkeep, ⟨f, hgain⟩, hv, ha⟩ := afterHearing_spec l s
  obtain ⟨hans, hkeep'⟩ := startReply_answered l kind [0x01] (afterHearing l s)
  have hlink : ∀ m, ((takeRequest l kind judgeFormat s).links.get m).active = ((s.hear l).links.get m).active ∧
      ((takeRequest l kind judgeFormat s).links.get m).timer = ((s.hear l).links.get m).timer ∧
      ((takeRequest l kind judgeFormat s).links.get m).limit = ((s.hear l).links.get m).limit ∧
      ((takeRequest l kind judgeFormat s).links.get m).enable = ((s.hear l).links.get m).enable ∧
      ((takeRequest l kind judgeFormat s).links.get m).receiver =
        if m = l then .replying (linkFrame (kind + 0x80) [0x01]) else ((s.hear l).links.get m).receiver := by
    intro m
    rw [ht, hans m, hgain m]
    exact ⟨rfl, rfl, rfl, rfl, rfl⟩
  have hear := hear_get l
  refine ⟨_, rfl, ?_, ?_, ?_, ?_, ?_, ?_, fun m => ?_, fun m hm => ?_, fun hn => ?_, fun hrel => ?_⟩
  · rw [(hlink l).2.2.2.2, if_pos rfl]
  · rw [(hlink l).1, (hear l s).2.2.2.2.1]
    simp
  · rw [(hlink l).2.1, (hear l s).2.2.2.2.2, if_pos rfl]
  · rw [ht]
    exact hv
  · rw [ht]
    exact ha
  · rw [ht]
    exact (hkeep.mono (by simp)).trans' (hkeep'.mono (by simp))
  · rw [(hlink m).2.2.2.1, (hlink m).2.2.1]
    exact ⟨(hear m s).2.2.1, (hear m s).2.2.2.1⟩
  · rw [(hlink m).1, (hlink m).2.1, (hlink m).2.2.2.2, if_neg hm, (hear m s).2.2.2.2.1, (hear m s).2.2.2.2.2,
      (hear m s).2.1, if_neg (Ne.symm hm)]
    simp [Ne.symm hm]
  · rw [ht, afterHearing_of_not_releases hn]
    refine ⟨hear_road l s, hear_board l s, fun m => ?_⟩
    rw [(startReply_answered l kind [0x01] (s.hear l)).1 m, ← (hear m s).1]
    simp
  · rw [ht]
    exact afterHearing_of_releases hrel

end

section
/-! HOLD_PLACE (R5, R6, R9, R14, R20, R22): what placing a kind makes of one segment record, alone and behind the chain. -/

namespace Sys2Proof.Machine

open RoadEv (entered startWarning)

/-- A segment record with the entry of a kind. -/
def withEntry (k : HoldKind) (x : HoldEntry) (sg : Segment) : Segment := { sg with holds := put sg.holds k.idx (some x) }

theorem withEntry_entry (k k' : HoldKind) (x : HoldEntry) (sg : Segment) :
    (withEntry k x sg).holds.entry k' = if k = k' then some x else sg.holds.entry k' := entry_put ..

theorem put_get_self {α : Type} {n : Nat} (v : Vector α n) (i : Fin n) : put v i (v.get i) = v :=
  table_ext fun j => by
    rw [get_put]
    split
    · next h => rw [h]
    · rfl

theorem withEntry_self {k : HoldKind} {x : HoldEntry} {sg : Segment} (h : sg.holds.entry k = some x) :
    withEntry k x sg = sg := by
  have hp : put sg.holds k.idx (some x) = sg.holds := by rw [← h]; exact put_get_self sg.holds k.idx
  unfold withEntry
  rw [hp]

/-- What an arrival makes at once of a segment record that has just taken the new entry (R9, R11, R14, R20). -/
def Arrives (k : HoldKind) (sg a : Segment) : Prop :=
  match RoadEv.arrivalState sg k with
  | none => a = sg
  | some st => a = entered st sg ∨ (st = .warning ∧ a = startWarning (entered .warning sg))

/-- What placing a kind without sources makes of a segment record, the chain apart (R5, R6, R22). -/
def Places (since : Option Nat) (k : HoldKind) (reason : Option Byte) (sg a : Segment) : Prop :=
  match sg.holds.entry k with
  | some old => a = withEntry k { old with reason := reason } sg
  | none => ∃ b, Arrives k (withEntry k { since := since, reason := reason, sources := [] } sg) b ∧ ChainSeg b a

theorem Arrives.holds {k : HoldKind} {sg a : Segment} (h : Arrives k sg a) : a.holds = sg.holds := by
  unfold Arrives at h
  split at h
  · rw [h]
  · rcases h with rfl | ⟨_, rfl⟩ <;> rfl

namespace RoadEv

theorem writeEntry_get (k : HoldKind) (x : HoldEntry) {e : RoadEv} {i : SegId} {sg : Segment} (j : SegId)
    (hi : e.road.segs.get i = some sg) : (e.writeEntry i k (some x)).road.segs.get j =
      if i = j then some (withEntry k x sg) else e.road.segs.get j := by
  have h := setSeg_get e i j (withEntry k x)
  rw [hi] at h
  exact h

/-- A segment enters a state: its record, the chain included, and what the chain makes of the other segments. -/
theorem chain_enterSeg_seg (ctx : RoadCtx) {e : RoadEv} {i : SegId} {sg : Segment} (st : SegState)
    (hi : e.road.segs.get i = some sg) :
    (∃ b a, (b = entered st sg ∨ (st = .warning ∧ b = startWarning (entered .warning sg))) ∧ ChainSeg b a ∧
      (chain ctx (enterSeg ctx e i st)).road.segs.get i = some a) ∧
      ∀ j, i ≠ j → Option.Rel ChainSeg (e.road.segs.get j) ((chain ctx (enterSeg ctx e i st)).road.segs.get j) := by
  have hch := chain_chainSegs ctx (enterSeg ctx e i st)
  have hget : ∃ b, (b = entered st sg ∨ (st = .warning ∧ b = startWarning (entered .warning sg))) ∧
      ∀ j, (enterSeg ctx e i st).1.road.segs.get j = if i = j then some b else e.road.segs.get j := by
    by_cases hw : st = .warning
    · subst hw
      refine ⟨_, ?_, fun j => enterSeg_warning_get ctx j hi⟩
      split
      · exact Or.inr ⟨rfl, rfl⟩
      · exact Or.inl rfl
    · exact ⟨_, Or.inl rfl, fun j => enterSeg_get_of ctx j hi hw⟩
  obtain ⟨b, hb, hg⟩ := hget
  refine ⟨?_, fun j hj => ?_⟩
  · obtain ⟨a, ha, hc⟩ := hch.some ((hg i).trans (if_pos rfl))
    exact ⟨b, a, hb, hc, ha⟩
  · have hj' := hch j
    rw [hg j, if_neg hj] at hj'
    exact hj'

/-- An arrival: the record of its segment, and what the chain makes of the others. -/
theorem createEntry_seg (ctx : RoadCtx) {i : SegId} (k : HoldKind) (reason : Option Byte) (sources : List Nat)
    {e : RoadEv} {sg : Segment} (hi : e.road.segs.get i = some sg) :
    (∃ b a, Arrives k (withEntry k { since := ctx.since, reason := reason, sources := sources } sg) b ∧ ChainSeg b a ∧
      (createEntry ctx i k reason sources e).road.segs.get i = some a) ∧
      ∀ j, i ≠ j → Option.Rel ChainSeg (e.road.segs.get j)
        ((createEntry ctx i k reason sources e).road.segs.get j) := by
  have hw := fun j => writeEntry_get k { since := ctx.since, reason := reason, sources := sources } j hi
  have hsame : arrivalState (withEntry k { since := ctx.since, reason := reason, sources := sources } sg) k =
      arrivalState sg k := rfl
  unfold createEntry
  rw [hi]
  dsimp only
  unfold Arrives
  rw [hsame]
  cases arrivalState sg k with
  | some st =>
    obtain ⟨⟨b, a, hb, hc, ha⟩, hother⟩ := chain_enterSeg_seg ctx st ((hw i).trans (if_pos rfl))
    refine ⟨⟨b, a, hb, hc, ha⟩, fun j hj => ?_⟩
    have h := hother j hj
    rw [hw j, if_neg hj] at h
    exact h
  | none =>
    refine ⟨⟨_, _, rfl, .rfl' _, (hw i).trans (if_pos rfl)⟩, fun j hj => ?_⟩
    rw [hw j, if_neg hj]
    exact rel_refl _

theorem place_self (ctx : RoadCtx) (k : HoldKind) (reason : Option Byte) (i : SegId) (e : RoadEv) (sg : Segment)
    (hi : e.road.segs.get i = some sg) :
    ∃ a, (place ctx k reason i e).road.segs.get i = some a ∧ Places ctx.since k reason sg a := by
  unfold place Places
  rw [hi]
  dsimp only
  cases ho : sg.holds.entry k with
  | none =>
    obtain ⟨⟨b, a, hb, hc, ha⟩, _⟩ := createEntry_seg ctx k reason [] hi
    exact ⟨a, ha, b, hb, hc⟩
  | some old =>
    dsimp only
    split
    · next hr =>
      refine ⟨sg, hi, ?_⟩
      subst hr
      exact (withEntry_self ho).symm
    · exact ⟨_, (writeEntry_get k _ i hi).trans (if_pos rfl), rfl⟩

theorem place_other (ctx : RoadCtx) (k : HoldKind) (reason : Option Byte) (i j : SegId) (e : RoadEv) (h : i ≠ j) :
    Option.Rel ChainSeg (e.road.segs.get j) ((place ctx k reason i e).road.segs.get j) := by
  unfold place
  split
  · exact rel_refl _
  · next sg hi =>
    split
    · exact (createEntry_seg ctx k reason [] hi).2 j h
    · split
      · exact rel_refl _
      · rw [writeEntry_get k _ j hi, if_neg h]
        exact rel_refl _

/-- A placing that creates an entry sets SEGMENT attention (R8). -/
theorem each_place_includes (ctx : RoadCtx) {k : HoldKind} {reason : Option Byte} {i : SegId} :
    ∀ (l : List SegId) (e : RoadEv), i ∈ l → e.road.configured i = true → heldEntry e.road i k = none →
      Includes Attn.segment (each (place ctx k reason) l e).flags
  | [], _, h, _, _ => absurd h (by simp)
  | j :: l, e, hm, hc, hn => by
    show Includes Attn.segment (each (place ctx k reason) l (place ctx k reason j e)).flags
    by_cases hij : j = i
    · subst hij
      refine (each_grow (fun i => place_grow ctx k reason i) l _).includes ?_
      obtain ⟨sg, hj⟩ := Option.isSome_iff_exists.1 hc
      have hnone : sg.holds.entry k = none := by simpa [heldEntry, hj] using hn
      unfold place
      rw [hj]
      dsimp only
      rw [hnone]
      exact createEntry_includes ctx k reason [] hj
    · have hs := place_spec ctx k reason j e
      refine each_place_includes ctx l _ ((List.mem_cons.1 hm).resolve_left (Ne.symm hij)) ((hs.1 i).trans hc) ?_
      rw [hs.2, if_neg fun h => hij h.1]
      exact hn

end RoadEv

-- ---------------------------------------------------------------- what an arrival leads to

/-- The kinds that links place are not urgent (R4). -/
theorem ownKind_not_urgent (l : Link) : (ownKind l).urgent = false := by cases l <;> rfl

/-- An arrival of a kind that is not urgent, behind the chain and warning confirmation (R9, R14, R20). -/
theorem arrivesAt_of_chain {k : HoldKind} {x : HoldEntry} {sg mid b a sg' : Segment} (hk : k.urgent = false)
    (h1 : ChainSeg sg mid) (h2 : Arrives k (withEntry k x mid) b) (h3 : ChainSeg b a) (h4 : Confirms a sg') :
    ArrivesAt sg sg' := by
  have shut_of : b.state.shut = true → sg'.state.shut = true := fun h => by rw [h4.state]; exact h3.shut h
  have none_of : ∀ st, mid.state = st → st = .closing ∨ st = .closed → b = withEntry k x mid := by
    intro st hst hs
    have : RoadEv.arrivalState (withEntry k x mid) k = none := by
      unfold RoadEv.arrivalState
      rw [show (withEntry k x mid).state = st from hst]
      rcases hs with rfl | rfl <;> rfl
    unfold Arrives at h2
    rw [this] at h2
    exact h2
  have opened_of : mid.state = .opened → if mid.warningInterval = 0 then b = entered .closing (withEntry k x mid)
      else b = entered .warning (withEntry k x mid) ∨ b = startWarning (entered .warning (withEntry k x mid)) := by
    intro hst
    have : RoadEv.arrivalState (withEntry k x mid) k = if mid.warningInterval = 0 then some .closing else some .warning := by
      unfold RoadEv.arrivalState
      rw [show (withEntry k x mid).state = .opened from hst]
      simp [hk, withEntry]
    unfold Arrives at h2
    rw [this] at h2
    split
    · next hz => rw [if_pos hz] at h2; simpa using h2
    · next hz => rw [if_neg hz] at h2; simpa using h2
  have from_opened : mid.state = .opened → if mid.warningInterval = 0 then sg'.state.shut = true
      else sg'.state = .warning ∧ ((sg'.confirmWait = some 30000 ∧ sg'.warningTimer = none) ∨
        (sg'.confirmWait = none ∧ sg'.warningTimer = some (mid.warningInterval * 1000))) := by
    intro hst
    have hb := opened_of hst
    split
    · next hz =>
      rw [if_pos hz] at hb
      exact shut_of (by rw [hb]; rfl)
    · next hz =>
      rw [if_neg hz] at hb
      rcases hb with rfl | rfl
      · rw [h3.of_warning rfl] at h4
        rcases h4 with rfl | ⟨_, _, rfl⟩
        · exact ⟨rfl, Or.inl ⟨rfl, rfl⟩⟩
        · exact ⟨rfl, Or.inr ⟨rfl, rfl⟩⟩
      · rw [h3.of_warning rfl] at h4
        rcases h4 with rfl | ⟨_, h, _⟩
        · exact ⟨rfl, Or.inr ⟨rfl, rfl⟩⟩
        · cases h
  unfold ArrivesAt
  split
  · next hs =>
    obtain rfl := h1.of_opened hs
    exact from_opened hs
  · next hs =>
    obtain rfl := h1.of_warning hs
    have : RoadEv.arrivalState (withEntry k x mid) k = none := by
      unfold RoadEv.arrivalState
      rw [show (withEntry k x mid).state = .warning from hs]
      simp [hk]
    unfold Arrives at h2
    rw [this] at h2
    rw [h4.state, h3.of_warning (by rw [h2]; exact hs), h2]
    exact hs
  · next hs =>
    have hm : mid.state = .closing ∨ mid.state = .closed := by
      rcases h1 with rfl | ⟨h, _⟩ | ⟨h, _⟩ | ⟨_, _, rfl⟩
      · exact Or.inl hs
      · rw [hs] at h; cases h
      · rw [hs] at h; cases h
      · exact Or.inr rfl
    refine shut_of ?_
    rw [none_of _ rfl hm]
    rcases hm with h | h <;> rw [show (withEntry k x mid).state = _ from h] <;> rfl
  · next hs =>
    obtain rfl := h1.of_closed hs
    have hb := none_of _ hs (Or.inr rfl)
    rw [h4.state, h3.of_closed (by rw [hb]; exact hs), hb]
    exact hs
  · next hs =>
    have shut_ne : sg'.state.shut = true → sg'.state ≠ .opened ∧ sg'.state ≠ .opening := by
      intro h
      constructor <;> intro e <;> rw [e] at h <;> cases h
    rcases h1 with rfl | ⟨_, rfl⟩ | ⟨_, rfl⟩ | ⟨_, _, rfl⟩
    · refine shut_ne (shut_of ?_)
      have : RoadEv.arrivalState (withEntry k x mid) k = some .closing := by
        unfold RoadEv.arrivalState
        rw [show (withEntry k x mid).state = .opening from hs]
      unfold Arrives at h2
      rw [this] at h2
      rcases h2 with rfl | ⟨h, _⟩
      · rfl
      · cases h
    · have h := from_opened rfl
      split at h
      · exact shut_ne h
      · rw [h.1]
        decide
    · exact shut_ne (shut_of (by rw [none_of _ rfl (Or.inl rfl)]; rfl))
    · exact shut_ne (shut_of (by rw [none_of _ rfl (Or.inr rfl)]; rfl))

/-- What placing a kind that a link places leaves of one listed segment. -/
theorem placed_listed {since : Option Nat} {k : HoldKind} {reason : Option Byte} {sg mid a b sg' : Segment}
    (hk : k.urgent = false) (h1 : ChainSeg sg mid) (h2 : Places since k reason mid a) (h3 : ChainSeg a b)
    (h4 : Confirms b sg') :
    (sg'.holds.entry k = match sg.holds.entry k with
      | some old => some { old with reason := reason }
      | none => some { since := since, reason := reason, sources := [] }) ∧
      (∀ k', k' ≠ k → sg'.holds.entry k' = sg.holds.entry k') ∧
      (sg.holds.has k = false → ArrivesAt sg sg') ∧ (sg.holds.has k = true → Moves sg.state sg'.state) := by
  have hh : sg'.holds = a.holds := h4.holds.trans h3.holds
  unfold Places at h2
  rw [h1.holds] at h2
  split at h2
  · next old ho =>
    subst h2
    refine ⟨?_, fun k' hne => ?_, fun hn => ?_, fun _ => ?_⟩
    · rw [hh, withEntry_entry, if_pos rfl]
    · rw [hh, withEntry_entry, if_neg (Ne.symm hne), h1.holds]
    · simp [HoldSet.has, ho] at hn
    · have := h3.moves
      rw [h4.state]
      exact h1.moves.trans' this
  · next ho =>
    obtain ⟨c, hc, hca⟩ := h2
    have ha : a.holds = (withEntry k { since := since, reason := reason, sources := [] } mid).holds :=
      hca.holds.trans hc.holds
    refine ⟨?_, fun k' hne => ?_, fun _ => ?_, fun hn => ?_⟩
    · rw [hh, ha, withEntry_entry, if_pos rfl]
    · rw [hh, ha, withEntry_entry, if_neg (Ne.symm hne), h1.holds]
    · exact arrivesAt_of_chain hk h1 hc (hca.trans' h3) h4
    · simp [HoldSet.has, ho] at hn

/-- An accepted placing of a kind on a list of segments (R5, R6, R22). -/
theorem accepted_place {l : Link} {s : State} {kind : Byte} {judge : Ev → Verdict} {k : HoldKind} {reason : Option Byte}
    {ids : List SegId} (h : Ready l s) (hj : judge (hearing l s) = Verdict.done ((hearing l s).place k reason ids))
    (hn : ids.Nodup) (hk : k.urgent = false) :
    let t := takeRequest l kind judge s
    let h := heardState l s
    KeepsBut [.links, .road, .board] h t ∧
      (∃ f, Answered l kind [0x00] f h t ∧ Within (Attn.segment ||| Attn.gate) f ∧
        ((∃ i sg, i ∈ ids ∧ h.road.segs.get i = some sg ∧ sg.holds.has k = false) → Includes Attn.segment f)) ∧
      SegmentBecomes h t fun i sg sg' =>
        (i ∈ ids → sg'.holds.entry k = match sg.holds.entry k with
          | some old => some { old with reason := reason }
          | none => some { since := h.since, reason := reason, sources := [] }) ∧
        (∀ k', k' ≠ k ∨ i ∉ ids → sg'.holds.entry k' = sg.holds.entry k') ∧
        (i ∈ ids ∧ sg.holds.has k = false → ArrivesAt sg sg') ∧
        (i ∉ ids ∨ sg.holds.has k = true → Moves sg.state sg'.state) := by
  obtain ⟨hkeep, hans, hw, _, hsegs⟩ := accepted_onRoad (kind := kind) h hj fun ctx =>
    RoadEv.each_grow (fun i => RoadEv.place_grow ctx k reason i) ids
  refine ⟨hkeep, ⟨_, hans, hw, ?_⟩, fun i sg hi => ?_⟩
  · rintro ⟨i, sg, hm, hi, hnone⟩
    refine RoadEv.each_place_includes _ ids _ hm (by simp [Road.configured, hi]) ?_
    simpa [heldEntry, hi, HoldSet.has] using hnone
  · obtain ⟨b, hb, hr⟩ := RoadEv.each_seg (RoadEv.place_self (heardState l s).roadCtx k reason)
      (RoadEv.place_other (heardState l s).roadCtx k reason) i ids
      { road := (heardState l s).road, flags := 0, touched := Vector.replicate 8 false } sg hn hi
    obtain ⟨sg', hg, hc⟩ := hsegs i b hb
    refine ⟨sg', hg, ?_⟩
    by_cases hm : i ∈ ids
    · rw [if_pos hm] at hr
      obtain ⟨mid, a, h1, h2, h3⟩ := hr
      obtain ⟨p1, p2, p3, p4⟩ := placed_listed hk h1 h2 h3 hc
      exact ⟨fun _ => p1, fun k' hk' => p2 k' (hk'.resolve_right fun h => h hm), fun hh => p3 hh.2,
        fun hh => p4 (hh.resolve_left fun h => h hm)⟩
    · rw [if_neg hm] at hr
      refine ⟨fun hh => absurd hh hm, fun k' _ => by rw [hc.holds, hr.holds], fun hh => absurd hh.1 hm, fun _ => ?_⟩
      rw [hc.state]
      exact hr.moves

theorem judgeHoldPlace_eq {l : Link} {reason : Option Byte} {segs : List Byte} (s : State)
    (hf : segListFits segs = true) :
    judgeHoldPlace l reason segs (hearing l s) =
      Verdict.check [need (l != .panel || !decide (s.key = .locked)) .key, (heardState l s).needCommissioned] fun _ =>
        match segSet (heardState l s).road segs with
        | none => Verdict.deny .range
        | some ids => Verdict.done ((hearing l s).place (ownKind l) reason ids) := by
  unfold judgeHoldPlace
  rw [fitting_of_fits hf, hearing_st, keyOperate_eq, heardState_key] <;> rfl

end Sys2Proof.Machine

open Sys2Proof Sys2Proof.Machine

/-- Settles O11: the checks of R22 in their order, then the placing on each listed segment. -/
theorem holdPlaceCreatesOrUpdates : Obligations.HoldPlaceCreatesOrUpdates := by
  intro l reason segs s hr hf
  have hj := judgeHoldPlace_eq (l := l) (reason := reason) s hf
  have hcom := needCommissioned_heard l s
  have hnames := namesConfigured_congr (segs := segs) (heardState_configured l s)
  have hkey : (l ≠ .panel ∨ s.key ≠ .locked) → (l != .panel || !decide (s.key = .locked)) = true := by
    rintro (h | h) <;> simp [h]
  refine ⟨_, rfl, fun h => ?_, fun h1 h2 => ?_, fun h1 h2 h3 => ?_, fun h1 h2 h3 => ?_⟩
  · exact refused_of_deny hr (hj.trans (check_of_failure (by simp [h])))
  · exact refused_of_deny hr (hj.trans (check_of_failure (by simp [hkey h1, hcom, h2])))
  · refine refused_of_deny hr (hj.trans ((check_of_pass (by simp [hkey h1, hcom, h2])).trans ?_))
    rw [segSet_of_not_names fun h => h3 (hnames.1 h)]
  · have hacc : judgeHoldPlace l reason segs (hearing l s) =
        Verdict.done ((hearing l s).place (ownKind l) reason (idsWhere (lists segs))) := by
      rw [hj, check_of_pass (by simp [hkey h1, hcom, h2]), segSet_of_names (hnames.2 h3)]
    obtain ⟨hkeep, ⟨f, hans, hw, hinc⟩, hseg⟩ :=
      accepted_place (kind := 0x03) hr hacc (nodup_idsWhere _) (ownKind_not_urgent l)
    have hsince : (heardState l s).since = if s.notices.clock.valid then some s.notices.clock.value else none := by
      unfold State.since
      rw [heardState_notices]
    rw [hsince] at hseg
    simp only [mem_idsWhere, Bool.not_eq_true] at hinc hseg
    exact ⟨hkeep, ⟨f, hans, hw, hinc⟩, hseg⟩

end

section
/-! The gates under the chain of R42: what one task makes of a gate record (R31 to R41), running the chain step by step, and
a chain that moves no gate. -/

namespace Sys2Proof.Machine

open RoadEv (entered)

-- ---------------------------------------------------------------- one gate record

/-- What one task of the chain can make of a gate record: it stays, its demand is recomputed, the demand is applied, a travel
is judged against the switches, or UNKNOWN is resolved (R32, R33, R37, R45). -/
inductive GateStep (x : Gate) : Gate → Prop where
  | stay : GateStep x x
  | demand (d : Demand) : GateStep x { x with demand := d }
  | lower (hd : x.demand = .lower) (hs : x.state = .raised) : GateStep x (x.travel .lower .checked)
  | reverse (hd : x.demand = .lower) (hs : x.state = .raising) : GateStep x (x.travel .lower .unchecked)
  | raise (hd : x.demand = .raise) (hs : x.state = .lowered) : GateStep x (x.travel .raise .checked)
  | conflict (ht : x.state.target.isSome = true ∨ x.state = .unknown) (hr : x.reading = .both) :
      GateStep x (x.fail .conflict)
  | arriveRaised (hs : x.state = .raising) (hr : x.reading = .up) : GateStep x x.arrive
  | arriveLowered (hs : x.state = .lowering) (hr : x.reading = .down) : GateStep x x.arrive
  | resolve (hs : x.state = .unknown) (x' : Gate)
      (hx : x' = x.rest .lowered ∨ x' = x.rest .raised ∨ x' = x.travel x.demand .unchecked) : GateStep x x'

theorem target_raised {st : GateState} (h : st.target = some .raised) : st = .raising := by
  cases st <;> first | rfl | cases h
theorem target_lowered {st : GateState} (h : st.target = some .lowered) : st = .lowering := by
  cases st <;> first | rfl | cases h

namespace RoadEv

theorem setGate_get (e : RoadEv) (i j : GateId) (f : Gate → Gate) :
    (e.setGate i f).road.gates.get j = if i = j then f (e.road.gates.get i) else e.road.gates.get j := get_alter ..

@[simp] theorem setGate_segs (e : RoadEv) (i : GateId) (f : Gate → Gate) : (e.setGate i f).road.segs = e.road.segs := rfl
@[simp] theorem setSeg_gates (e : RoadEv) (i : SegId) (f : Segment → Segment) :
    (e.setSeg i f).road.gates = e.road.gates := rfl

theorem enterSeg_gates (ctx : RoadCtx) (e : RoadEv) (i : SegId) (st : SegState) :
    (enterSeg ctx e i st).1.road.gates = e.road.gates := by
  unfold enterSeg
  split
  · rfl
  · dsimp only
    split <;> rfl

theorem handSeg_gates (ctx : RoadCtx) (fault : Bool) (i : SegId) (e : RoadEv) :
    (handSeg ctx fault i e).1.road.gates = e.road.gates := by
  unfold handSeg
  split
  · rfl
  · split
    · exact enterSeg_gates ..
    · rfl
  · rfl

theorem handAll_gates (ctx : RoadCtx) (fault : Bool) :
    ∀ (l : List SegId) (e : RoadEv), (handAll ctx fault l e).1.road.gates = e.road.gates
  | [], _ => rfl
  | i :: l, e => (handAll_gates ctx fault l _).trans (handSeg_gates ctx fault i e)

/-- The tasks on segments write no gate record. -/
theorem doTask_gates_complete (ctx : RoadCtx) (i : SegId) (e : RoadEv) :
    (doTask ctx (.complete i) e).1.road.gates = e.road.gates := by
  simp only [doTask]
  split
  · split
    · exact enterSeg_gates ..
    · rfl
  · rfl

theorem doTask_gates_done (ctx : RoadCtx) (i : SegId) (e : RoadEv) :
    (doTask ctx (.done i) e).1.road.gates = e.road.gates := by
  simp only [doTask]
  split
  · split
    · exact enterSeg_gates ..
    · rfl
  · rfl

theorem gateTo_step {e : RoadEv} {i : GateId} {x : Gate} (rest : List Task) (h : GateStep (e.road.gates.get i) x)
    (j : GateId) : GateStep (e.road.gates.get j) ((e.gateTo i x rest).1.road.gates.get j) := by
  have hg : (e.gateTo i x rest).1.road.gates.get j = if i = j then x else e.road.gates.get j := setGate_get e i j _
  rw [hg]
  split
  · next hij => exact hij ▸ h
  · exact .stay

/-- One task makes of each gate record what `GateStep` says. -/
theorem doTask_gate (ctx : RoadCtx) (t : Task) (e : RoadEv) (j : GateId) :
    GateStep (e.road.gates.get j) ((doTask ctx t e).1.road.gates.get j) := by
  cases t with
  | demand i =>
    simp only [doTask]
    split
    · exact .stay
    · dsimp only
      rw [setGate_get]
      split
      · next hij => exact hij ▸ .demand _
      · exact .stay
  | apply i =>
    simp only [doTask]
    split
    · next hd hs => exact gateTo_step _ (.lower hd hs) j
    · next hd hs => exact gateTo_step _ (.reverse hd hs) j
    · next hd hs => exact gateTo_step _ (.raise hd hs) j
    · exact .stay
  | settle i =>
    simp only [doTask]
    split
    · next ht hr => exact gateTo_step _ (.conflict (Or.inl (by rw [ht]; rfl)) hr) j
    · next ht hr => exact gateTo_step _ (.arriveRaised (target_raised ht) hr) j
    · next ht hr => exact gateTo_step _ (.arriveLowered (target_lowered ht) hr) j
    · exact .stay
  | resolve i =>
    simp only [doTask]
    split
    · next hs =>
      split
      · exact gateTo_step _ (.resolve hs _ (Or.inl rfl)) j
      · exact gateTo_step _ (.resolve hs _ (Or.inr (Or.inl rfl))) j
      · next hr => exact gateTo_step _ (.conflict (Or.inr hs) hr) j
      · exact gateTo_step _ (.resolve hs _ (Or.inr (Or.inr rfl))) j
    · exact .stay
  | handed i fault => rw [show (doTask ctx (.handed i fault) e).1.road.gates = e.road.gates from handAll_gates ..]; exact .stay
  | complete i => rw [doTask_gates_complete]; exact .stay
  | done i => rw [doTask_gates_done]; exact .stay

/-- A property of a gate record that every step keeps, the chain keeps. -/
theorem run_gate (ctx : RoadCtx) {P : Gate → Prop} (hP : ∀ x x', P x → GateStep x x' → P x') (g : GateId) (n : Nat)
    (tasks : List Task) {e : RoadEv} (h : P (e.road.gates.get g)) : P ((run ctx n tasks e).road.gates.get g) :=
  run_induction ctx (fun x => P (x.road.gates.get g)) (fun t x hx => hP _ _ hx (doTask_gate ctx t x g)) n tasks e h

end RoadEv

/-- A gate in FAULT stays in it under the chain, whatever is demanded (R33, R41, R44). -/
theorem faultWith_step {c : GateFault} (x x' : Gate) (h : FaultWith c x) (k : GateStep x x') : FaultWith c x' := by
  have hs := h.1
  cases k with
  | stay => exact h
  | demand d => exact h
  | lower _ hx => rw [hs] at hx; cases hx
  | reverse _ hx => rw [hs] at hx; cases hx
  | raise _ hx => rw [hs] at hx; cases hx
  | conflict hx _ => rw [hs] at hx; rcases hx with hx | hx <;> cases hx
  | arriveRaised hx _ => rw [hs] at hx; cases hx
  | arriveLowered hx _ => rw [hs] at hx; cases hx
  | resolve hx _ _ => rw [hs] at hx; cases hx

theorem fail_faultWith (g : Gate) (c : GateFault) : FaultWith c (g.fail c) := ⟨rfl, rfl, rfl, rfl, rfl, rfl⟩

/-- A gate that has arrived at RAISED, its switches as they are, can only stay there or leave on a lowering (R33, R37). -/
def AtRaised (x : Gate) : Prop := x.reading = .up ∧ (x.state = .raised ∨ x.state = .lowering)

theorem atRaised_step (x x' : Gate) (h : AtRaised x) (k : GateStep x x') : AtRaised x' := by
  obtain ⟨hr, hs⟩ := h
  cases k with
  | stay => exact ⟨hr, hs⟩
  | demand d => exact ⟨hr, hs⟩
  | lower _ _ => exact ⟨hr, Or.inr rfl⟩
  | reverse _ hx => rw [hx] at hs; rcases hs with h | h <;> cases h
  | raise _ hx => rw [hx] at hs; rcases hs with h | h <;> cases h
  | conflict _ hx => rw [hr] at hx; cases hx
  | arriveRaised hx _ => rw [hx] at hs; rcases hs with h | h <;> cases h
  | arriveLowered _ hx => rw [hr] at hx; cases hx
  | resolve hx _ _ => rw [hx] at hs; rcases hs with h | h <;> cases h

-- ---------------------------------------------------------------- the tasks that a task brings about

namespace RoadEv

theorem mem_enterSeg_tasks {ctx : RoadCtx} {e : RoadEv} {i : SegId} {st : SegState} {t : Task}
    (h : t ∈ (enterSeg ctx e i st).2) :
    (∃ sg g, e.road.segs.get i = some sg ∧ g ∈ sg.gates ∧ t = .demand g) ∨ (∃ j, t = .done j) ∨
      (st = .closing ∧ t = .complete i) := by
  unfold enterSeg at h
  split at h
  · simp at h
  · next sg hi =>
    simp only [List.mem_append, List.mem_map, or_assoc] at h
    rcases h with ⟨g, hg, rfl⟩ | h | ⟨j, _, rfl⟩
    · exact Or.inl ⟨sg, g, hi, hg, rfl⟩
    · split at h
      · simp only [List.mem_singleton] at h
        exact Or.inr (Or.inr ⟨rfl, h⟩)
      · simp only [List.mem_singleton] at h
        exact Or.inr (Or.inl ⟨i, h⟩)
      · simp at h
    · exact Or.inr (Or.inl ⟨j, rfl⟩)

/-- A gate change that is no FAULT changes nothing where it is handed on: CLOSING is judged complete, OPENING judged done. -/
theorem handAll_false (ctx : RoadCtx) (e : RoadEv) : ∀ l : List SegId, (handAll ctx false l e).1 = e ∧
    ∀ t ∈ (handAll ctx false l e).2, ∃ j ∈ l, (t = .complete j ∧ e.road.segState j = some .closing) ∨
      (t = .done j ∧ e.road.segState j = some .opening)
  | [] => ⟨rfl, fun _ h => by simp [handAll] at h⟩
  | i :: l => by
    have hs : (handSeg ctx false i e).1 = e ∧ ∀ t ∈ (handSeg ctx false i e).2,
        (t = .complete i ∧ e.road.segState i = some .closing) ∨ (t = .done i ∧ e.road.segState i = some .opening) := by
      unfold handSeg
      split
      · next h => exact ⟨rfl, fun t ht => Or.inl ⟨by simpa using ht, h⟩⟩
      · next h => exact ⟨rfl, fun t ht => Or.inr ⟨by simpa using ht, h⟩⟩
      · exact ⟨rfl, fun t ht => by simp at ht⟩
    have ih := handAll_false ctx e l
    have hrun : handAll ctx false (i :: l) e =
        ((handAll ctx false l (handSeg ctx false i e).1).1,
          (handSeg ctx false i e).2 ++ (handAll ctx false l (handSeg ctx false i e).1).2) := rfl
    rw [hrun, hs.1]
    refine ⟨ih.1, fun t ht => ?_⟩
    rcases List.mem_append.1 ht with ht | ht
    · exact ⟨i, by simp, hs.2 t ht⟩
    · obtain ⟨j, hj, h⟩ := ih.2 t ht
      exact ⟨j, List.mem_cons_of_mem _ hj, h⟩

/-- Where no listing segment is in CLOSING or OPENING, a gate change is handed on to no effect. -/
theorem handAll_quiet (ctx : RoadCtx) (fault : Bool) (e : RoadEv) : ∀ l : List SegId,
    (∀ i ∈ l, e.road.segState i ≠ some .closing ∧ e.road.segState i ≠ some .opening) → handAll ctx fault l e = (e, [])
  | [], _ => rfl
  | i :: l, h => by
    have hi := h i (by simp)
    have hs : handSeg ctx fault i e = (e, []) := by
      unfold handSeg
      split
      · next hh => exact absurd hh hi.1
      · next hh => exact absurd hh hi.2
      · rfl
    show ((handAll ctx fault l (handSeg ctx fault i e).1).1, _) = _
    rw [hs]
    dsimp only
    rw [handAll_quiet ctx fault e l fun j hj => h j (List.mem_cons_of_mem _ hj)]
    rfl

-- ---------------------------------------------------------------- which segments hold their gates down

theorem holdsDown_eq (r : Road) (i : SegId) : r.holdsDown i = ((r.segState i).map SegState.shut).getD false := by
  unfold Road.holdsDown
  cases r.segState i <;> rfl

theorem enterSeg_holdsDown (ctx : RoadCtx) {e : RoadEv} {i : SegId} {st : SegState} {sg : Segment} (j : SegId)
    (hi : e.road.segs.get i = some sg) : (enterSeg ctx e i st).1.road.holdsDown j =
      if i = j then st.shut else e.road.holdsDown j := by
  rw [holdsDown_eq, enterSeg_segState, holdsDown_eq]
  split
  · rw [hi]; rfl
  · rfl

/-- The end of a closing and the end of an opening leave which segments hold their gates down; only an entry of a gate to FAULT
can have an opening aborted, which holds them down anew (R32, R42). -/
theorem doTask_holdsDown (ctx : RoadCtx) (t : Task) (e : RoadEv) (ht : ∀ g, t ≠ .handed g true) (j : SegId) :
    (doTask ctx t e).1.road.holdsDown j = e.road.holdsDown j := by
  have of_segs : ∀ e' : RoadEv, e'.road.segs = e.road.segs → e'.road.holdsDown j = e.road.holdsDown j := by
    intro e' h
    unfold Road.holdsDown Road.segState
    rw [h]
  cases t with
  | demand g => exact of_segs _ (doTask_segs ctx e g).1
  | apply g => exact of_segs _ (doTask_segs ctx e g).2.1
  | settle g => exact of_segs _ (doTask_segs ctx e g).2.2.1
  | resolve g => exact of_segs _ (doTask_segs ctx e g).2.2.2
  | handed g fault =>
    cases fault with
    | true => exact absurd rfl (ht g)
    | false => exact congrArg (fun x => x.road.holdsDown j) (handAll_false ctx e _).1
  | complete i =>
    simp only [doTask]
    split
    · next sg hi =>
      split
      · next hc =>
        simp only [Bool.and_eq_true, beq_iff_eq] at hc
        rw [enterSeg_holdsDown ctx j (sg := { sg with
          incomplete := sg.gates.any fun g => (e.road.gates.get g).state == .fault })
          (by rw [setSeg_get, if_pos rfl, hi]; rfl)]
        split
        · next hij =>
          subst hij
          simp [holdsDown_eq, Road.segState, hi, hc.1, SegState.shut]
        · next hij =>
          rw [holdsDown_eq, holdsDown_eq, setSeg_segState, if_neg hij]
      · rfl
    · rfl
  | done i =>
    simp only [doTask]
    split
    · next sg hi =>
      split
      · next hc =>
        simp only [Bool.and_eq_true, beq_iff_eq] at hc
        rw [enterSeg_holdsDown ctx j hi]
        split
        · next hij =>
          subst hij
          simp [holdsDown_eq, Road.segState, hi, hc.1, SegState.shut]
        · rfl
      · rfl
    · rfl

/-- A gate's demand reads its listing and which segments hold their gates down (R32). -/
theorem demandOf_congr {r r' : Road} {g g' : Gate} (hl : g'.listing = g.listing)
    (hh : ∀ j, r'.holdsDown j = r.holdsDown j) : r'.demandOf g' = r.demandOf g := by
  unfold Road.demandOf
  rw [hl, show r'.holdsDown = r.holdsDown from funext hh]

theorem demandOf_eq_raise {r : Road} {g : Gate} (h : r.demandOf g = .raise) : ∀ j ∈ g.listing, r.holdsDown j = false := by
  intro j hj
  unfold Road.demandOf at h
  split at h
  · cases h
  · split at h
    · cases h
    · next hn => simpa using fun hh => hn (List.any_eq_true.2 ⟨j, hj, hh⟩)

theorem not_shut_of_holdsDown {r : Road} {j : SegId} (h : r.holdsDown j = false) :
    r.segState j ≠ some .closing ∧ r.segState j ≠ some .closed := by
  rw [holdsDown_eq] at h
  constructor <;> intro hs <;> rw [hs] at h <;> cases h

-- ---------------------------------------------------------------- the chain, step by step

/-- The chain takes its first task. -/
theorem run_step {ctx : RoadCtx} {n : Nat} {t : Task} {e e' : RoadEv} {ts rest : List Task}
    (h : doTask ctx t e = (e', ts)) : run ctx (n + 1) (t :: rest) e = run ctx n (ts ++ rest) e' := by
  show run ctx n ((doTask ctx t e).2 ++ rest) (doTask ctx t e).1 = _
  rw [h]

theorem run_nil (ctx : RoadCtx) (n : Nat) (e : RoadEv) : run ctx n [] e = e := by
  cases n <;> rfl

/-- Tasks that do nothing are passed over. -/
theorem run_skip (ctx : RoadCtx) {e : RoadEv} {rest : List Task} : ∀ (n : Nat) (l : List Task),
    (∀ t ∈ l, doTask ctx t e = (e, [])) → run ctx (n + l.length) (l ++ rest) e = run ctx n rest e
  | _, [], _ => rfl
  | n, t :: l, h => (run_step (n := n + l.length) (h t (by simp))).trans
    (run_skip ctx n l fun t' ht => h t' (List.mem_cons_of_mem _ ht))

theorem chain_eq (ctx : RoadCtx) (e : RoadEv) (tasks : List Task) : chain ctx (e, tasks) = run ctx 1024 tasks e := rfl

/-- A chain that has enough steps left for what its tasks weigh is worked off to its end. -/
theorem run_complete (ctx : RoadCtx) (P : RoadEv → List Task → Prop) (weight : RoadEv → List Task → Nat)
    (step : ∀ t rest e, P e (t :: rest) → P (doTask ctx t e).1 ((doTask ctx t e).2 ++ rest) ∧
      weight (doTask ctx t e).1 ((doTask ctx t e).2 ++ rest) < weight e (t :: rest)) :
    ∀ n tasks e, P e tasks → weight e tasks < n → P (run ctx n tasks e) []
  | 0, _, _, _, h => absurd h (by omega)
  | _ + 1, [], _, hp, _ => hp
  | n + 1, t :: rest, e, hp, hw => by
    obtain ⟨hp', hlt⟩ := step t rest e hp
    exact run_complete ctx P weight step n _ _ hp' (by omega)

-- ---------------------------------------------------------------- a chain that moves no gate

/-- Every demand is the one that the listing segments give (R32). -/
def Consistent (e : RoadEv) : Prop := ∀ g, (e.road.gates.get g).demand = e.road.demandOf (e.road.gates.get g)

/-- A task that moves no gate while the demands are consistent: a judgement of a demand, of a closing or of an opening, a gate
change that is no FAULT, or a demand that its gate already follows. -/
def CalmTask (e : RoadEv) : Task → Prop
  | .demand _ => True
  | .complete _ => True
  | .done _ => True
  | .handed _ fault => fault = false
  | .apply g => ((e.road.gates.get g).demand = .raise ∧ (e.road.gates.get g).state = .raised) ∨
      ((e.road.gates.get g).demand = .lower ∧ (e.road.gates.get g).state = .lowered)
  | .settle _ => False
  | .resolve _ => False

/-- Calm tasks leave the gates, and bring about calm tasks. -/
theorem doTask_calm (ctx : RoadCtx) {t : Task} {e : RoadEv} (hc : Consistent e) (ht : CalmTask e t) :
    (doTask ctx t e).1.road.gates = e.road.gates ∧ ∀ t' ∈ (doTask ctx t e).2, CalmTask e t' := by
  have calm_enter : ∀ (e' : RoadEv) (i : SegId) (st : SegState), ∀ t' ∈ (enterSeg ctx e' i st).2, CalmTask e t' := by
    intro e' i st t' ht'
    rcases mem_enterSeg_tasks ht' with ⟨_, _, _, _, rfl⟩ | ⟨_, rfl⟩ | ⟨_, rfl⟩ <;> trivial
  cases t with
  | demand g =>
    have : doTask ctx (.demand g) e = (e, []) := if_pos (hc g).symm
    rw [this]
    exact ⟨rfl, fun _ h => by simp at h⟩
  | apply g =>
    have : doTask ctx (.apply g) e = (e, []) := by
      simp only [doTask]
      rcases ht with ⟨hd, hs⟩ | ⟨hd, hs⟩ <;> rw [hd, hs]
    rw [this]
    exact ⟨rfl, fun _ h => by simp at h⟩
  | settle g => exact ht.elim
  | resolve g => exact ht.elim
  | handed g fault =>
    obtain rfl : fault = false := ht
    obtain ⟨h1, h2⟩ := handAll_false ctx e (e.road.gates.get g).listing
    refine ⟨congrArg (fun x => x.road.gates) h1, fun t' ht' => ?_⟩
    obtain ⟨j, _, ⟨rfl, _⟩ | ⟨rfl, _⟩⟩ := h2 t' ht' <;> trivial
  | complete i =>
    refine ⟨doTask_gates_complete ctx i e, fun t' ht' => ?_⟩
    simp only [doTask] at ht'
    split at ht'
    · split at ht'
      · exact calm_enter _ _ _ t' ht'
      · simp at ht'
    · simp at ht'
  | done i =>
    refine ⟨doTask_gates_done ctx i e, fun t' ht' => ?_⟩
    simp only [doTask] at ht'
    split at ht'
    · split at ht'
      · exact calm_enter _ _ _ t' ht'
      · simp at ht'
    · simp at ht'

/-- A chain of calm tasks moves no gate. -/
theorem run_calm (ctx : RoadCtx) (n : Nat) {tasks : List Task} {e : RoadEv} (hc : Consistent e)
    (ht : ∀ t ∈ tasks, CalmTask e t) : (run ctx n tasks e).road.gates = e.road.gates := by
  refine run_tasks_induction ctx
    (fun x l => x.road.gates = e.road.gates ∧ (∀ j, x.road.holdsDown j = e.road.holdsDown j) ∧ ∀ t ∈ l, CalmTask e t)
    (fun x => x.road.gates = e.road.gates) (fun _ _ h => h.1) (fun t rest x h => ?_) n tasks e ⟨rfl, fun _ => rfl, ht⟩
  obtain ⟨hg, hh, hl⟩ := h
  have congr_calm : ∀ t, CalmTask x t ↔ CalmTask e t := by
    intro t
    unfold CalmTask
    rw [hg]
  have hcx : Consistent x := by
    intro g
    rw [hg, hc g]
    exact (demandOf_congr rfl hh).symm
  obtain ⟨h1, h2⟩ := doTask_calm ctx hcx ((congr_calm t).2 (hl t (by simp)))
  refine ⟨h1.trans hg, fun j => ?_, fun t' ht' => ?_⟩
  · rw [doTask_holdsDown ctx t x _ j, hh]
    intro g hg'
    have := hl t (by simp)
    rw [hg'] at this
    cases this
  · rcases List.mem_append.1 ht' with h | h
    · exact (congr_calm t').1 (h2 t' h)
    · exact hl t' (by simp [h])

end RoadEv

end Sys2Proof.Machine

end

section
/-! An event that is one step of the road: what it leaves beside the road's own record (R8, R42, R43, R152). The travel timer
(R38) and the timers of a segment (R11, R12). -/

namespace Sys2Proof.Machine

open RoadEv (entered)

-- ---------------------------------------------------------------- an event of the road

/-- The road as an event finds it. -/
def roadStart (s : State) : RoadEv := { road := s.road, flags := 0, touched := Vector.replicate 8 false }

@[simp] theorem roadStart_road (s : State) : (roadStart s).road = s.road := rfl
@[simp] theorem roadStart_flags (s : State) : (roadStart s).flags = 0 := rfl

/-- An event that is one step of the road, given the road `r` that the step leaves. -/
theorem event_onRoad_spec (s : State) (f : RoadCtx → RoadEv → RoadEv) (hf : ∀ ctx x, RoadEv.FlagsGrow x (f ctx x)) :
    let r := f s.roadCtx (roadStart s)
    let t := s.event fun e => e.onRoad f
    KeepsBut [.links, .road, .board] s t ∧ Gains r.flags s t ∧ Within (Attn.segment ||| Attn.gate) r.flags ∧
      t.road.gates = r.road.gates ∧ ∀ i, Option.Rel Confirms (r.road.segs.get i) (t.road.segs.get i) := by
  dsimp only
  obtain ⟨hk, hg, hw, hgates, _⟩ := onRoad_finish_spec f (Ev.start s) hf
  refine ⟨hk, hg, hw, hgates, fun i => ?_⟩
  have h := (finish_confirms ((Ev.start s).onRoad f)).2 i
  rw [(onRoad_spec f (Ev.start s)).1] at h
  exact h

/-- Warning confirmation at the end of an event leaves the hold sets. -/
theorem rel_confirms_holds {a b : Option Segment} (h : Option.Rel Confirms a b) : b.map (·.holds) = a.map (·.holds) := by
  cases h with
  | none => rfl
  | some h => exact congrArg some h.holds

/-- Where the step of the road keeps the hold sets, they stand after the event. -/
theorem holdsStand_of_frame {s t : State} {r : Road} (hr : RoadFrame s.road r)
    (hc : ∀ i, Option.Rel Confirms (r.segs.get i) (t.road.segs.get i)) : HoldsStand s t := fun j =>
  (rel_confirms_holds (hc j)).trans (hr.holds j)

/-- The switches and the segments of every gate stand under a step of the road that keeps the frame. -/
theorem switches_of_frame {s t : State} {r : Road} (hr : RoadFrame s.road r) (hg : t.road.gates = r.gates) (j : GateId) :
    (t.road.gates.get j).raisedSwitch = (s.road.gates.get j).raisedSwitch ∧
      (t.road.gates.get j).loweredSwitch = (s.road.gates.get j).loweredSwitch := by
  rw [hg]
  exact ⟨hr.raisedSwitch j, hr.loweredSwitch j⟩

theorem segState_some {r : Road} {i : SegId} {sg : Segment} (h : r.segs.get i = some sg) :
    r.segState i = some sg.state := by
  simp [Road.segState, h]

theorem get_of_segState {r : Road} {i : SegId} {st : SegState} (h : r.segState i = some st) :
    ∃ sg, r.segs.get i = some sg ∧ sg.state = st := by
  unfold Road.segState at h
  cases hi : r.segs.get i with
  | none => rw [hi] at h; cases h
  | some sg => rw [hi] at h; exact ⟨sg, rfl, Option.some.inj h⟩

-- ---------------------------------------------------------------- a gate enters a state

namespace RoadEv

theorem gateTo_get (e : RoadEv) (i j : GateId) (x : Gate) (rest : List Task) :
    (e.gateTo i x rest).1.road.gates.get j = if i = j then x else e.road.gates.get j := setGate_get ..

@[simp] theorem gateTo_segs (e : RoadEv) (i : GateId) (x : Gate) (rest : List Task) :
    (e.gateTo i x rest).1.road.segs = e.road.segs := rfl

theorem gateTo_includes (e : RoadEv) (i : GateId) (x : Gate) (rest : List Task) :
    Includes Attn.gate (e.gateTo i x rest).1.flags := (includes_self Attn.gate).or_right _

theorem chain_gateTo_grow (ctx : RoadCtx) (e : RoadEv) (i : GateId) (x : Gate) (rest : List Task) :
    FlagsGrow e (chain ctx (e.gateTo i x rest)) := (gateTo_grow ..).trans' (chain_grow ..)

theorem chain_gateTo_frame (ctx : RoadCtx) (e : RoadEv) (i : GateId) {x : Gate} (rest : List Task)
    (h : gateFrame x = gateFrame (e.road.gates.get i)) : RoadFrame e.road (chain ctx (e.gateTo i x rest)).road :=
  (gateTo_frame e i x rest h).trans' (chain_frame ..)

/-- A gate that enters FAULT stays in it to the end of the chain (R33, R41). -/
theorem chain_fail (ctx : RoadCtx) (e : RoadEv) (i : GateId) (x : Gate) (c : GateFault) (rest : List Task) :
    FaultWith c ((chain ctx (e.gateTo i (x.fail c) rest)).road.gates.get i) :=
  run_gate ctx faultWith_step i _ _ (by rw [gateTo_get, if_pos rfl]; exact fail_faultWith x c)

/-- The entry of a gate to FAULT aborts every opening of its listing segments, which stay shut to the end of the chain
(R20, R42). -/
theorem chain_fail_aborts (ctx : RoadCtx) (e : RoadEv) (i : GateId) (x : Gate) (c : GateFault) (rest : List Task)
    {j : SegId} (hj : j ∈ x.listing) (ho : e.road.segState j = some .opening) :
    ∃ sg', (chain ctx (e.gateTo i (x.fail c) rest)).road.segs.get j = some sg' ∧ sg'.state.shut = true := by
  let e1 := (e.gateTo i (x.fail c) rest).1
  have hx : e1.road.gates.get i = x.fail c := (gateTo_get ..).trans (if_pos rfl)
  have hrun : chain ctx (e.gateTo i (x.fail c) rest) =
      run ctx 1023 ((handAll ctx true x.listing e1).2 ++ rest) (handAll ctx true x.listing e1).1 := by
    refine run_step (n := 1023) (t := .handed i true) (e := e1) ?_
    show handAll ctx true (e1.road.gates.get i).listing e1 = _
    rw [hx]
    rfl
  have hs : (handAll ctx true x.listing e1).1.road.segState j = some .closing := by
    rw [handAll_segState, if_pos ⟨hj, rfl, ho⟩]
  obtain ⟨sg, hg, hcl⟩ := get_of_segState hs
  obtain ⟨sg', hg', hc⟩ := (run_chainSegs ctx 1023 ((handAll ctx true x.listing e1).2 ++ rest) _).some hg
  exact ⟨sg', hrun ▸ hg', hc.shut (by rw [hcl]; rfl)⟩

end RoadEv

-- ---------------------------------------------------------------- the travel timer

theorem stall_frame (ctx : RoadCtx) (g : GateId) (e : RoadEv) : RoadFrame e.road (RoadEv.stall ctx g e).road :=
  RoadEv.chain_gateTo_frame ctx e g [] rfl

/-- TRAVEL_TIMEOUT of a gate in a travel whose timer stands at T_max acts (R38). -/
theorem exec_travelTimeout {g : GateId} {s : State}
    (hs : (s.road.gates.get g).state = .raising ∨ (s.road.gates.get g).state = .lowering)
    (ht : (s.road.gates.get g).timer = some ((s.road.gates.get g).tMax * 1000)) :
    exec (.travelTimeout g) s = .next (s.event fun e => e.onRoad fun ctx => RoadEv.stall ctx g) := by
  have hdue : (s.road.gates.get g).timedOut = true := by
    unfold Gate.timedOut
    rw [ht]
    rcases hs with hs | hs <;> rw [hs] <;> simp [GateState.target, Gate.tMaxMs]
  exact congrArg Host.Outcome.next (if_pos hdue)

-- ---------------------------------------------------------------- the timers of a segment

/-- WARNING_TIMER_EXPIRY of a WARNING segment whose timer has run out acts (R12). -/
theorem exec_warningTimerExpiry {i : SegId} {s : State} {sg : Segment} (hi : s.road.segs.get i = some sg)
    (hw : sg.state = .warning) (ht : sg.warningTimer = some 0) :
    exec (.warningTimerExpiry i) s = .next (s.event fun e => e.onRoad fun ctx => RoadEv.warningExpiry ctx i) := by
  have hdue : s.road.warningDue i = true := by
    unfold Road.warningDue
    rw [hi]
    simp [hw, ht, Timer.due]
  exact congrArg Host.Outcome.next (if_pos hdue)

/-- CONFIRMATION_WAIT_EXPIRY of a WARNING segment whose wait has run out acts (R11). -/
theorem exec_confirmationWaitExpiry {i : SegId} {s : State} {sg : Segment} (hi : s.road.segs.get i = some sg)
    (hw : sg.state = .warning) (ht : sg.confirmWait = some 0) :
    exec (.confirmationWaitExpiry i) s =
      .next (s.onRoadOnly fun r => { r with segs := alter r.segs i (Option.map RoadEv.startWarning) }) := by
  have hdue : s.road.waitDue i = true := by
    unfold Road.waitDue
    rw [hi]
    simp [hw, ht, Timer.due]
  exact congrArg Host.Outcome.next (if_pos hdue)

theorem warningExpiry_frame (ctx : RoadCtx) (i : SegId) (e : RoadEv) :
    RoadFrame e.road (RoadEv.warningExpiry ctx i e).road := RoadEv.chain_enterSeg_frame ctx e i .closing

namespace RoadEv

-- ---------------------------------------------------------------- a segment enters a state, with its tasks

/-- The road after the record of a segment that enters a state other than WARNING is written. -/
def enteredEv (e : RoadEv) (i : SegId) (st : SegState) : RoadEv := (e.setSeg i (entered st)).touch i

@[simp] theorem enteredEv_gates (e : RoadEv) (i : SegId) (st : SegState) :
    (enteredEv e i st).road.gates = e.road.gates := rfl

/-- The judgement that the entry to a state calls for (R15, R19). -/
def ownTasks (i : SegId) : SegState → List Task
  | .closing => [.complete i]
  | .opening => [.done i]
  | _ => []

theorem enterSeg_eq (ctx : RoadCtx) {e : RoadEv} {i : SegId} {st : SegState} {sg : Segment}
    (hi : e.road.segs.get i = some sg) (hw : st ≠ .warning) : enterSeg ctx e i st = (enteredEv e i st,
      sg.gates.map .demand ++ ownTasks i st ++ (neighbours e i sg.gates).map .done) := by
  unfold enterSeg
  rw [hi]
  dsimp only
  rw [if_neg (by simpa using hw)]
  cases st <;> rfl

theorem enteredEv_get {e : RoadEv} {i : SegId} {st : SegState} {sg : Segment} (hi : e.road.segs.get i = some sg) :
    (enteredEv e i st).road.segs.get i = some (entered st sg) := by
  have h := setSeg_get e i i (entered st)
  rw [if_pos rfl, hi] at h
  exact h

theorem neighbours_nil (e : RoadEv) (i : SegId) : neighbours e i [] = [] := by
  simp [neighbours, idsWhere]

/-- A gate listed by one segment alone gives that segment no neighbours. -/
theorem neighbours_alone {e : RoadEv} {i : SegId} {g : GateId} (hl : (e.road.gates.get g).listing = [i]) :
    neighbours e i [g] = [] := by
  simp only [neighbours, idsWhere, List.filter_eq_nil_iff]
  intro j _
  simp [hl]

/-- A CLOSING segment whose gates are all down or in FAULT is CLOSED when its completeness is judged, incomplete for a gate in
FAULT, and stays so to the end of the chain (R15). -/
theorem run_complete_closes (ctx : RoadCtx) {e : RoadEv} {i : SegId} {sg : Segment} (n : Nat) (rest : List Task)
    (hi : e.road.segs.get i = some sg) (hs : sg.state = .closing)
    (hd : ∀ g ∈ sg.gates, (e.road.gates.get g).downOrFault = true) :
    (run ctx (n + 1) (.complete i :: rest) e).road.segs.get i = some { entered .closed sg with
      incomplete := sg.gates.any fun g => (e.road.gates.get g).state == .fault } := by
  let bad := sg.gates.any fun g => (e.road.gates.get g).state == .fault
  have hset : (e.setSeg i fun sg => { sg with incomplete := bad }).road.segs.get i =
      some { sg with incomplete := bad } := by rw [setSeg_get, if_pos rfl, hi]; rfl
  have hdo : doTask ctx (.complete i) e = enterSeg ctx (e.setSeg i fun sg => { sg with incomplete := bad }) i .closed := by
    simp only [doTask]
    rw [hi]
    exact if_pos (by simpa [hs] using hd)
  rw [run_step (hdo.trans (enterSeg_eq ctx hset (by decide)))]
  obtain ⟨sg', hg, hc⟩ := (run_chainSegs ctx n _ _).some (enteredEv_get (st := .closed) hset)
  rw [hg, hc.of_closed rfl]
  rfl

/-- An OPENING segment whose gates are all done is OPEN when it is judged, and stays so to the end of the chain (R19). -/
theorem run_done_opens (ctx : RoadCtx) {e : RoadEv} {i : SegId} {sg : Segment} (n : Nat) (rest : List Task)
    (hi : e.road.segs.get i = some sg) (hs : sg.state = .opening) (hd : ∀ g ∈ sg.gates, e.gateDone i g = true) :
    (run ctx (n + 1) (.done i :: rest) e).road.segs.get i = some (entered .opened sg) := by
  have hdo : doTask ctx (.done i) e = enterSeg ctx e i .opened := by
    simp only [doTask]
    rw [hi]
    exact if_pos (by simpa [hs] using hd)
  rw [run_step (hdo.trans (enterSeg_eq ctx hi (by decide)))]
  obtain ⟨sg', hg, hc⟩ := (run_chainSegs ctx n _ _).some (enteredEv_get (st := .opened) hi)
  rw [hg, hc.of_opened rfl]

-- ---------------------------------------------------------------- a single gate leaves its rest

/-- A gate at the rest that the demand `d` has it leave, the switch of the travel's end INACTIVE (R33, R37). -/
def Leaves (d : Demand) (x : Gate) : Prop :=
  match d with
  | .lower => x.state = .raised ∧ x.loweredSwitch.level = false
  | .raise => x.state = .lowered ∧ x.raisedSwitch.level = false

/-- A gate whose demand has flipped to `d`, on a fresh CHECKED travel toward it (R32, R33). -/
def departed (d : Demand) (x : Gate) : Gate := ({ x with demand := d } : Gate).travel d .checked

theorem doTask_demand_flips (ctx : RoadCtx) {e : RoadEv} {g : GateId} {d : Demand}
    (hd : e.road.demandOf (e.road.gates.get g) = d) (hne : (e.road.gates.get g).demand ≠ d) :
    doTask ctx (.demand g) e = (e.setGate g fun x => { x with demand := d }, [.apply g]) := by
  subst hd
  exact if_neg (Ne.symm hne)

theorem doTask_apply_leaves (ctx : RoadCtx) {e : RoadEv} {g : GateId} {d : Demand}
    (hd : (e.road.gates.get g).demand = d) (hl : Leaves d (e.road.gates.get g)) :
    doTask ctx (.apply g) e = e.gateTo g ((e.road.gates.get g).travel d .checked) [.settle g] := by
  simp only [doTask]
  cases d <;> rw [hd, hl.1]

/-- A travel that has left its rest with the far switch INACTIVE goes on (R37). -/
theorem doTask_settle_goes_on (ctx : RoadCtx) {e : RoadEv} {g : GateId} {d : Demand} {x : Gate}
    (hx : e.road.gates.get g = x.travel d .checked) (hl : Leaves d x) : doTask ctx (.settle g) e = (e, []) := by
  simp only [doTask]
  rw [hx]
  cases d with
  | lower => cases hr : x.raisedSwitch.level <;> simp [Gate.travel, Gate.enter, GateState.target, Gate.reading, hl.2, hr]
  | raise => cases hr : x.loweredSwitch.level <;> simp [Gate.travel, Gate.enter, GateState.target, Gate.reading, hl.2, hr]

/-- A flip of the demand takes a gate at rest, listed by one segment alone, into a fresh CHECKED travel, and that segment's
judgement `own`, which finds it not there yet, changes nothing (R32, R33, R42). -/
theorem chain_leaves (ctx : RoadCtx) {e : RoadEv} {g : GateId} {i : SegId} {d : Demand} {own : Task}
    (hlist : (e.road.gates.get g).listing = [i]) (hd : e.road.demandOf (e.road.gates.get g) = d)
    (hne : (e.road.gates.get g).demand ≠ d) (hl : Leaves d (e.road.gates.get g))
    (hown : ∀ e' : RoadEv, e'.road.segs = e.road.segs →
      e'.road.gates.get g = departed d (e.road.gates.get g) →
      handSeg ctx false i e' = (e', [own]) ∧ doTask ctx own e' = (e', [])) :
    (chain ctx (e, [.demand g, own])).road.segs = e.road.segs ∧
      (chain ctx (e, [.demand g, own])).road.gates.get g = departed d (e.road.gates.get g) := by
  generalize hx : e.road.gates.get g = x at *
  let x1 : Gate := { x with demand := d }
  let e1 := e.setGate g fun x => { x with demand := d }
  let e2 := (e1.gateTo g (x1.travel d .checked) [.settle g]).1
  have h1 : e1.road.gates.get g = x1 := by rw [setGate_get, if_pos rfl, hx]
  have hl1 : Leaves d x1 := by cases d <;> exact hl
  have h2 : e2.road.gates.get g = x1.travel d .checked := (gateTo_get ..).trans (if_pos rfl)
  obtain ⟨hhand, hdo⟩ := hown e2 rfl h2
  have hfault : ((x1.travel d .checked).state == .fault) = false := by cases d <;> rfl
  have happly : doTask ctx (.apply g) e1 = (e2, [.handed g false, .settle g]) := by
    rw [doTask_apply_leaves ctx (d := d) (by rw [h1]) (by rw [h1]; exact hl1), h1, ← hfault]
    rfl
  have hflip : doTask ctx (.demand g) e = (e1, [.apply g]) :=
    doTask_demand_flips ctx (by rw [hx, hd]) (by rw [hx]; exact hne)
  have hhanded : doTask ctx (.handed g false) e2 = (e2, [own]) := by
    show handAll ctx false (e2.road.gates.get g).listing e2 = _
    rw [h2, show (x1.travel d .checked).listing = [i] from hlist]
    show ((handSeg ctx false i e2).1, (handSeg ctx false i e2).2 ++ []) = _
    rw [hhand]
    rfl
  have hrun : chain ctx (e, [.demand g, own]) = e2 := by
    rw [chain_eq, run_step hflip, List.singleton_append,
      run_step happly, List.cons_append, run_step hhanded]
    rw [List.singleton_append, run_step hdo, List.nil_append, List.singleton_append, run_step (doTask_settle_goes_on ctx h2 hl1),
      List.nil_append, run_step hdo, List.nil_append, run_nil]
  rw [hrun]
  exact ⟨rfl, h2⟩

/-- A segment without gates closes at once (R21). -/
theorem warningExpiry_gateless (ctx : RoadCtx) {e : RoadEv} {i : SegId} {sg : Segment} (hi : e.road.segs.get i = some sg)
    (hg : sg.gates = []) : (warningExpiry ctx i e).road.segs.get i =
      some { entered .closed (entered .closing sg) with incomplete := false } := by
  unfold warningExpiry
  rw [enterSeg_eq ctx hi (by decide), hg, neighbours_nil, chain_eq]
  show (run ctx 1024 [.complete i] _).road.segs.get i = _
  have h := run_complete_closes ctx 1023 [] (enteredEv_get (st := .closing) hi) rfl (by simp [entered, hg])
  simpa [entered, hg] using h

/-- A segment whose single gate, listed by it alone, is RAISED under a RAISE demand closes by lowering it (R12, R33). -/
theorem warningExpiry_single (ctx : RoadCtx) {e : RoadEv} {i : SegId} {g : GateId} {sg : Segment}
    (hi : e.road.segs.get i = some sg) (hg : sg.gates = [g]) (hlist : (e.road.gates.get g).listing = [i])
    (hs : (e.road.gates.get g).state = .raised) (hd : (e.road.gates.get g).demand = .raise)
    (hsw : (e.road.gates.get g).loweredSwitch.level = false) :
    (warningExpiry ctx i e).road.segs.get i = some (entered .closing sg) ∧
      (warningExpiry ctx i e).road.gates.get g = departed .lower (e.road.gates.get g) := by
  have h1 := enteredEv_get (st := .closing) hi
  have hrun : warningExpiry ctx i e = chain ctx (enteredEv e i .closing, [.demand g, .complete i]) := by
    unfold warningExpiry
    rw [enterSeg_eq ctx hi (by decide), hg, neighbours_alone hlist]
    rfl
  have hdem : (enteredEv e i .closing).road.demandOf ((enteredEv e i .closing).road.gates.get g) = .lower := by
    have : (enteredEv e i .closing).road.holdsDown i = true := by rw [holdsDown_eq, segState_some h1]; rfl
    simp [Road.demandOf, hlist, this]
  have h := chain_leaves ctx (e := enteredEv e i .closing) (g := g) (i := i) (d := .lower) (own := .complete i) hlist hdem
    (by rw [enteredEv_gates, hd]; decide) ⟨hs, hsw⟩
    fun e' hsegs hx => by
      have hi' : e'.road.segs.get i = some (entered .closing sg) := by rw [hsegs]; exact h1
      refine ⟨?_, ?_⟩
      · unfold handSeg
        rw [segState_some hi']
        rfl
      · simp only [doTask]
        rw [hi']
        exact if_neg (by simp [entered, hg, hx, departed, Gate.downOrFault, Gate.travel, Gate.enter])
  rw [hrun, h.1, h.2]
  exact ⟨h1, rfl⟩

end RoadEv

end Sys2Proof.Machine

open Sys2Proof Sys2Proof.Machine

/-- Settles O19: the chain keeps a gate that entered FAULT, and the hand-over of that entry aborts every listed opening. -/
theorem travelTimeoutStalls : Obligations.TravelTimeoutStalls := by
  intro g s hs ht
  obtain ⟨hk, hg, hw, hgates, hc⟩ := event_onRoad_spec s (fun ctx => RoadEv.stall ctx g)
    fun ctx x => RoadEv.chain_gateTo_grow ctx x g _ []
  have hframe := stall_frame s.roadCtx g (roadStart s)
  refine ⟨_, exec_travelTimeout hs ht, ?_, hk, holdsStand_of_frame hframe hc, ⟨_, hg, hw, ?_⟩, ?_,
    fun j => switches_of_frame hframe hgates j⟩
  · rw [hgates]
    exact RoadEv.chain_fail ..
  · exact (RoadEv.chain_grow ..).includes (RoadEv.gateTo_includes ..)
  · intro i hi sg hsg ho
    obtain ⟨a, ha, hshut⟩ := RoadEv.chain_fail_aborts s.roadCtx (roadStart s) g (s.road.gates.get g) .stall [] hi
      ((segState_some hsg).trans (congrArg some ho))
    obtain ⟨sg', hsg', hcf⟩ := rel_some (hc i) ha
    exact ⟨sg', hsg', by rw [hcf.state]; exact hshut⟩

/-- Settles O16: the record with its warning timer started is written directly; the closing is the entry to CLOSING, which the
chain keeps shut, run step by step where there is at most one gate. -/
theorem segmentTimersExpire : Obligations.SegmentTimersExpire := by
  refine ⟨fun i s sg hi hw _ hc => ?_, fun i s sg hi hw ht => ?_⟩
  · dsimp only
    rw [exec_confirmationWaitExpiry hi hw hc]
    have halter : alter s.road.segs i (Option.map RoadEv.startWarning) =
        put s.road.segs i (some (RoadEv.startWarning sg)) := by rw [alter, hi]; rfl
    exact congrArg (fun v => Host.Outcome.next { s with road := { s.road with segs := v } }) halter
  obtain ⟨hk, hg, hwi, hgates, hc⟩ := event_onRoad_spec s (fun ctx => RoadEv.warningExpiry ctx i)
    fun ctx x => RoadEv.chain_enterSeg_grow ctx x i .closing
  have hframe := warningExpiry_frame s.roadCtx i (roadStart s)
  have hseg : ∀ j, j ≠ i → Option.Rel ChainSeg (s.road.segs.get j)
      ((RoadEv.warningExpiry s.roadCtx i (roadStart s)).road.segs.get j) := by
    intro j hj
    have h := RoadEv.chain_chainSegs s.roadCtx (RoadEv.enterSeg s.roadCtx (roadStart s) i .closing) j
    rwa [RoadEv.enterSeg_get_of s.roadCtx j hi (by decide), if_neg (Ne.symm hj)] at h
  obtain ⟨a, ha, hca⟩ := (RoadEv.chain_chainSegs s.roadCtx (RoadEv.enterSeg s.roadCtx (roadStart s) i .closing)).some
    ((RoadEv.enterSeg_get_of s.roadCtx i hi (by decide)).trans (if_pos rfl))
  have hshut : a.state.shut = true := hca.shut rfl
  obtain ⟨sg', hsg', hcf⟩ := rel_some (hc i) ha
  obtain rfl : sg' = a := hcf.eq fun h => by rw [h] at hshut; cases hshut
  have htimers : sg'.confirmWait = none ∧ sg'.warningTimer = none := by
    rcases hca with rfl | ⟨h, _⟩ | ⟨h, _⟩ | ⟨_, _, rfl⟩
    · exact ⟨rfl, rfl⟩
    · cases h
    · cases h
    · exact ⟨rfl, rfl⟩
  refine ⟨_, exec_warningTimerExpiry hi hw ht, hk, fun j hj => ⟨holdsStand_of_frame hframe hc j, fun x hx => ?_⟩,
    ⟨_, hg, hwi, ?_⟩, sg', hsg', hca.holds, hshut, htimers.1, htimers.2, fun hn => ?_, fun g hgs hlist hst hd hsw => ?_⟩
  · obtain ⟨sgj, hj1, rfl⟩ := get_of_segState hx
    obtain ⟨b, hb, hcb⟩ := rel_some (hseg j hj) hj1
    obtain ⟨c, hc1, hcc⟩ := rel_some (hc j) hb
    exact ⟨c.state, segState_some hc1, by rw [hcc.state]; exact hcb.moves⟩
  · exact (RoadEv.chain_grow ..).includes (RoadEv.enterSeg_includes _ _ hi)
  · have h := RoadEv.warningExpiry_gateless s.roadCtx (e := roadStart s) hi hn
    obtain rfl := Option.some.inj (h.symm.trans ha)
    exact ⟨rfl, rfl⟩
  · obtain ⟨h1, h2⟩ := RoadEv.warningExpiry_single s.roadCtx (e := roadStart s) hi hgs hlist hst hd hsw
    obtain rfl := Option.some.inj (h1.symm.trans ha)
    exact ⟨rfl, by rw [hgates, h2]; rfl⟩

end

section
/-! A gate that has arrived at LOWERED does not turn back within the event that brought it there, unless another gate has
entered FAULT (R33, R42): so that GATE attention always tells of a gate whose state has changed (R43). -/

namespace Sys2Proof.Machine

namespace RoadEv

/-- A task on gate `i`: a judgement of its demand, of its travel or of UNKNOWN. -/
inductive OnGate (i : GateId) : Task → Prop where
  | demand : OnGate i (.demand i)
  | apply : OnGate i (.apply i)
  | settle : OnGate i (.settle i)
  | resolve : OnGate i (.resolve i)

/-- What a task on a gate can bring about: the demand is applied, a travel is judged, the change is handed on, with the mark of
FAULT only when the gate has just entered it (R42). -/
def Follows (i : GateId) (before after : Gate) (t : Task) : Prop :=
  t = .apply i ∨ t = .settle i ∨ t = .handed i false ∨
    (t = .handed i true ∧ before.state ≠ .fault ∧ after.state = .fault)

theorem gateTo_follows (e : RoadEv) (i : GateId) (x : Gate) {rest : List Task}
    (hb : (e.road.gates.get i).state ≠ .fault) (hr : ∀ t ∈ rest, t = .apply i ∨ t = .settle i) :
    ∀ t ∈ (e.gateTo i x rest).2, Follows i (e.road.gates.get i) ((e.gateTo i x rest).1.road.gates.get i) t := by
  intro t ht
  rw [gateTo_get, if_pos rfl]
  rcases List.mem_cons.1 (show t ∈ Task.handed i (x.state == .fault) :: rest from ht) with rfl | h
  · cases hx : (x.state == .fault) with
    | false => exact Or.inr (Or.inr (Or.inl rfl))
    | true => exact Or.inr (Or.inr (Or.inr ⟨rfl, hb, by simpa using hx⟩))
  · rcases hr t h with h | h
    · exact Or.inl h
    · exact Or.inr (Or.inl h)

/-- A task on a gate writes that gate alone, and brings about tasks on it alone. -/
theorem doTask_onGate (ctx : RoadCtx) {i : GateId} {t : Task} (ht : OnGate i t) (e : RoadEv) :
    (∀ j, i ≠ j → (doTask ctx t e).1.road.gates.get j = e.road.gates.get j) ∧
      ∀ t' ∈ (doTask ctx t e).2, Follows i (e.road.gates.get i) ((doTask ctx t e).1.road.gates.get i) t' := by
  have stay : (∀ j, i ≠ j → (e, ([] : List Task)).1.road.gates.get j = e.road.gates.get j) ∧
      ∀ t' ∈ (e, ([] : List Task)).2, Follows i (e.road.gates.get i) ((e, ([] : List Task)).1.road.gates.get i) t' :=
    ⟨fun _ _ => rfl, fun _ h => by simp at h⟩
  have enters : ∀ (x : Gate) (rest : List Task), (e.road.gates.get i).state ≠ .fault → (∀ t ∈ rest, t = .apply i ∨ t = .settle i) →
      (∀ j, i ≠ j → (e.gateTo i x rest).1.road.gates.get j = e.road.gates.get j) ∧
        ∀ t' ∈ (e.gateTo i x rest).2, Follows i (e.road.gates.get i) ((e.gateTo i x rest).1.road.gates.get i) t' :=
    fun x rest hb hr => ⟨fun j hj => (gateTo_get ..).trans (if_neg hj), gateTo_follows e i x hb hr⟩
  cases ht with
  | demand =>
    simp only [doTask]
    split
    · exact stay
    · refine ⟨fun j hj => (setGate_get ..).trans (if_neg hj), fun t' ht' => Or.inl (by simpa using ht')⟩
  | apply =>
    simp only [doTask]
    split
    · next h => exact enters _ _ (by rw [h]; decide) (by simp)
    · next h => exact enters _ _ (by rw [h]; decide) (by simp)
    · next h => exact enters _ _ (by rw [h]; decide) (by simp)
    · exact stay
  | settle =>
    simp only [doTask]
    split
    · next h _ => exact enters _ _ (fun hf => by rw [hf] at h; cases h) (by simp)
    · next h _ => exact enters _ _ (fun hf => by rw [hf] at h; cases h) (by simp)
    · next h _ => exact enters _ _ (fun hf => by rw [hf] at h; cases h) (by simp)
    · exact stay
  | resolve =>
    simp only [doTask]
    split
    · next h =>
      split <;> exact enters _ _ (by rw [h]; decide) (by simp)
    · exact stay

end RoadEv

theorem fault_step (x x' : Gate) (h : x.state = .fault) (k : GateStep x x') : x'.state = .fault := by
  cases k with
  | stay => exact h
  | demand d => exact h
  | lower _ hx => rw [h] at hx; cases hx
  | reverse _ hx => rw [h] at hx; cases hx
  | raise _ hx => rw [h] at hx; cases hx
  | conflict _ _ => rfl
  | arriveRaised hx _ => rw [h] at hx; cases hx
  | arriveLowered hx _ => rw [h] at hx; cases hx
  | resolve hx _ _ => rw [h] at hx; cases hx

/-- A gate that arrived at LOWERED and the tasks left, `d` being what its listing segments demand: it stands LOWERED, a RAISE
demand that they do not give having only the arrival's own judgement to come; or it is RAISING under a RAISE demand that no task
will take back. -/
def Turned (d : Demand) (g : GateId) (x : Gate) (tasks : List Task) : Prop :=
  (x.state = .lowered ∧
      (x.demand = .raise → d = .lower → ∃ pre, tasks = pre ++ [.apply g] ∧ Task.apply g ∉ pre)) ∨
    (x.state = .raising ∧ x.demand = .raise ∧ (d = .raise ∨ Task.demand g ∉ tasks))

/-- A task that leaves the gate and brings about no judgement of it keeps this. -/
theorem Turned.task {d : Demand} {g : GateId} {x : Gate} {t : Task} {ts rest : List Task} (h : Turned d g x (t :: rest))
    (hne : t ≠ .apply g) (ha : Task.apply g ∉ ts) (hd : x.state = .raising → Task.demand g ∉ ts) :
    Turned d g x (ts ++ rest) := by
  rcases h with ⟨hs, hl⟩ | ⟨hs, hr, hl⟩
  · refine Or.inl ⟨hs, fun h1 h2 => ?_⟩
    obtain ⟨pre, hp, hn⟩ := hl h1 h2
    cases pre with
    | nil => exact absurd (List.cons.inj hp).1 hne
    | cons p pre =>
      obtain ⟨rfl, rfl⟩ := List.cons.inj hp
      exact ⟨ts ++ pre, by simp, by simpa [ha] using fun h => hn (List.mem_cons_of_mem _ h)⟩
  · refine Or.inr ⟨hs, hr, hl.imp_right fun hn => ?_⟩
    simpa [hd hs] using fun h => hn (List.mem_cons_of_mem _ h)

/-- The chain after an arrival at LOWERED, from the road `r` that the arrival left, while no gate has entered FAULT. -/
structure Turning (old : GateId → Gate) (r : Road) (g : GateId) (e : RoadEv) (tasks : List Task) : Prop where
  unfaulted : ∀ j, Task.handed j true ∉ tasks
  faults : ∀ j, (old j).state = .fault → (e.road.gates.get j).state = .fault
  holds : ∀ j, e.road.holdsDown j = r.holdsDown j
  reading : (e.road.gates.get g).reading = .down
  listing : (e.road.gates.get g).listing = (r.gates.get g).listing
  turned : Turned (r.demandOf (r.gates.get g)) g (e.road.gates.get g) tasks

/-- Some gate that was not in FAULT has entered it. -/
def NewFault (old : GateId → Gate) (e : RoadEv) : Prop :=
  ∃ j, (old j).state ≠ .fault ∧ (e.road.gates.get j).state = .fault

namespace RoadEv

theorem doTask_segTask_follows {e : RoadEv} {ctx : RoadCtx} {i : SegId} {t t' : Task} (ht : t = .complete i ∨ t = .done i)
    (h : t' ∈ (doTask ctx t e).2) : (∃ j, t' = .done j) ∨ ∃ sg g, e.road.segs.get i = some sg ∧ g ∈ sg.gates ∧ t' = .demand g ∧
      ((t = .complete i ∧ (e.road.gates.get g).downOrFault = true) ∨ (t = .done i ∧ e.gateDone i g = true)) := by
  rcases ht with rfl | rfl
  · simp only [doTask] at h
    split at h
    · next sg hi =>
      split at h
      · next hc =>
        simp only [Bool.and_eq_true, List.all_eq_true] at hc
        rcases mem_enterSeg_tasks h with ⟨sg', g, hi', hg, rfl⟩ | h | ⟨h, _⟩
        · rw [setSeg_get, if_pos rfl, hi] at hi'
          obtain rfl := Option.some.inj hi'
          exact Or.inr ⟨sg, g, hi, hg, rfl, Or.inl ⟨rfl, hc.2 g hg⟩⟩
        · exact Or.inl h
        · cases h
      · simp at h
    · simp at h
  · simp only [doTask] at h
    split at h
    · next sg hi =>
      split at h
      · next hc =>
        simp only [Bool.and_eq_true, List.all_eq_true] at hc
        rcases mem_enterSeg_tasks h with ⟨sg', g, hi', hg, rfl⟩ | h | ⟨h, _⟩
        · obtain rfl := Option.some.inj (hi.symm.trans hi')
          exact Or.inr ⟨sg, g, hi, hg, rfl, Or.inr ⟨rfl, hc.2 g hg⟩⟩
        · exact Or.inl h
        · cases h
      · simp at h
    · simp at h

/-- A raising gate under a RAISE demand keeps its segments waiting, so that none of them has its demand judged again. -/
theorem no_demand_of_raising {e : RoadEv} {ctx : RoadCtx} {i : SegId} {t : Task} {g : GateId}
    (ht : t = .complete i ∨ t = .done i) (hs : (e.road.gates.get g).state = .raising)
    (hd : (e.road.gates.get g).demand = .raise) : Task.demand g ∉ (doTask ctx t e).2 := by
  intro h
  rcases doTask_segTask_follows ht h with ⟨_, h⟩ | ⟨_, _, _, _, h, hw⟩
  · cases h
  · obtain rfl := Task.demand.inj h
    rcases hw with ⟨_, hw⟩ | ⟨_, hw⟩
    · simp [Gate.downOrFault, hs] at hw
    · simp [gateDone, hs, hd] at hw

/-- A task on the turned gate itself keeps it turned. -/
theorem doTask_turned (ctx : RoadCtx) {d : Demand} {g : GateId} {t : Task} {rest : List Task} {e : RoadEv} (ht : OnGate g t)
    (hd : e.road.demandOf (e.road.gates.get g) = d) (hr : (e.road.gates.get g).reading = .down)
    (h : Turned d g (e.road.gates.get g) (t :: rest)) :
    Turned d g ((doTask ctx t e).1.road.gates.get g) ((doTask ctx t e).2 ++ rest) ∧
      Task.handed g true ∉ (doTask ctx t e).2 := by
  have skip : ∀ t, Turned d g (e.road.gates.get g) (t :: rest) → t ≠ .apply g → doTask ctx t e = (e, []) →
      Turned d g ((doTask ctx t e).1.road.gates.get g) ((doTask ctx t e).2 ++ rest) ∧
        Task.handed g true ∉ (doTask ctx t e).2 := by
    intro t h hne hdo
    rw [hdo]
    exact ⟨h.task hne (by simp) (by simp), by simp⟩
  cases ht with
  | demand =>
    by_cases hflip : (e.road.gates.get g).demand = d
    · exact skip _ h (by simp) (if_pos (hd.trans hflip.symm))
    · rw [doTask_demand_flips ctx hd hflip]
      refine ⟨?_, by simp⟩
      dsimp only
      rw [setGate_get, if_pos rfl]
      rcases h with ⟨hs, _⟩ | ⟨_, hdem, hl⟩
      · exact Or.inl ⟨hs, fun h1 h2 => by rw [h2] at h1; cases h1⟩
      · rcases hl with hl | hl
        · exact absurd (hdem.trans hl.symm) hflip
        · exact absurd (by simp) hl
  | apply =>
    rcases h with ⟨hs, hl⟩ | ⟨hs, hdem, hl⟩
    · cases hdem : (e.road.gates.get g).demand with
      | lower =>
        have hdo : doTask ctx (.apply g) e = (e, []) := by simp only [doTask]; rw [hdem, hs]
        rw [hdo]
        exact ⟨Or.inl ⟨hs, fun h1 => by rw [hdem] at h1; cases h1⟩, by simp⟩
      | raise =>
        have hdo : doTask ctx (.apply g) e = e.gateTo g ((e.road.gates.get g).travel .raise .checked) [.settle g] := by
          simp only [doTask]; rw [hdem, hs]
        rw [hdo]
        refine ⟨?_, by simp [gateTo, Gate.travel, Gate.enter]⟩
        rw [gateTo_get, if_pos rfl]
        refine Or.inr ⟨rfl, hdem, ?_⟩
        cases hdd : d with
        | raise => exact Or.inl rfl
        | lower =>
          obtain ⟨pre, hp, hn⟩ := hl hdem hdd
          cases pre with
          | cons p pre => exact absurd (by simp [(List.cons.inj hp).1]) hn
          | nil =>
            obtain rfl := (List.cons.inj hp).2
            exact Or.inr (by simp [gateTo])
    · have hdo : doTask ctx (.apply g) e = (e, []) := by simp only [doTask]; rw [hdem, hs]
      rw [hdo]
      exact ⟨Or.inr ⟨hs, hdem, hl.imp_right fun hn h => hn (List.mem_cons_of_mem _ h)⟩, by simp⟩
  | settle =>
    refine skip _ h (by simp) ?_
    simp only [doTask]
    rcases h with ⟨hs, _⟩ | ⟨hs, _, _⟩ <;> simp [hs, hr, GateState.target]
  | resolve =>
    refine skip _ h (by simp) ?_
    simp only [doTask]
    rcases h with ⟨hs, _⟩ | ⟨hs, _, _⟩ <;> simp [hs]

/-- One step of the chain after an arrival at LOWERED: no gate has turned back, or one has entered FAULT. -/
theorem doTask_turning (ctx : RoadCtx) {old : GateId → Gate} {r : Road} {g : GateId} {t : Task} {rest : List Task} {e : RoadEv}
    (h : Turning old r g e (t :: rest)) : NewFault old (doTask ctx t e).1 ∨
      Turning old r g (doTask ctx t e).1 ((doTask ctx t e).2 ++ rest) := by
  have hfaults : ∀ j, (old j).state = .fault → ((doTask ctx t e).1.road.gates.get j).state = .fault :=
    fun j hj => fault_step _ _ (h.faults j hj) (doTask_gate ctx t e j)
  have hframe := doTask_frame ctx t e
  have hholds : ∀ j, (doTask ctx t e).1.road.holdsDown j = r.holdsDown j := fun j =>
    (doTask_holdsDown ctx t e (fun g' hg' => h.unfaulted g' (by simp [hg'])) j).trans (h.holds j)
  have hreading : ((doTask ctx t e).1.road.gates.get g).reading = .down := by
    rw [← h.reading]
    unfold Gate.reading
    rw [hframe.raisedSwitch, hframe.loweredSwitch]
  have hlisting := (hframe.listing g).trans h.listing
  have hd : e.road.demandOf (e.road.gates.get g) = r.demandOf (r.gates.get g) := demandOf_congr h.listing h.holds
  have build : (∀ j, Task.handed j true ∉ (doTask ctx t e).2) →
      Turned (r.demandOf (r.gates.get g)) g ((doTask ctx t e).1.road.gates.get g) ((doTask ctx t e).2 ++ rest) →
      Turning old r g (doTask ctx t e).1 ((doTask ctx t e).2 ++ rest) := fun hnew hturned =>
    ⟨fun j hj => (List.mem_append.1 hj).elim (hnew j) fun hj => h.unfaulted j (List.mem_cons_of_mem _ hj), hfaults, hholds,
      hreading, hlisting, hturned⟩
  have on_gate : ∀ i, OnGate i t → NewFault old (doTask ctx t e).1 ∨
      Turning old r g (doTask ctx t e).1 ((doTask ctx t e).2 ++ rest) := by
    intro i ht
    obtain ⟨hother, hfollows⟩ := doTask_onGate ctx ht e
    by_cases hnew : Task.handed i true ∈ (doTask ctx t e).2
    · rcases hfollows _ hnew with h' | h' | h' | ⟨_, hb, ha⟩
      · cases h'
      · cases h'
      · cases h'
      · exact Or.inl ⟨i, fun ho => hb (h.faults i ho), ha⟩
    have hunf : ∀ j, Task.handed j true ∉ (doTask ctx t e).2 := by
      intro j hj
      rcases hfollows _ hj with h' | h' | h' | ⟨h', _⟩
      · cases h'
      · cases h'
      · cases h'
      · obtain ⟨rfl, _⟩ := Task.handed.inj h'
        exact hnew hj
    refine Or.inr (build hunf ?_)
    by_cases hig : i = g
    · subst hig
      exact (doTask_turned ctx ht hd h.reading h.turned).1
    · rw [hother g hig]
      refine h.turned.task (fun ht' => ?_) (fun ha => ?_) fun _ hdm => ?_
      · rw [ht'] at ht
        cases ht
        exact hig rfl
      · rcases hfollows _ ha with h' | h' | h' | ⟨h', _⟩
        · exact hig (Task.apply.inj h').symm
        all_goals cases h'
      · rcases hfollows _ hdm with h' | h' | h' | ⟨h', _⟩ <;> cases h'
  have on_seg : ∀ i, t = .complete i ∨ t = .done i → NewFault old (doTask ctx t e).1 ∨
      Turning old r g (doTask ctx t e).1 ((doTask ctx t e).2 ++ rest) := by
    intro i ht
    have hgates : (doTask ctx t e).1.road.gates = e.road.gates := by
      rcases ht with rfl | rfl
      · exact doTask_gates_complete ..
      · exact doTask_gates_done ..
    refine Or.inr (build (fun j hj => ?_) ?_)
    · rcases doTask_segTask_follows ht hj with ⟨_, h'⟩ | ⟨_, _, _, _, h', _⟩ <;> cases h'
    · rw [hgates]
      refine h.turned.task (by rcases ht with rfl | rfl <;> nofun) (fun ha => ?_) fun hs => ?_
      · rcases doTask_segTask_follows ht ha with ⟨_, h'⟩ | ⟨_, _, _, _, h', _⟩ <;> cases h'
      · refine no_demand_of_raising ht hs ?_
        rcases h.turned with ⟨hl, _⟩ | ⟨_, hdem, _⟩
        · rw [hs] at hl; cases hl
        · exact hdem
  cases t with
  | demand i => exact on_gate i .demand
  | apply i => exact on_gate i .apply
  | settle i => exact on_gate i .settle
  | resolve i => exact on_gate i .resolve
  | complete i => exact on_seg i (Or.inl rfl)
  | done i => exact on_seg i (Or.inr rfl)
  | handed i fault =>
    obtain rfl : fault = false := by
      cases fault with
      | false => rfl
      | true => exact absurd (by simp) (h.unfaulted i)
    obtain ⟨he, hts⟩ := handAll_false ctx e (e.road.gates.get i).listing
    have avoid : ∀ t', (∀ j, t' ≠ .complete j) → (∀ j, t' ≠ .done j) → t' ∉ (doTask ctx (.handed i false) e).2 := by
      intro t' h1 h2 h'
      obtain ⟨j, _, ⟨h', _⟩ | ⟨h', _⟩⟩ := hts t' h'
      · exact h1 j h'
      · exact h2 j h'
    refine Or.inr (build (fun j => avoid _ (by simp) (by simp)) ?_)
    rw [show (doTask ctx (.handed i false) e).1 = e from he]
    exact h.turned.task (by simp) (avoid _ (by simp) (by simp)) fun _ => avoid _ (by simp) (by simp)

/-- The chain after an arrival at LOWERED ends with that gate LOWERED or RAISING, or with a gate that entered FAULT. -/
theorem run_turning (ctx : RoadCtx) {old : GateId → Gate} {r : Road} {g : GateId} (n : Nat) {tasks : List Task} {e : RoadEv}
    (h : Turning old r g e tasks) : NewFault old (run ctx n tasks e) ∨
      ((run ctx n tasks e).road.gates.get g).state = .lowered ∨ ((run ctx n tasks e).road.gates.get g).state = .raising := by
  refine run_tasks_induction ctx (fun e l => NewFault old e ∨ Turning old r g e l) (fun e => NewFault old e ∨
    (e.road.gates.get g).state = .lowered ∨ (e.road.gates.get g).state = .raising) (fun e l h => ?_) (fun t rest e h => ?_) n tasks e
    (Or.inr h)
  · exact h.imp_right fun h => h.turned.imp (·.1) (·.1)
  · rcases h with ⟨j, hj, hf⟩ | h
    · exact Or.inl ⟨j, hj, fault_step _ _ hf (doTask_gate ctx t e j)⟩
    · exact doTask_turning ctx h

end RoadEv

end Sys2Proof.Machine

end

section
/-! An accepted change of an end switch (R30, R37, R39 to R41): what the gate makes of it, by cases, and the chain that
follows an arrival. -/

namespace Sys2Proof.Machine

open RoadEv (entered setSwitch switchStep)

-- ---------------------------------------------------------------- the gate with its changed switch

/-- The rest switch of a gate at rest drops (R39). -/
def Displaces (x : Gate) (sw : Switch) (level : Bool) : Prop :=
  (x.state = .raised ∧ sw = .raised ∧ level = false) ∨ (x.state = .lowered ∧ sw = .lowered ∧ level = false)

/-- A gate at rest or in a travel, with both switches ACTIVE (R40). -/
def Conflicts (x : Gate) : Prop :=
  (x.state = .raised ∨ x.state = .lowered ∨ x.state = .raising ∨ x.state = .lowering) ∧ x.reading = .both

/-- A gate in a travel, with its target switch alone ACTIVE now (R37). -/
def OnTarget (x : Gate) (sw : Switch) (level : Bool) : Prop :=
  x.state.target = some sw ∧ level = true ∧ x.reading ≠ .both

/-- The gate arrives below T_min in a CHECKED travel (R37). -/
def Early (x : Gate) : Prop := x.check = some .checked ∧ x.timer.getD 0 < x.tMinMs

theorem setSwitch_state (sw : Switch) (level : Bool) (x : Gate) : (setSwitch sw level x).state = x.state := by
  cases sw <;> rfl

theorem reading_both {x : Gate} : x.reading = .both ↔ x.raisedSwitch.level = true ∧ x.loweredSwitch.level = true := by
  unfold Gate.reading
  cases x.raisedSwitch.level <;> cases x.loweredSwitch.level <;> simp

/-- A switch that has dropped is not one of two that are ACTIVE. -/
theorem not_both_of_drop (sw : Switch) (y : Gate) : (setSwitch sw false y).reading ≠ .both := by
  intro h
  obtain ⟨h1, h2⟩ := reading_both.1 h
  cases sw
  · cases h1
  · cases h2

theorem reading_of_raised {y : Gate} (h : (setSwitch .raised true y).reading ≠ .both) :
    (setSwitch .raised true y).reading = .up := by
  unfold Gate.reading setSwitch at *
  cases hl : y.loweredSwitch.level <;> simp_all

theorem reading_of_lowered {y : Gate} (h : (setSwitch .lowered true y).reading ≠ .both) :
    (setSwitch .lowered true y).reading = .down := by
  unfold Gate.reading setSwitch at *
  cases hl : y.raisedSwitch.level <;> simp_all

theorem arrive_early {x : Gate} (h : Early x) : x.arrive = x.fail .early := by
  unfold Gate.arrive
  simp [h.1, h.2]

theorem arrive_rest {x : Gate} (h : ¬ Early x) :
    x.arrive = x.rest (match x.state with | .raising => .raised | _ => .lowered) := by
  unfold Gate.arrive
  dsimp only
  rw [if_neg (by simpa [Early] using h)]
  cases x.state <;> rfl

theorem arrive_raised {x : Gate} (h : ¬ Early x) (hs : x.state = .raising) : x.arrive = x.rest .raised := by
  rw [arrive_rest h, hs]

theorem arrive_lowered {x : Gate} (h : ¬ Early x) (hs : x.state = .lowering) : x.arrive = x.rest .lowered := by
  rw [arrive_rest h, hs]

-- ---------------------------------------------------------------- the step of the gate, by cases

namespace RoadEv

theorem switchStep_displaces {i : GateId} {sw : Switch} {level : Bool} {e : RoadEv}
    (h : Displaces (e.road.gates.get i) sw level) :
    switchStep i sw level e = e.gateTo i ((e.road.gates.get i).fail .displaced) [] := by
  unfold switchStep
  dsimp only
  rcases h with ⟨hs, rfl, rfl⟩ | ⟨hs, rfl, rfl⟩ <;> rw [hs] <;> rfl

theorem switchStep_conflicts {i : GateId} {sw : Switch} {level : Bool} {e : RoadEv}
    (hd : ¬ Displaces (e.road.gates.get i) sw level) (h : Conflicts (e.road.gates.get i)) :
    switchStep i sw level e = e.gateTo i ((e.road.gates.get i).fail .conflict) [] := by
  obtain ⟨hs, hb⟩ := h
  unfold switchStep
  dsimp only
  rcases hs with hs | hs | hs | hs <;> simp only [hs, hb]
  · exact (if_neg (by simpa [Displaces, hs] using hd)).trans (if_pos trivial)
  · exact (if_neg (by simpa [Displaces, hs] using hd)).trans (if_pos trivial)
  · rfl
  · rfl

theorem switchStep_arrives {i : GateId} {sw : Switch} {level : Bool} {e : RoadEv}
    (h : OnTarget (e.road.gates.get i) sw level) : switchStep i sw level e = e.arrival i := by
  obtain ⟨ht, rfl, hb⟩ := h
  unfold switchStep
  dsimp only
  cases sw with
  | raised => rw [target_raised ht]; exact (if_neg hb).trans (if_pos rfl)
  | lowered => rw [target_lowered ht]; exact (if_neg hb).trans (if_pos rfl)

/-- Any other change is recorded and no more. -/
theorem switchStep_stays {i : GateId} {sw : Switch} {level : Bool} {e : RoadEv}
    (hd : ¬ Displaces (e.road.gates.get i) sw level) (hc : ¬ Conflicts (e.road.gates.get i))
    (ha : ¬ OnTarget (e.road.gates.get i) sw level) : switchStep i sw level e = (e, []) := by
  have hb : (e.road.gates.get i).state ≠ .unknown → (e.road.gates.get i).state ≠ .fault →
      (e.road.gates.get i).reading ≠ .both := fun h1 h2 hb => hc ⟨by revert h1 h2; cases (e.road.gates.get i).state <;> simp, hb⟩
  unfold switchStep
  dsimp only
  cases hs : (e.road.gates.get i).state with
  | unknown => rfl
  | fault => rfl
  | raised =>
    exact (if_neg (by simpa [Displaces, hs] using hd)).trans (if_neg (hb (by simp [hs]) (by simp [hs])))
  | lowered =>
    exact (if_neg (by simpa [Displaces, hs] using hd)).trans (if_neg (hb (by simp [hs]) (by simp [hs])))
  | raising =>
    have hb := hb (by simp [hs]) (by simp [hs])
    exact (if_neg hb).trans (if_neg fun h => ha (by simp_all [OnTarget, GateState.target]))
  | lowering =>
    have hb := hb (by simp [hs]) (by simp [hs])
    exact (if_neg hb).trans (if_neg fun h => ha (by simp_all [OnTarget, GateState.target]))

/-- The step of the gate: nothing more, an entry to FAULT, or the arrival. -/
theorem switchStep_cases (i : GateId) (sw : Switch) (level : Bool) (e : RoadEv) :
    (switchStep i sw level e = (e, []) ∧ ¬ OnTarget (e.road.gates.get i) sw level) ∨
      (∃ c, switchStep i sw level e = e.gateTo i ((e.road.gates.get i).fail c) [] ∧ (e.road.gates.get i).state ≠ .fault) ∨
      (switchStep i sw level e = e.arrival i ∧ OnTarget (e.road.gates.get i) sw level) := by
  by_cases hd : Displaces (e.road.gates.get i) sw level
  · refine Or.inr (Or.inl ⟨_, switchStep_displaces hd, ?_⟩)
    rcases hd with ⟨h, _⟩ | ⟨h, _⟩ <;> rw [h] <;> decide
  by_cases hc : Conflicts (e.road.gates.get i)
  · refine Or.inr (Or.inl ⟨_, switchStep_conflicts hd hc, ?_⟩)
    rcases hc.1 with h | h | h | h <;> rw [h] <;> decide
  by_cases ha : OnTarget (e.road.gates.get i) sw level
  · exact Or.inr (Or.inr ⟨switchStep_arrives ha, ha⟩)
  · exact Or.inl ⟨switchStep_stays hd hc ha, ha⟩

theorem arrival_grow (e : RoadEv) (i : GateId) : FlagsGrow e (e.arrival i).1 := gateTo_grow ..

theorem arrival_frame (e : RoadEv) (i : GateId) : RoadFrame e.road (e.arrival i).1.road :=
  gateTo_frame e i _ _ (arrive_frame _)

theorem switchStep_grow (i : GateId) (sw : Switch) (level : Bool) (e : RoadEv) :
    FlagsGrow e (switchStep i sw level e).1 := by
  rcases switchStep_cases i sw level e with ⟨h, _⟩ | ⟨_, h, _⟩ | ⟨h, _⟩ <;> rw [h]
  · exact .rfl' e
  · exact gateTo_grow ..
  · exact arrival_grow ..

theorem switchStep_frame (i : GateId) (sw : Switch) (level : Bool) (e : RoadEv) :
    RoadFrame e.road (switchStep i sw level e).1.road := by
  rcases switchStep_cases i sw level e with ⟨h, _⟩ | ⟨_, h, _⟩ | ⟨h, _⟩ <;> rw [h]
  · exact .rfl' _
  · exact gateTo_frame e i _ _ rfl
  · exact arrival_frame ..

theorem switchChange_grow (ctx : RoadCtx) (i : GateId) (sw : Switch) (level : Bool) (e : RoadEv) :
    FlagsGrow e (switchChange ctx i sw level e) :=
  ((FlagsGrow.of_eq rfl).trans' (switchStep_grow i sw level (e.setGate i (setSwitch sw level)))).trans' (chain_grow ..)

theorem switchChange_frame (ctx : RoadCtx) (i : GateId) (sw : Switch) (level : Bool) (e : RoadEv) :
    RoadFrame (e.setGate i (setSwitch sw level)).road (switchChange ctx i sw level e).road :=
  (switchStep_frame i sw level _).trans' (chain_frame ..)

-- ---------------------------------------------------------------- the chain after an arrival

theorem handAll_false_length (ctx : RoadCtx) (e : RoadEv) : ∀ l : List SegId, (handAll ctx false l e).2.length ≤ l.length
  | [] => Nat.le_refl 0
  | i :: l => by
    have hs : (handSeg ctx false i e).1 = e ∧ (handSeg ctx false i e).2.length ≤ 1 := by
      unfold handSeg
      split <;> exact ⟨rfl, by simp⟩
    have hrun : (handAll ctx false (i :: l) e).2 =
        (handSeg ctx false i e).2 ++ (handAll ctx false l (handSeg ctx false i e).1).2 := rfl
    have ih := handAll_false_length ctx e l
    rw [hrun, hs.1, List.length_append, List.length_cons]
    omega

/-- A hand-over whose judgements all do nothing is passed over. -/
theorem run_handed_skip (ctx : RoadCtx) {e : RoadEv} {g : GateId} {rest : List Task} (n : Nat)
    (hl : (e.road.gates.get g).listing.length ≤ 2)
    (hskip : ∀ t ∈ (handAll ctx false (e.road.gates.get g).listing e).2, doTask ctx t e = (e, [])) :
    ∃ m, n ≤ m ∧ run ctx (n + 3) (.handed g false :: rest) e = run ctx m rest e := by
  have hlen := handAll_false_length ctx e (e.road.gates.get g).listing
  have hhand : doTask ctx (.handed g false) e = (e, (handAll ctx false (e.road.gates.get g).listing e).2) :=
    Prod.ext (handAll_false ctx e _).1 rfl
  obtain ⟨m, hm⟩ : ∃ m, n + 2 = m + (handAll ctx false (e.road.gates.get g).listing e).2.length :=
    ⟨n + 2 - (handAll ctx false (e.road.gates.get g).listing e).2.length, by omega⟩
  exact ⟨m, by omega, by rw [run_step (n := n + 2) hhand, hm, run_skip ctx m _ hskip]⟩

/-- After an arrival under the other demand the gate leaves its rest at once, and goes on in a fresh CHECKED travel, where no
listing segment acts on either change (R33, R37). -/
theorem chain_arrival_turns (ctx : RoadCtx) {e : RoadEv} {g : GateId} {d : Demand}
    (hd : (e.road.gates.get g).demand = d) (hl : Leaves d (e.road.gates.get g))
    (hlen : (e.road.gates.get g).listing.length ≤ 2)
    (hskip : ∀ e' : RoadEv, e'.road.segs = e.road.segs →
      (e'.road.gates.get g = e.road.gates.get g ∨ e'.road.gates.get g = (e.road.gates.get g).travel d .checked) →
      ∀ t ∈ (handAll ctx false (e.road.gates.get g).listing e').2, doTask ctx t e' = (e', [])) :
    (chain ctx (e, [.handed g false, .apply g])).road.gates.get g = (e.road.gates.get g).travel d .checked := by
  let e2 := (e.gateTo g ((e.road.gates.get g).travel d .checked) [.settle g]).1
  have h2 : e2.road.gates.get g = (e.road.gates.get g).travel d .checked := (gateTo_get ..).trans (if_pos rfl)
  have hfault : (((e.road.gates.get g).travel d .checked).state == .fault) = false := by cases d <;> rfl
  have happly : doTask ctx (.apply g) e = (e2, [.handed g false, .settle g]) := by
    rw [doTask_apply_leaves ctx hd hl, ← hfault]
    rfl
  obtain ⟨m, hm, hrun⟩ := run_handed_skip ctx (rest := [.apply g]) 1021 hlen (hskip e rfl (Or.inl rfl))
  obtain ⟨m, rfl⟩ : ∃ m', m = m' + 1 + 3 + 1 := ⟨m - 5, by omega⟩
  have hlist2 : (e2.road.gates.get g).listing = (e.road.gates.get g).listing := by rw [h2]; rfl
  obtain ⟨k, hk, hrun2⟩ := run_handed_skip ctx (e := e2) (g := g) (rest := [.settle g]) (m + 1) (by rw [hlist2]; exact hlen)
    (by rw [hlist2]; exact hskip e2 rfl (Or.inr h2))
  rw [chain_eq, hrun, run_step happly]
  show (run ctx (m + 1 + 3) (.handed g false :: [.settle g]) e2).road.gates.get g = _
  obtain ⟨k, rfl⟩ : ∃ k', k = k' + 1 := ⟨k - 1, by omega⟩
  rw [hrun2, run_step (doTask_settle_goes_on ctx h2 hl), List.nil_append, run_nil]
  exact h2

/-- After an arrival that its demand agrees with, the gate rests, where no listing segment waits for it (R37). -/
theorem chain_arrival_rests (ctx : RoadCtx) {e : RoadEv} {g : GateId}
    (hquiet : ∀ i ∈ (e.road.gates.get g).listing, e.road.segState i ≠ some .closing ∧ e.road.segState i ≠ some .opening)
    (happly : doTask ctx (.apply g) e = (e, [])) : chain ctx (e, [.handed g false, .apply g]) = e := by
  have hhand : doTask ctx (.handed g false) e = (e, []) := handAll_quiet ctx false e _ hquiet
  rw [chain_eq, run_step hhand, List.nil_append, run_step happly, List.nil_append, run_nil]

/-- A gate that is not RAISED under a RAISE demand keeps its OPENING segment waiting (R19). -/
theorem doTask_done_waits (ctx : RoadCtx) {e : RoadEv} {i : SegId} {g : GateId} {sg : Segment}
    (hi : e.road.segs.get i = some sg) (hg : g ∈ sg.gates) (hs : (e.road.gates.get g).state ≠ .raised)
    (hd : (e.road.gates.get g).demand = .raise) : doTask ctx (.done i) e = (e, []) := by
  simp only [doTask]
  rw [hi]
  refine if_neg fun h => ?_
  simp only [Bool.and_eq_true, List.all_eq_true] at h
  simpa [gateDone, hs, hd] using h.2 g hg

-- ---------------------------------------------------------------- the arrival, by its outcome

theorem arrival_early {e : RoadEv} {g : GateId} (h : Early (e.road.gates.get g)) :
    e.arrival g = e.gateTo g ((e.road.gates.get g).fail .early) [.apply g] := by
  rw [arrival, arrive_early h]

/-- The rest that a travel toward a demand ends in (R37). -/
def restOf : Demand → GateState
  | .raise => .raised
  | .lower => .lowered

/-- A gate in a travel toward the demand `d`, its target switch alone ACTIVE, not EARLY. -/
structure Lands (d : Demand) (x : Gate) : Prop where
  late : ¬ Early x
  state : x.state = match d with | .raise => .raising | .lower => .lowering
  reading : x.reading = match d with | .raise => .up | .lower => .down

theorem arrival_lands {e : RoadEv} {g : GateId} {d : Demand} (h : Lands d (e.road.gates.get g)) :
    e.arrival g = e.gateTo g ((e.road.gates.get g).rest (restOf d)) [.apply g] := by
  rw [arrival, arrive_rest h.late, h.state]
  cases d <;> rfl

/-- The road that an arrival at rest leaves, before the chain. -/
def landed (e : RoadEv) (g : GateId) (d : Demand) : RoadEv :=
  (e.gateTo g ((e.road.gates.get g).rest (restOf d)) [.apply g]).1

theorem landed_get (e : RoadEv) (g j : GateId) (d : Demand) : (landed e g d).road.gates.get j =
    if g = j then (e.road.gates.get g).rest (restOf d) else e.road.gates.get j := gateTo_get ..

theorem arrival_landed {e : RoadEv} {g : GateId} {d : Demand} (h : Lands d (e.road.gates.get g)) :
    e.arrival g = (landed e g d, [.handed g false, .apply g]) := by
  rw [arrival_lands h]
  cases d <;> rfl

/-- An arrival always leaves some gate in another state: the gate itself, or one that entered FAULT in its event (R43). -/
theorem arrival_changes (ctx : RoadCtx) {e : RoadEv} {g : GateId} {d : Demand} (h : Lands d (e.road.gates.get g)) :
    ∃ j, ((chain ctx (e.arrival g)).road.gates.get j).state ≠ (e.road.gates.get j).state := by
  have hx : (landed e g d).road.gates.get g = (e.road.gates.get g).rest (restOf d) := (landed_get ..).trans (if_pos rfl)
  rw [arrival_landed h]
  cases d with
  | raise =>
    have hat : AtRaised ((landed e g .raise).road.gates.get g) := by
      rw [hx]
      exact ⟨h.reading, Or.inl rfl⟩
    refine ⟨g, fun hs => ?_⟩
    rcases (run_gate ctx atRaised_step g Config.cascadeFuel [.handed g false, .apply g] hat).2 with hr | hr
    · cases hr.symm.trans (hs.trans h.state)
    · cases hr.symm.trans (hs.trans h.state)
  | lower =>
    have hturn : Turning (fun j => e.road.gates.get j) (landed e g .lower).road g (landed e g .lower)
        [.handed g false, .apply g] := by
      refine ⟨by simp, fun j hj => ?_, fun _ => rfl, ?_, rfl, Or.inl ⟨by rw [hx]; rfl, fun _ _ => ⟨[.handed g false], rfl, by simp⟩⟩⟩
      · rw [landed_get, if_neg (by rintro rfl; cases h.state.symm.trans hj)]
        exact hj
      · rw [hx]
        exact h.reading
    rcases run_turning ctx Config.cascadeFuel hturn with ⟨j, hj, hf⟩ | hs | hs
    · exact ⟨j, fun hs => hj (hs.symm.trans hf)⟩
    · exact ⟨g, fun hg => by cases hs.symm.trans (hg.trans h.state)⟩
    · exact ⟨g, fun hg => by cases hs.symm.trans (hg.trans h.state)⟩

/-- The other demand. -/
def otherDemand : Demand → Demand
  | .raise => .lower
  | .lower => .raise

/-- What an arrival leaves of the gate: its rest, or against the demand a fresh CHECKED travel from it (R33, R37). -/
def afterLanding (d : Demand) (x : Gate) : Gate :=
  if x.demand = d then x.rest (restOf d) else (x.rest (restOf d)).travel (otherDemand d) .checked

theorem demand_other {a d : Demand} (h : a ≠ d) : a = otherDemand d := by
  cases a <;> cases d <;> first | rfl | exact absurd rfl h

theorem landed_leaves {x : Gate} {d : Demand} (h : Lands d x) : Leaves (otherDemand d) (x.rest (restOf d)) := by
  have hr := h.reading
  unfold Gate.reading at hr
  cases d with
  | raise => exact ⟨rfl, by revert hr; cases x.raisedSwitch.level <;> cases hl : x.loweredSwitch.level <;> simp [Gate.rest, Gate.enter, hl]⟩
  | lower => exact ⟨rfl, by revert hr; cases hl : x.raisedSwitch.level <;> cases x.loweredSwitch.level <;> simp [Gate.rest, Gate.enter, hl]⟩

theorem doTask_apply_agrees (ctx : RoadCtx) {e : RoadEv} {g : GateId} {d : Demand} (hd : (e.road.gates.get g).demand = d)
    (hs : (e.road.gates.get g).state = restOf d) : doTask ctx (.apply g) e = (e, []) := by
  simp only [doTask]
  cases d <;> rw [hd, hs] <;> rfl

/-- The arrival of a gate that no listing segment waits for. -/
theorem arrival_quiet (ctx : RoadCtx) {e : RoadEv} {g : GateId} {d : Demand} (h : Lands d (e.road.gates.get g))
    (hq : Quiet e.road (e.road.gates.get g)) :
    (chain ctx (e.arrival g)).road.gates.get g = afterLanding d (e.road.gates.get g) := by
  have hx : (landed e g d).road.gates.get g = (e.road.gates.get g).rest (restOf d) := (landed_get ..).trans (if_pos rfl)
  have hquiet : ∀ e' : RoadEv, e'.road.segs = e.road.segs → ∀ i ∈ (e.road.gates.get g).listing,
      e'.road.segState i ≠ some .closing ∧ e'.road.segState i ≠ some .opening := by
    intro e' he i hi
    have := hq.2 i hi
    unfold Road.isIn Road.segState at this
    unfold Road.segState
    rw [he]
    simpa using this
  rw [arrival_landed h, afterLanding]
  split
  · next hd =>
    rw [chain_arrival_rests ctx (e := landed e g d) (g := g) (fun i hi => hquiet _ rfl i (by rw [hx] at hi; exact hi))
      (doTask_apply_agrees ctx (d := d) (by rw [hx]; exact hd) (by rw [hx]; rfl)), hx]
  · next hd =>
    rw [chain_arrival_turns ctx (d := otherDemand d) (by rw [hx]; exact demand_other hd) (by rw [hx]; exact landed_leaves h)
      (by rw [hx]; exact hq.1), hx]
    intro e' he _ t ht
    rw [handAll_quiet ctx false e' _ fun i hi => hquiet e' he i (by rw [hx] at hi; exact hi)] at ht
    simp at ht

/-- The arrival of a gate on a lawful road. -/
theorem arrival_lawful (ctx : RoadCtx) {e : RoadEv} {g : GateId} {d : Demand} (h : Lands d (e.road.gates.get g))
    (hlists : ListsAgree e.road) (hdem : DemandLaw e.road) :
    (chain ctx (e.arrival g)).road.gates.get g = afterLanding d (e.road.gates.get g) := by
  have hx : (landed e g d).road.gates.get g = (e.road.gates.get g).rest (restOf d) := (landed_get ..).trans (if_pos rfl)
  rw [arrival_landed h, afterLanding]
  split
  · next hd =>
    have hcons : Consistent (landed e g d) := by
      intro j
      rw [landed_get]
      split
      · next hj => subst hj; exact (hdem g).1
      · exact (hdem j).1
    rw [chain_eq, run_calm ctx 1024 hcons, hx]
    intro t ht
    simp only [List.mem_cons, List.not_mem_nil, or_false] at ht
    rcases ht with rfl | rfl
    · rfl
    · show (_ ∧ _) ∨ (_ ∧ _)
      rw [hx]
      cases d
      · exact Or.inl ⟨hd, rfl⟩
      · exact Or.inr ⟨hd, rfl⟩
  · next hd =>
    obtain rfl : d = .lower := by
      cases d with
      | lower => rfl
      | raise => exact absurd ((hdem g).2.2 h.state) hd
    have hraise : (e.road.gates.get g).demand = .raise := demand_other hd
    have hnot := demandOf_eq_raise (((hdem g).1).symm.trans hraise)
    rw [chain_arrival_turns ctx (d := .raise) (by rw [hx]; exact hraise) (by rw [hx]; exact landed_leaves h)
      (by rw [hx]; exact (hlists.1 g).2), hx]
    · rfl
    intro e' he hg t ht
    obtain ⟨j, hj, ⟨rfl, hs⟩ | ⟨rfl, hs⟩⟩ := (handAll_false ctx e' _).2 t ht
    · refine absurd ?_ (not_shut_of_holdsDown (hnot j (by rw [hx] at hj; exact hj))).1
      unfold Road.segState at hs ⊢
      rwa [he] at hs
    · obtain ⟨sg, hsg, _⟩ := get_of_segState hs
      have hin : g ∈ sg.gates := ((hlists.2.1 j sg (by rw [he] at hsg; exact hsg)).2.2 g).2 (by rw [hx] at hj; exact hj)
      rw [hx] at hg
      refine doTask_done_waits ctx hsg hin ?_ ?_
      · rcases hg with hg | hg <;> rw [hg] <;> nofun
      · rcases hg with hg | hg <;> rw [hg] <;> exact hraise

/-- A CLOSING segment whose single gate, listed by it alone, comes down or enters FAULT is CLOSED (R15, R42). -/
theorem chain_closes (ctx : RoadCtx) {e : RoadEv} {g : GateId} {i : SegId} {x : Gate} {sg : Segment} (rest : List Task)
    (hi : e.road.segs.get i = some sg) (hs : sg.state = .closing) (hg : sg.gates = [g]) (hl : x.listing = [i])
    (hd : x.downOrFault = true) : (chain ctx (e.gateTo g x rest)).road.segs.get i =
      some { entered .closed sg with incomplete := x.state == .fault } := by
  let e1 := (e.gateTo g x rest).1
  have hx : e1.road.gates.get g = x := (gateTo_get ..).trans (if_pos rfl)
  have hi1 : e1.road.segs.get i = some sg := hi
  have hhand : doTask ctx (.handed g (x.state == .fault)) e1 = (e1, [.complete i]) := by
    have hseg : handSeg ctx (x.state == .fault) i e1 = (e1, [.complete i]) := by
      unfold handSeg
      rw [segState_some hi1, hs]
    show handAll ctx _ (e1.road.gates.get g).listing e1 = _
    rw [hx, hl]
    show ((handSeg ctx _ i e1).1, (handSeg ctx _ i e1).2 ++ []) = _
    rw [hseg]
    rfl
  show (run ctx 1024 (.handed g (x.state == .fault) :: rest) e1).road.segs.get i = _
  rw [run_step hhand, List.singleton_append, run_complete_closes ctx 1022 _ hi1 hs (by simp [hg, hx, hd])]
  simp [hg, hx]

/-- An OPENING segment whose single gate, listed by it alone, enters FAULT is CLOSED, incomplete (R20, R42). -/
theorem chain_aborts (ctx : RoadCtx) {e : RoadEv} {g : GateId} {i : SegId} {x : Gate} {sg : Segment}
    (hi : e.road.segs.get i = some sg) (hs : sg.state = .opening) (hg : sg.gates = [g]) (hl : x.listing = [i])
    (hf : x.state = .fault) (hd : x.demand = .raise) : (chain ctx (e.gateTo g x [.apply g])).road.segs.get i =
      some { entered .closed (entered .closing sg) with incomplete := true } := by
  let e1 := (e.gateTo g x [.apply g]).1
  let e2 := enteredEv e1 i .closing
  let e3 := e2.setGate g fun x => { x with demand := .lower }
  have hx : e1.road.gates.get g = x := (gateTo_get ..).trans (if_pos rfl)
  have hi1 : e1.road.segs.get i = some sg := hi
  have hi2 : e2.road.segs.get i = some (entered .closing sg) := enteredEv_get hi1
  have hx2 : e2.road.gates.get g = x := hx
  have hx3 : e3.road.gates.get g = { x with demand := .lower } := by rw [setGate_get, if_pos rfl, hx2]
  have hhand : doTask ctx (.handed g true) e1 = (e2, [.demand g, .complete i]) := by
    have hseg : handSeg ctx true i e1 = (e2, [.demand g, .complete i]) := by
      unfold handSeg
      rw [segState_some hi1, hs]
      show enterSeg ctx e1 i .closing = _
      rw [enterSeg_eq ctx hi1 (by decide), hg, neighbours_alone (by rw [hx]; exact hl)]
      rfl
    show handAll ctx true (e1.road.gates.get g).listing e1 = _
    rw [hx, hl]
    show ((handSeg ctx true i e1).1, (handSeg ctx true i e1).2 ++ []) = _
    rw [hseg]
    rfl
  have hdem : e2.road.demandOf (e2.road.gates.get g) = .lower := by
    have : e2.road.holdsDown i = true := by rw [holdsDown_eq, segState_some hi2]; rfl
    simp [Road.demandOf, hx2, hl, this]
  have hflip : doTask ctx (.demand g) e2 = (e3, [.apply g]) := doTask_demand_flips ctx hdem (by rw [hx2, hd]; decide)
  have happly : doTask ctx (.apply g) e3 = (e3, []) := by
    simp only [doTask]
    rw [hx3]
    simp [hf]
  have hfault : (x.state == .fault) = true := by rw [hf]; rfl
  show (run ctx 1024 (.handed g (x.state == .fault) :: [.apply g]) e1).road.segs.get i = _
  rw [hfault, run_step hhand, List.cons_append, run_step hflip, List.singleton_append, run_step happly, List.nil_append,
    List.singleton_append, run_complete_closes ctx 1020 _ (e := e3) (sg := entered .closing sg) hi2 rfl
      (by simp [entered, hg, hx3, Gate.downOrFault, hf])]
  simp [entered, hg, hx3, hf]

/-- An OPENING segment whose single gate, listed by it alone and demanded RAISE, is RAISED is OPEN, and the gate stays (R19). -/
theorem chain_opens (ctx : RoadCtx) {e : RoadEv} {g : GateId} {i : SegId} {x : Gate} {sg : Segment}
    (hi : e.road.segs.get i = some sg) (hs : sg.state = .opening) (hg : sg.gates = [g]) (hl : x.listing = [i])
    (hr : x.state = .raised) (hd : x.demand = .raise) :
    (chain ctx (e.gateTo g x [.apply g])).road.segs.get i = some (entered .opened sg) ∧
      (chain ctx (e.gateTo g x [.apply g])).road.gates.get g = x := by
  let e1 := (e.gateTo g x [.apply g]).1
  let e2 := enteredEv e1 i .opened
  have hx : e1.road.gates.get g = x := (gateTo_get ..).trans (if_pos rfl)
  have hi1 : e1.road.segs.get i = some sg := hi
  have hi2 : e2.road.segs.get i = some (entered .opened sg) := enteredEv_get hi1
  have hx2 : e2.road.gates.get g = x := hx
  have hhand : doTask ctx (.handed g false) e1 = (e1, [.done i]) := by
    have hseg : handSeg ctx false i e1 = (e1, [.done i]) := by
      unfold handSeg
      rw [segState_some hi1, hs]
      rfl
    show handAll ctx false (e1.road.gates.get g).listing e1 = _
    rw [hx, hl]
    show ((handSeg ctx false i e1).1, (handSeg ctx false i e1).2 ++ []) = _
    rw [hseg]
    rfl
  have hdone : doTask ctx (.done i) e1 = (e2, [.demand g]) := by
    simp only [doTask]
    rw [hi1]
    refine (if_pos (by simp [hs, hg, gateDone, hx, hr])).trans ?_
    rw [enterSeg_eq ctx hi1 (by decide), hg, neighbours_alone (by rw [hx]; exact hl)]
    rfl
  have hdem : doTask ctx (.demand g) e2 = (e2, []) := by
    have : e2.road.holdsDown i = false := by rw [holdsDown_eq, segState_some hi2]; rfl
    exact if_pos (by simp [Road.demandOf, hx2, hl, this, hd])
  have happly : doTask ctx (.apply g) e2 = (e2, []) :=
    doTask_apply_agrees ctx (d := .raise) (by rw [hx2]; exact hd) (by rw [hx2]; exact hr)
  have hfault : (x.state == .fault) = false := by rw [hr]; rfl
  have hrun : chain ctx (e.gateTo g x [.apply g]) = e2 := by
    show run ctx 1024 (.handed g (x.state == .fault) :: [.apply g]) e1 = _
    rw [hfault, run_step hhand, List.singleton_append, run_step hdone, List.singleton_append, run_step hdem, List.nil_append,
      run_step happly, List.nil_append, run_nil]
  rw [hrun]
  exact ⟨hi2, hx2⟩

end RoadEv

-- ---------------------------------------------------------------- the event

/-- The road of an event whose switch change has been recorded. -/
def switched (s : State) (g : GateId) (sw : Switch) (level : Bool) : RoadEv := (roadStart s).setGate g (setSwitch sw level)

theorem switched_get (s : State) (g j : GateId) (sw : Switch) (level : Bool) : (switched s g sw level).road.gates.get j =
    if g = j then setSwitch sw level (s.road.gates.get g) else s.road.gates.get j := RoadEv.setGate_get ..

theorem switched_self (s : State) (g : GateId) (sw : Switch) (level : Bool) :
    (switched s g sw level).road.gates.get g = setSwitch sw level (s.road.gates.get g) :=
  (switched_get ..).trans (if_pos rfl)

theorem switched_state (s : State) (g j : GateId) (sw : Switch) (level : Bool) :
    ((switched s g sw level).road.gates.get j).state = (s.road.gates.get j).state := by
  rw [switched_get]
  split
  · next h => subst h; exact setSwitch_state ..
  · rfl

/-- END_SWITCH_CHANGE of a level that the switch does not have (R30, R64). -/
theorem exec_endSwitchChange {g : GateId} {sw : Switch} {level : Bool} {s : State}
    (h : ((s.road.gates.get g).switch sw).level ≠ level) : exec (.endSwitchChange g sw level) s =
      .next (s.event fun e => e.onRoad fun ctx => RoadEv.switchChange ctx g sw level) :=
  congrArg Host.Outcome.next (if_neg h)

/-- What an accepted change of an end switch leaves beside the gate's own step. -/
theorem switchChange_event (g : GateId) (sw : Switch) (level : Bool) (s : State) :
    let r := RoadEv.chain s.roadCtx (switchStep g sw level (switched s g sw level))
    let t := s.event fun e => e.onRoad fun ctx => RoadEv.switchChange ctx g sw level
    KeepsBut [.links, .road, .board] s t ∧ HoldsStand s t ∧ Gains r.flags s t ∧
      Within (Attn.segment ||| Attn.gate) r.flags ∧ t.road.gates = r.road.gates ∧
      (∀ i, Option.Rel Confirms (r.road.segs.get i) (t.road.segs.get i)) ∧ RoadFrame (switched s g sw level).road r.road := by
  have hframe := RoadEv.switchChange_frame s.roadCtx g sw level (roadStart s)
  obtain ⟨hk, hg, hw, hgates, hc⟩ := event_onRoad_spec s (fun ctx => RoadEv.switchChange ctx g sw level)
    fun ctx x => RoadEv.switchChange_grow ctx g sw level x
  exact ⟨hk, fun j => (rel_confirms_holds (hc j)).trans (hframe.holds j), hg, hw, hgates, hc, hframe⟩

open RoadEv (Lands afterLanding restOf)

/-- A gate that its changed switch brings to its target, not EARLY, lands. -/
theorem lands_of_onTarget {y : Gate} {sw : Switch} {level : Bool} (h : OnTarget (setSwitch sw level y) sw level)
    (hl : ¬ Early (setSwitch sw level y)) : ∃ d, Lands d (setSwitch sw level y) := by
  obtain ⟨ht, rfl, hb⟩ := h
  cases sw with
  | raised => exact ⟨.raise, hl, target_raised ht, reading_of_raised hb⟩
  | lowered => exact ⟨.lower, hl, target_lowered ht, reading_of_lowered hb⟩

theorem not_both_of_displaces {y : Gate} {sw : Switch} {level : Bool} (h : Displaces (setSwitch sw level y) sw level) :
    (setSwitch sw level y).reading ≠ .both := by
  rcases h with ⟨_, _, rfl⟩ | ⟨_, _, rfl⟩ <;> exact not_both_of_drop sw y

/-- GATE attention of a switch change tells exactly of a gate whose state has changed (R43). -/
theorem switchStep_tells (ctx : RoadCtx) (s : State) (g : GateId) (sw : Switch) (level : Bool) :
    let r := RoadEv.chain ctx (switchStep g sw level (switched s g sw level))
    Includes Attn.gate r.flags ↔ ∃ j, (r.road.gates.get j).state ≠ (s.road.gates.get j).state := by
  dsimp only
  have hold := switched_self s g sw level
  have told : ∀ (x : Gate) (rest : List Task), (∃ j, ((RoadEv.chain ctx ((switched s g sw level).gateTo g x rest)).road.gates.get j).state
      ≠ ((switched s g sw level).road.gates.get j).state) →
      (Includes Attn.gate (RoadEv.chain ctx ((switched s g sw level).gateTo g x rest)).flags ↔
        ∃ j, ((RoadEv.chain ctx ((switched s g sw level).gateTo g x rest)).road.gates.get j).state ≠
          (s.road.gates.get j).state) := by
    intro x rest h
    refine iff_of_true ((RoadEv.chain_grow ..).includes (RoadEv.gateTo_includes ..)) ?_
    obtain ⟨j, hj⟩ := h
    exact ⟨j, by rwa [switched_state] at hj⟩
  have fails : ∀ (c : GateFault) (rest : List Task), ((switched s g sw level).road.gates.get g).state ≠ .fault →
      ∃ j, ((RoadEv.chain ctx ((switched s g sw level).gateTo g (((switched s g sw level).road.gates.get g).fail c) rest)).road.gates.get
        j).state ≠ ((switched s g sw level).road.gates.get j).state := fun c rest hs =>
    ⟨g, by rw [(RoadEv.chain_fail ctx _ g _ c rest).1]; exact hs.symm⟩
  rcases RoadEv.switchStep_cases g sw level (switched s g sw level) with ⟨h, _⟩ | ⟨c, h, hs⟩ | ⟨h, ht⟩ <;> rw [h]
  · refine iff_of_false (fun hi => ?_) ?_
    · have : (0 : FlagSet) &&& Attn.gate = Attn.gate := hi
      revert this
      decide
    · rintro ⟨j, hj⟩
      exact hj (switched_state ..)
  · exact told _ _ (fails c [] hs)
  · by_cases he : Early ((switched s g sw level).road.gates.get g)
    · rw [RoadEv.arrival_early he]
      refine told _ _ (fails .early _ fun hf => ?_)
      rw [OnTarget, hf] at ht
      cases ht.1
    · obtain ⟨d, hl⟩ := lands_of_onTarget (hold ▸ ht) (hold ▸ he)
      exact told _ _ (RoadEv.arrival_changes ctx (hold.symm ▸ hl))

theorem switched_gates (s : State) (g : GateId) (sw : Switch) (level : Bool) :
    (switched s g sw level).road.gates = put s.road.gates g (setSwitch sw level (s.road.gates.get g)) := rfl

/-- The gate that lands on a quiet or lawful road. -/
theorem switched_lands (ctx : RoadCtx) {s : State} {g : GateId} {sw : Switch} {level : Bool} {d : Demand}
    (h : Lands d (setSwitch sw level (s.road.gates.get g)))
    (hq : Quiet s.road (setSwitch sw level (s.road.gates.get g)) ∨ RoadLaw s) :
    (RoadEv.chain ctx ((switched s g sw level).arrival g)).road.gates.get g =
      afterLanding d (setSwitch sw level (s.road.gates.get g)) := by
  have hold := switched_self s g sw level
  rw [← hold] at h ⊢
  rcases hq with hq | ⟨⟨h1, h2, h3⟩, hd⟩
  · exact RoadEv.arrival_quiet ctx h (hold.symm ▸ hq)
  · have hsame : ∀ j, ((switched s g sw level).road.gates.get j).listing = (s.road.gates.get j).listing ∧
        ((switched s g sw level).road.gates.get j).demand = (s.road.gates.get j).demand ∧
        ((switched s g sw level).road.gates.get j).raiseDrive = (s.road.gates.get j).raiseDrive := by
      intro j
      rw [switched_get]
      split
      · next hj => subst hj; cases sw <;> exact ⟨rfl, rfl, rfl⟩
      · exact ⟨rfl, rfl, rfl⟩
    refine RoadEv.arrival_lawful ctx h ⟨fun j => ?_, fun i sg hi => ?_, fun j i hi => ?_⟩ fun j => ?_
    · rw [(hsame j).1]; exact h1 j
    · obtain ⟨hn, hl, hm⟩ := h2 i sg hi
      exact ⟨hn, hl, fun j => by rw [(hsame j).1]; exact hm j⟩
    · rw [(hsame j).1] at hi; exact h3 j i hi
    · obtain ⟨ha, hb, hc⟩ := hd j
      rw [(hsame j).2.1, (hsame j).2.2, switched_state]
      exact ⟨ha.trans (RoadEv.demandOf_congr (hsame j).1 fun _ => rfl).symm, hb, hc⟩

/-- A switch change that the gate takes no step on is recorded, and the event changes nothing else. -/
theorem event_switched_stays {s : State} {g : GateId} {sw : Switch} {level : Bool}
    (h : switchStep g sw level (switched s g sw level) = (switched s g sw level, [])) :
    let t := s.event fun e => e.onRoad fun ctx => RoadEv.switchChange ctx g sw level
    t.road = (switched s g sw level).road ∧ t.board = s.board := by
  have hrun : RoadEv.switchChange s.roadCtx g sw level (roadStart s) = switched s g sw level := by
    show RoadEv.chain s.roadCtx (switchStep g sw level (switched s g sw level)) = _
    rw [h, RoadEv.chain_eq, RoadEv.run_nil]
  have hst := onRoad_spec (fun ctx => RoadEv.switchChange ctx g sw level) (Ev.start s)
  have hquiet : setIds ((Ev.start s).onRoad fun ctx => RoadEv.switchChange ctx g sw level).raised = [] := by
    show setIds (Ev.raiseSegs (setIds (RoadEv.switchChange s.roadCtx g sw level (roadStart s)).touched) _).raised = []
    rw [hrun]
    rfl
  dsimp only
  rw [State.event, finish_quiet _ hquiet rfl]
  exact ⟨hst.1.trans (congrArg RoadEv.road hrun), hst.2.1 .board (by decide)⟩

/-- The arrival at RAISED of the single gate of an OPENING segment opens it; an EARLY one aborts the opening (R19, R20). -/
theorem endSwitch_ends_opening {g : GateId} {i : SegId} {s : State} {sg : Segment} (hi : s.road.segs.get i = some sg)
    (hs : sg.state = .opening) (hg : sg.gates = [g]) (hlist : (s.road.gates.get g).listing = [i])
    (hst : (s.road.gates.get g).state = .raising) (hd : (s.road.gates.get g).demand = .raise)
    (hlow : (s.road.gates.get g).loweredSwitch.level = false) (hup : (s.road.gates.get g).raisedSwitch.level = false) :
    ∃ t sg', exec (.endSwitchChange g .raised true) s = .next t ∧ t.road.segs.get i = some sg' ∧ sg'.holds = sg.holds ∧
      (Early (s.road.gates.get g) → FaultWith .early (t.road.gates.get g) ∧ sg'.state = .closed ∧ sg'.incomplete = true) ∧
      (¬ Early (s.road.gates.get g) → (t.road.gates.get g).state = .raised ∧ (t.road.gates.get g).raiseDrive = false ∧
        sg'.state = .opened ∧ sg'.incomplete = sg.incomplete) := by
  have hne : ((s.road.gates.get g).switch .raised).level ≠ true := by
    show (s.road.gates.get g).raisedSwitch.level ≠ true
    rw [hup]
    decide
  obtain ⟨hk, hh, hgain, hw, hgates, hc, hframe⟩ := switchChange_event g .raised true s
  have hold := switched_self s g .raised true
  have ht : OnTarget ((switched s g .raised true).road.gates.get g) .raised true := by
    rw [hold]
    refine ⟨by rw [setSwitch_state, hst]; rfl, rfl, fun h => ?_⟩
    cases hlow.symm.trans (reading_both.1 h).2
  rw [RoadEv.switchStep_arrives ht] at hgates hc
  by_cases he : Early (s.road.gates.get g)
  · rw [RoadEv.arrival_early (by rw [hold]; exact he), hold] at hgates hc
    obtain ⟨sg', hsg', hcf⟩ := rel_some (hc i) (RoadEv.chain_aborts s.roadCtx hi hs hg hlist rfl hd)
    rw [hcf.eq (nofun)] at hsg'
    exact ⟨_, _, exec_endSwitchChange hne, hsg', rfl,
      fun _ => ⟨by rw [hgates]; exact RoadEv.chain_fail .., rfl, rfl⟩, fun h => absurd he h⟩
  · have hl : Lands .raise ((switched s g .raised true).road.gates.get g) := by
      rw [hold]
      exact ⟨he, hst, reading_of_raised (hold ▸ ht).2.2⟩
    rw [RoadEv.arrival_lands hl, hold] at hgates hc
    obtain ⟨h1, h2⟩ := RoadEv.chain_opens s.roadCtx (e := switched s g .raised true) (g := g)
      (x := (RoadEv.setSwitch .raised true (s.road.gates.get g)).rest .raised) hi hs hg hlist rfl hd
    obtain ⟨sg', hsg', hcf⟩ := rel_some (hc i) h1
    rw [hcf.eq (nofun)] at hsg'
    refine ⟨_, _, exec_endSwitchChange hne, hsg', rfl,
      fun h => absurd h he, fun _ => ?_⟩
    rw [hgates]
    exact ⟨by rw [show restOf .raise = .raised from rfl, h2]; rfl, by rw [show restOf .raise = .raised from rfl, h2]; rfl, rfl, rfl⟩

/-- The arrival at LOWERED of the single gate of a CLOSING segment, or its FAULT in the same event, closes it (R15, R42). -/
theorem endSwitch_ends_closing {g : GateId} {i : SegId} {s : State} {sg : Segment} (hi : s.road.segs.get i = some sg)
    (hs : sg.state = .closing) (hg : sg.gates = [g]) (hlist : (s.road.gates.get g).listing = [i])
    (hst : (s.road.gates.get g).state = .lowering)
    (hlow : (s.road.gates.get g).loweredSwitch.level = false) :
    ∃ t sg', exec (.endSwitchChange g .lowered true) s = .next t ∧ t.road.segs.get i = some sg' ∧
      sg'.state = .closed ∧ sg'.holds = sg.holds ∧
      sg'.incomplete = ((s.road.gates.get g).raisedSwitch.level ||
        ((s.road.gates.get g).check == some .checked &&
          decide ((s.road.gates.get g).timer.getD 0 < (s.road.gates.get g).tMin * 1000))) := by
  have hne : ((s.road.gates.get g).switch .lowered).level ≠ true := by
    show (s.road.gates.get g).loweredSwitch.level ≠ true
    rw [hlow]
    decide
  obtain ⟨hk, hh, hgain, hw, hgates, hc, hframe⟩ := switchChange_event g .lowered true s
  have hold := switched_self s g .lowered true
  have hexec := exec_endSwitchChange (g := g) (sw := .lowered) (level := true) (s := s) hne
  have closes : ∀ (x : Gate) (rest : List Task), x.listing = [i] → x.downOrFault = true →
      RoadEv.switchStep g .lowered true (switched s g .lowered true) = (switched s g .lowered true).gateTo g x rest →
      ∃ t sg', exec (.endSwitchChange g .lowered true) s = .next t ∧ t.road.segs.get i = some sg' ∧
        sg'.state = .closed ∧ sg'.holds = sg.holds ∧ sg'.incomplete = (x.state == .fault) := by
    intro x rest hlx hdx hstep
    rw [hstep] at hc
    obtain ⟨sg', hsg', hcf⟩ := rel_some (hc i) (RoadEv.chain_closes s.roadCtx (e := switched s g .lowered true) (g := g)
      rest hi hs hg hlx hdx)
    rw [hcf.eq (nofun)] at hsg'
    exact ⟨_, _, hexec, hsg', rfl, rfl, rfl⟩
  cases hup : (s.road.gates.get g).raisedSwitch.level with
  | true =>
    refine closes _ _ ?_ ?_ (RoadEv.switchStep_conflicts (fun h => ?_) ?_)
    · rw [hold]; exact hlist
    · rfl
    · rw [hold] at h
      exact not_both_of_displaces h (reading_both.2 ⟨hup, rfl⟩)
    · rw [hold]
      exact ⟨Or.inr (Or.inr (Or.inr hst)), reading_both.2 ⟨hup, rfl⟩⟩
  | false =>
    have ht : OnTarget ((switched s g .lowered true).road.gates.get g) .lowered true := by
      rw [hold]
      refine ⟨by rw [setSwitch_state, hst]; rfl, rfl, fun h => ?_⟩
      cases hup.symm.trans (reading_both.1 h).1
    have hstep := RoadEv.switchStep_arrives ht
    by_cases he : Early (s.road.gates.get g)
    · rw [RoadEv.arrival_early (by rw [hold]; exact he), hold] at hstep
      have h := closes ((RoadEv.setSwitch .lowered true (s.road.gates.get g)).fail .early) _ hlist rfl hstep
      have hflag : ((s.road.gates.get g).check == some .checked &&
          decide ((s.road.gates.get g).timer.getD 0 < (s.road.gates.get g).tMin * 1000)) = true := by
        simpa [Early, Gate.tMinMs] using he
      rw [hflag]
      exact h
    · have hl : Lands .lower ((switched s g .lowered true).road.gates.get g) := by
        rw [hold]
        exact ⟨he, hst, reading_of_lowered (hold ▸ ht).2.2⟩
      rw [RoadEv.arrival_lands hl, hold] at hstep
      have h := closes ((RoadEv.setSwitch .lowered true (s.road.gates.get g)).rest .lowered) _ hlist rfl hstep
      have hflag : ((s.road.gates.get g).check == some .checked &&
          decide ((s.road.gates.get g).timer.getD 0 < (s.road.gates.get g).tMin * 1000)) = false := by
        simpa [Early, Gate.tMinMs] using he
      rw [hflag]
      exact h

end Sys2Proof.Machine

open Sys2Proof Sys2Proof.Machine

/-- Settles O18: the step of the gate by cases, and the chain that follows it; an arrival never ends where it began. -/
theorem endSwitchChangeMovesTheGate : Obligations.EndSwitchChangeMovesTheGate := by
  refine ⟨fun g sw level s hne => ?_, fun g i s sg => endSwitch_ends_opening,
    fun g i s sg hi hs hg hlist hst _ hlow => endSwitch_ends_closing hi hs hg hlist hst hlow⟩
  obtain ⟨hk, hh, hgain, hw, hgates, hc, hframe⟩ := switchChange_event g sw level s
  have hold := switched_self s g sw level
  have stays : ¬ Displaces (RoadEv.setSwitch sw level (s.road.gates.get g)) sw level →
      ¬ Conflicts (RoadEv.setSwitch sw level (s.road.gates.get g)) →
      ¬ OnTarget (RoadEv.setSwitch sw level (s.road.gates.get g)) sw level →
      RoadEv.switchStep g sw level (switched s g sw level) = (switched s g sw level, []) := by
    intro h1 h2 h3
    rw [← hold] at h1 h2 h3
    exact RoadEv.switchStep_stays h1 h2 h3
  have stays_gates : RoadEv.switchStep g sw level (switched s g sw level) = (switched s g sw level, []) →
      (RoadEv.chain s.roadCtx (RoadEv.switchStep g sw level (switched s g sw level))).road.gates =
        put s.road.gates g (RoadEv.setSwitch sw level (s.road.gates.get g)) := by
    intro h
    rw [h, RoadEv.chain_eq, RoadEv.run_nil]
    rfl
  refine ⟨_, exec_endSwitchChange hne, hk, hh, ⟨_, hgain, hw, ?_⟩, ?_, ?_, fun j hj => ?_, fun h => ?_, fun h1 h2 => ?_,
    fun h1 h2 => ?_, fun h1 h2 hq => ?_, fun h1 h2 h3 => ?_, fun h1 h2 h3 => ?_, fun h1 => ?_⟩
  · rw [hgates]
    exact switchStep_tells s.roadCtx s g sw level
  · rw [hgates, hframe.raisedSwitch, hold]
  · rw [hgates, hframe.loweredSwitch, hold]
  · rw [hgates, hframe.raisedSwitch, hframe.loweredSwitch, switched_get, if_neg (Ne.symm hj)]
    exact ⟨rfl, rfl⟩
  · rw [hgates, RoadEv.switchStep_displaces (by rw [hold]; exact h)]
    exact RoadEv.chain_fail ..
  · rw [hgates, RoadEv.switchStep_conflicts (by rw [hold]; exact fun h => not_both_of_displaces h h2)
      (by rw [hold]; exact ⟨h1, h2⟩)]
    exact RoadEv.chain_fail ..
  · rw [hgates, RoadEv.switchStep_arrives (by rw [hold]; exact h1), RoadEv.arrival_early (by rw [hold]; exact h2)]
    exact RoadEv.chain_fail ..
  · obtain ⟨d, hl⟩ := lands_of_onTarget h1 h2
    have hnew := switched_lands s.roadCtx hl hq
    rw [hgates, RoadEv.switchStep_arrives (by rw [hold]; exact h1), hnew]
    constructor <;> intro hs
    · obtain rfl : d = .raise := by
        cases d with
        | raise => rfl
        | lower => cases hs.symm.trans hl.state
      rfl
    · obtain rfl : d = .lower := by
        cases d with
        | lower => rfl
        | raise => cases hs.symm.trans hl.state
      rfl
  · rw [hgates]
    refine stays_gates (stays (fun h => ?_) (fun h => h2 h.2) h3)
    rcases h with ⟨h, _⟩ | ⟨h, _⟩ <;> rw [h] at h1 <;> cases h1
  · rw [hgates]
    refine stays_gates (stays (fun h => h3 ?_) (fun h => h2 h.2) fun h => ?_)
    · exact h.elim (fun ⟨a, b, c⟩ => ⟨Or.inl ⟨a, b⟩, c⟩) fun ⟨a, b, c⟩ => ⟨Or.inr ⟨a, b⟩, c⟩
    · rcases h1 with h1 | h1 <;> rw [OnTarget, h1] at h <;> cases h.1
  · refine event_switched_stays (stays (fun h => ?_) (fun h => ?_) fun h => ?_)
    · rcases h1 with h1 | h1 <;> rcases h with ⟨h, _⟩ | ⟨h, _⟩ <;> cases h1.symm.trans h
    · rcases h1 with h1 | h1 <;> rcases h.1 with h | h | h | h <;> cases h1.symm.trans h
    · rcases h1 with h1 | h1 <;> rw [OnTarget, h1] at h <;> cases h.1

end

section
/-! The opening of a segment on a lawful road: the chain of R42 that a REOPEN starts raises the gates that no other listing
segment holds down, puts no gate in FAULT, and ends with the segment OPEN exactly when every gate was done (R18, R19, R32). -/

namespace Sys2Proof.Machine

open RoadEv (entered doTask)

-- ---------------------------------------------------------------- the laws of the road and its frame

theorem RoadFrame.gates {r r' : Road} (h : RoadFrame r r') {i : SegId} {sg' : Segment} (hi : r'.segs.get i = some sg') :
    ∃ sg, r.segs.get i = some sg ∧ sg.gates = sg'.gates := by
  have hk := h.1 i
  rw [hi] at hk
  cases hr : r.segs.get i with
  | none => rw [hr] at hk; cases hk
  | some sg =>
    rw [hr] at hk
    have hg := congrArg (Option.map Segment.gates) hk
    exact ⟨sg, rfl, (Option.some.inj hg).symm⟩

/-- The lists that segments and gates keep of each other stand with the frame (R2, R29). -/
theorem RoadFrame.listsAgree {r r' : Road} (h : RoadFrame r r') (hl : ListsAgree r) : ListsAgree r' := by
  obtain ⟨h1, h2, h3⟩ := hl
  refine ⟨fun g => ?_, fun i sg' hi => ?_, fun g i hi => ?_⟩
  · rw [h.listing]
    exact h1 g
  · obtain ⟨sg, hs, hg⟩ := h.gates hi
    obtain ⟨a, b, c⟩ := h2 i sg hs
    rw [← hg]
    exact ⟨a, b, fun g => by rw [h.listing]; exact c g⟩
  · rw [h.listing] at hi
    rw [h.configured]
    exact h3 g i hi

-- ---------------------------------------------------------------- a road on which an opening has begun

/-- A road on which segment `i` has just entered OPENING: a gate whose demand its segments no longer give is listed by it, under
a LOWER demand that has become RAISE, and can leave LOWERED. -/
structure OpeningBegun (o : Road) (i : SegId) (sg : Segment) : Prop where
  lists : ListsAgree o
  seg : o.segs.get i = some sg
  opening : sg.state = .opening
  flips : ∀ g, (o.gates.get g).demand ≠ o.demandOf (o.gates.get g) → g ∈ sg.gates ∧ (o.gates.get g).demand = .lower ∧
    o.demandOf (o.gates.get g) = .raise ∧
    ((o.gates.get g).state = .lowered → (o.gates.get g).raisedSwitch.level = false)

/-- Every gate of the segment was done as the opening began: RAISED, or held down by another listing segment (R19). -/
def DoneAtOnce (o : Road) (sg : Segment) : Prop :=
  ∀ g ∈ sg.gates, (o.gates.get g).state = .raised ∨ o.demandOf (o.gates.get g) = .lower

/-- What an opening can make of a gate whose segments demand `d`: nothing, or its demand flips to RAISE, and a LOWERED gate then
leaves in a CHECKED travel (R32, R33). -/
def OpeningGate (d : Demand) (x x' : Gate) : Prop :=
  x' = x ∨ (x.demand = .lower ∧ d = .raise ∧
    (x' = { x with demand := .raise } ∨ (x.state = .lowered ∧ x' = RoadEv.departed .raise x)))

/-- The tasks of an opening. -/
def OpeningTask (o : Road) (e : RoadEv) : Task → Prop
  | .demand _ => True
  | .done _ => True
  | .apply g => (o.gates.get g).demand = .lower ∧ o.demandOf (o.gates.get g) = .raise ∧ (e.road.gates.get g).demand = .raise
  | .settle g => (o.gates.get g).demand = .lower ∧ o.demandOf (o.gates.get g) = .raise ∧ (o.gates.get g).state = .lowered ∧
      e.road.gates.get g = RoadEv.departed .raise (o.gates.get g)
  | .handed g fault => fault = false ∧ o.demandOf (o.gates.get g) = .raise
  | .complete _ => False
  | .resolve _ => False

/-- The chain within an opening that began on the road `o`. -/
structure Opening (o : Road) (i : SegId) (sg : Segment) (e : RoadEv) (tasks : List Task) : Prop where
  frame : RoadFrame o e.road
  holds : ∀ j, e.road.holdsDown j = o.holdsDown j
  gate : ∀ g, OpeningGate (o.demandOf (o.gates.get g)) (o.gates.get g) (e.road.gates.get g)
  pending : ∀ g, (e.road.gates.get g).demand = o.demandOf (o.gates.get g) ∨ Task.demand g ∈ tasks
  task : ∀ t ∈ tasks, OpeningTask o e t
  seg : (e.road.segs.get i = some sg ∧ (DoneAtOnce o sg → Task.done i ∈ tasks)) ∨
    (e.road.segs.get i = some (entered .opened sg) ∧ DoneAtOnce o sg)

theorem OpeningGate.raised {d : Demand} {x x' : Gate} (h : OpeningGate d x x') : x'.state = .raised ↔ x.state = .raised := by
  rcases h with rfl | ⟨_, _, rfl | ⟨hs, rfl⟩⟩
  · rfl
  · rfl
  · rw [hs]
    exact iff_of_false nofun nofun

/-- No gate of an opening enters or leaves FAULT. -/
theorem OpeningGate.fault {d : Demand} {x x' : Gate} (h : OpeningGate d x x') : x'.state = .fault ↔ x.state = .fault := by
  rcases h with rfl | ⟨_, _, rfl | ⟨hs, rfl⟩⟩
  · rfl
  · rfl
  · rw [hs]
    exact iff_of_false nofun nofun

theorem OpeningGate.lowered {d : Demand} {x x' : Gate} (h : OpeningGate d x x') (hs : x'.state = .lowered) :
    x.state = .lowered := by
  rcases h with rfl | ⟨_, _, rfl | ⟨hl, _⟩⟩
  · exact hs
  · exact hs
  · exact hl

/-- The raising drive of a gate under an opening is ON only in RAISING, under a RAISE demand (R31). -/
theorem OpeningGate.drive {d : Demand} {x x' : Gate} (h : OpeningGate d x x')
    (h1 : x.raiseDrive = true → x.state = .raising) (h2 : x.state = .raising → x.demand = .raise) :
    (x'.raiseDrive = true → x'.state = .raising) ∧ (x'.state = .raising → x'.demand = .raise) := by
  rcases h with rfl | ⟨_, _, rfl | ⟨_, rfl⟩⟩
  · exact ⟨h1, h2⟩
  · exact ⟨h1, fun _ => rfl⟩
  · exact ⟨fun _ => rfl, fun _ => rfl⟩

/-- A task of an opening stays one while gates only take the opening's next step. -/
theorem OpeningTask.mono {o : Road} {e e' : RoadEv} {t : Task} (h : OpeningTask o e t)
    (hg : ∀ g, e'.road.gates.get g = e.road.gates.get g ∨
      ((e'.road.gates.get g).demand = .raise ∧ e.road.gates.get g ≠ RoadEv.departed .raise (o.gates.get g))) :
    OpeningTask o e' t := by
  cases t with
  | demand g => trivial
  | done j => trivial
  | handed g fault => exact h
  | complete j => exact h
  | resolve g => exact h
  | apply g =>
    obtain ⟨h1, h2, h3⟩ := h
    refine ⟨h1, h2, ?_⟩
    rcases hg g with h | h
    · rw [h]; exact h3
    · exact h.1
  | settle g =>
    obtain ⟨h1, h2, h3, h4⟩ := h
    refine ⟨h1, h2, h3, ?_⟩
    rcases hg g with h | h
    · rw [h]; exact h4
    · exact absurd h4 h.2

-- ---------------------------------------------------------------- what the chain of an opening weighs

/-- The steps that a task of an opening can bring about, itself among them. -/
def taskWeight : Task → Nat
  | .demand _ => 6
  | .apply _ => 5
  | .handed _ _ => 3
  | _ => 1

/-- The segments in OPENING. -/
def openings (r : Road) : Finset SegId := Finset.univ.filter fun j => r.segState j = some .opening

/-- The steps that an opening still has before it: those of its tasks, and those of each end of an opening. -/
def openingWeight (e : RoadEv) (tasks : List Task) : Nat := (tasks.map taskWeight).sum + 20 * (openings e.road).card

theorem openings_card_le (r : Road) : (openings r).card ≤ 8 :=
  (Finset.card_le_univ _).trans (by simp)

theorem openings_congr {r r' : Road} (h : r'.segs = r.segs) : openings r' = openings r := by
  unfold openings Road.segState
  rw [h]

theorem sum_map_const {α : Type} (l : List α) (f : α → Task) (w : Nat) (h : ∀ x, taskWeight (f x) = w) :
    ((l.map f).map taskWeight).sum = w * l.length := by
  induction l with
  | nil => rfl
  | cons x l ih =>
    rw [List.map_cons, List.map_cons, List.sum_cons, ih, h, List.length_cons, Nat.mul_succ, Nat.add_comm]

theorem neighbours_length (e : RoadEv) (i : SegId) (l : List GateId) : (RoadEv.neighbours e i l).length ≤ 8 :=
  (List.length_filter_le ..).trans (by simp)

-- ---------------------------------------------------------------- one task of an opening

theorem Opening.demandOf {o : Road} {i : SegId} {sg : Segment} {e : RoadEv} {tasks : List Task} (h : Opening o i sg e tasks)
    (g : GateId) : e.road.demandOf (e.road.gates.get g) = o.demandOf (o.gates.get g) :=
  RoadEv.demandOf_congr (h.frame.listing g) h.holds

/-- Whether a gate is done for the opening stands from its beginning. -/
theorem Opening.gateDone_iff {o : Road} {i : SegId} {sg : Segment} {e : RoadEv} {tasks : List Task}
    (hb : OpeningBegun o i sg) (h : Opening o i sg e tasks) {g : GateId} (hg : g ∈ sg.gates) :
    e.gateDone i g = true ↔ (o.gates.get g).state = .raised ∨ o.demandOf (o.gates.get g) = .lower := by
  have hi : o.holdsDown i = false := by
    rw [RoadEv.holdsDown_eq, segState_some hb.seg, hb.opening]
    rfl
  have hin : i ∈ (o.gates.get g).listing := ((hb.lists.2.1 i sg hb.seg).2.2 g).1 hg
  have hany : ((e.road.gates.get g).listing.any fun j => j != i && e.road.holdsDown j) = true ↔
      o.demandOf (o.gates.get g) = .lower := by
    have hsame : ((e.road.gates.get g).listing.any fun j => j != i && e.road.holdsDown j) =
        (o.gates.get g).listing.any o.holdsDown := by
      rw [h.frame.listing]
      refine congrArg (fun p => (o.gates.get g).listing.any p) (funext fun j => ?_)
      rw [h.holds]
      by_cases hj : j = i
      · subst hj; simp [hi]
      · simp [hj]
    rw [hsame, Road.demandOf]
    have hne : (o.gates.get g).listing.isEmpty = false := by
      cases hl : (o.gates.get g).listing with
      | nil => rw [hl] at hin; cases hin
      | cons a l => rfl
    rw [hne]
    cases (o.gates.get g).listing.any o.holdsDown <;> simp
  have hdem : o.demandOf (o.gates.get g) = .lower → (e.road.gates.get g).demand = .lower := by
    intro hl
    rcases h.gate g with hx | ⟨_, hr, _⟩
    · rw [hx]
      by_contra hne
      have := (hb.flips g (by rw [hl]; exact hne)).2.2.1
      rw [hl] at this
      cases this
    · rw [hl] at hr
      cases hr
  unfold RoadEv.gateDone
  simp only [Bool.or_eq_true, Bool.and_eq_true, beq_iff_eq, (h.gate g).raised]
  rw [hany]
  exact or_congr_right ⟨And.right, fun hl => ⟨hdem hl, hl⟩⟩

/-- A task that is no end of an opening keeps the invariant, given what it makes of the gates and the tasks it brings about. -/
theorem Opening.advance {o : Road} {i : SegId} {sg : Segment} {ctx : RoadCtx} {e : RoadEv} {t : Task} {rest : List Task}
    (h : Opening o i sg e (t :: rest))
    (hgate : ∀ g, (doTask ctx t e).1.road.gates.get g = e.road.gates.get g ∨
      (((doTask ctx t e).1.road.gates.get g).demand = .raise ∧
        e.road.gates.get g ≠ RoadEv.departed .raise (o.gates.get g) ∧
        OpeningGate (o.demandOf (o.gates.get g)) (o.gates.get g) ((doTask ctx t e).1.road.gates.get g)))
    (hpend : ∀ g, ((doTask ctx t e).1.road.gates.get g).demand = o.demandOf (o.gates.get g) ∨
      (((doTask ctx t e).1.road.gates.get g).demand = (e.road.gates.get g).demand ∧ t ≠ .demand g))
    (htask : ∀ t' ∈ (doTask ctx t e).2, OpeningTask o (doTask ctx t e).1 t')
    (hseg : ((doTask ctx t e).1.road.segs.get i = some sg ∧ (DoneAtOnce o sg → Task.done i ∈ (doTask ctx t e).2 ++ rest)) ∨
      ((doTask ctx t e).1.road.segs.get i = some (entered .opened sg) ∧ DoneAtOnce o sg)) :
    Opening o i sg (doTask ctx t e).1 ((doTask ctx t e).2 ++ rest) := by
  refine ⟨h.frame.trans' (RoadEv.doTask_frame ctx t e), fun j => ?_, fun g => ?_, fun g => ?_, fun t' ht' => ?_, hseg⟩
  · rw [RoadEv.doTask_holdsDown ctx t e _ j, h.holds]
    intro g hg
    have := h.task t (by simp)
    rw [hg] at this
    cases this.1
  · rcases hgate g with hg | ⟨_, _, hg⟩
    · rw [hg]; exact h.gate g
    · exact hg
  · rcases hpend g with hg | ⟨hg, hne⟩
    · exact Or.inl hg
    · rw [hg]
      refine (h.pending g).imp_right fun hm => List.mem_append_right _ ?_
      exact (List.mem_cons.1 hm).resolve_left (Ne.symm hne)
  · rcases List.mem_append.1 ht' with hm | hm
    · exact htask t' hm
    · exact (h.task t' (List.mem_cons_of_mem _ hm)).mono fun g => (hgate g).imp_right fun ⟨a, b, _⟩ => ⟨a, b⟩

/-- The same for a task that leaves the segments and is no judgement of the segment that opens. -/
theorem Opening.seg_of_segs {o : Road} {i : SegId} {sg : Segment} {e e' : RoadEv} {t : Task} {ts rest : List Task}
    (h : Opening o i sg e (t :: rest)) (hs : e'.road.segs = e.road.segs) (ht : t ≠ .done i) :
    (e'.road.segs.get i = some sg ∧ (DoneAtOnce o sg → Task.done i ∈ ts ++ rest)) ∨
      (e'.road.segs.get i = some (entered .opened sg) ∧ DoneAtOnce o sg) := by
  rw [hs]
  refine h.seg.imp_left fun ⟨h1, h2⟩ => ⟨h1, fun hd => List.mem_append_right _ ?_⟩
  exact (List.mem_cons.1 (h2 hd)).resolve_left (Ne.symm ht)

/-- A task that does nothing leaves the invariant. -/
theorem Opening.idle {o : Road} {i : SegId} {sg : Segment} {ctx : RoadCtx} {e : RoadEv} {t : Task} {rest : List Task}
    (h : Opening o i sg e (t :: rest)) (hdo : doTask ctx t e = (e, []))
    (hp : ∀ g, t = .demand g → (e.road.gates.get g).demand = o.demandOf (o.gates.get g))
    (hd : t = .done i → e.road.segs.get i = some sg → ¬ DoneAtOnce o sg) :
    Opening o i sg (doTask ctx t e).1 ((doTask ctx t e).2 ++ rest) := by
  refine h.advance (fun g => Or.inl (by rw [hdo])) (fun g => ?_) (by rw [hdo]; simp) ?_
  · rw [hdo]
    by_cases ht : t = .demand g
    · exact Or.inl (hp g ht)
    · exact Or.inr ⟨rfl, ht⟩
  · rw [hdo]
    refine h.seg.imp_left fun ⟨h1, h2⟩ => ⟨h1, fun hdn => ?_⟩
    rcases List.mem_cons.1 (h2 hdn) with hm | hm
    · exact absurd hdn (hd hm.symm h1)
    · exact hm

theorem openingWeight_idle {ctx : RoadCtx} {e : RoadEv} {t : Task} {rest : List Task} (hdo : doTask ctx t e = (e, [])) :
    openingWeight (doTask ctx t e).1 ((doTask ctx t e).2 ++ rest) < openingWeight e (t :: rest) := by
  have hw : 1 ≤ taskWeight t := by cases t <;> simp [taskWeight]
  rw [hdo]
  simp only [openingWeight, List.nil_append, List.map_cons, List.sum_cons]
  omega

/-- A task that leaves the segments weighs more than what it brings about. -/
theorem openingWeight_segs {e e' : RoadEv} {t : Task} {ts rest : List Task} (hs : e'.road.segs = e.road.segs)
    (hw : (ts.map taskWeight).sum < taskWeight t) : openingWeight e' (ts ++ rest) < openingWeight e (t :: rest) := by
  simp only [openingWeight, openings_congr hs, List.map_append, List.sum_append, List.map_cons, List.sum_cons]
  omega

namespace Opening

variable {o : Road} {i : SegId} {sg : Segment} {ctx : RoadCtx} {e : RoadEv} {rest : List Task}

/-- A demand is judged: it stands, or it flips to RAISE. -/
theorem demand_task {g : GateId} (hb : OpeningBegun o i sg) (h : Opening o i sg e (.demand g :: rest)) :
    Opening o i sg (doTask ctx (.demand g) e).1 ((doTask ctx (.demand g) e).2 ++ rest) ∧
      openingWeight (doTask ctx (.demand g) e).1 ((doTask ctx (.demand g) e).2 ++ rest) <
        openingWeight e (.demand g :: rest) := by
  by_cases hflip : (e.road.gates.get g).demand = o.demandOf (o.gates.get g)
  · have hdo : doTask ctx (.demand g) e = (e, []) := if_pos ((h.demandOf g).trans hflip.symm)
    refine ⟨h.idle hdo (fun g' hg' => ?_) nofun, openingWeight_idle hdo⟩
    obtain rfl := Task.demand.inj hg'
    exact hflip
  · have hdo := RoadEv.doTask_demand_flips ctx (h.demandOf g) hflip
    have hx : e.road.gates.get g = o.gates.get g := by
      rcases h.gate g with hx | ⟨_, hr, hx | ⟨_, hx⟩⟩
      · exact hx
      · exact absurd (by rw [hx, hr]) hflip
      · exact absurd (by rw [hx, hr]; rfl) hflip
    obtain ⟨_, hlow, hraise, _⟩ := hb.flips g (by rwa [hx] at hflip)
    have hself : (doTask ctx (.demand g) e).1.road.gates.get g = { o.gates.get g with demand := .raise } := by
      rw [hdo]
      show (e.setGate g _).road.gates.get g = _
      rw [RoadEv.setGate_get, if_pos rfl, hx, hraise]
    have hother : ∀ g', g ≠ g' → (doTask ctx (.demand g) e).1.road.gates.get g' = e.road.gates.get g' := fun g' hg' => by
      rw [hdo]
      exact (RoadEv.setGate_get ..).trans (if_neg hg')
    refine ⟨h.advance (fun g' => ?_) (fun g' => ?_) ?_ (h.seg_of_segs (by rw [hdo]; rfl) nofun),
      openingWeight_segs (by rw [hdo]; rfl) (by rw [hdo]; simp [taskWeight])⟩
    · by_cases hg' : g = g'
      · subst hg'
        rw [hself, hx]
        refine Or.inr ⟨rfl, fun hd => ?_, Or.inr ⟨hlow, hraise, Or.inl rfl⟩⟩
        have := congrArg Gate.demand hd
        rw [hlow] at this
        cases this
      · exact Or.inl (hother g' hg')
    · by_cases hg' : g = g'
      · subst hg'
        rw [hself]
        exact Or.inl hraise.symm
      · rw [hother g' hg']
        exact Or.inr ⟨rfl, fun hd => hg' (Task.demand.inj hd)⟩
    · rw [hdo]
      intro t' ht'
      obtain rfl := List.mem_singleton.1 ht'
      rw [hdo] at hself
      exact ⟨hlow, hraise, by rw [hself]⟩

/-- A RAISE demand is applied: a LOWERED gate leaves in a CHECKED travel. -/
theorem apply_task {g : GateId} (h : Opening o i sg e (.apply g :: rest)) :
    Opening o i sg (doTask ctx (.apply g) e).1 ((doTask ctx (.apply g) e).2 ++ rest) ∧
      openingWeight (doTask ctx (.apply g) e).1 ((doTask ctx (.apply g) e).2 ++ rest) <
        openingWeight e (.apply g :: rest) := by
  obtain ⟨hlow, hraise, hdem⟩ := h.task (.apply g) (by simp)
  by_cases hs : (e.road.gates.get g).state = .lowered
  · obtain ⟨hx, hsx⟩ : e.road.gates.get g = { o.gates.get g with demand := .raise } ∧ (o.gates.get g).state = .lowered := by
      rcases h.gate g with hx | ⟨_, _, hx | ⟨_, hx⟩⟩
      · rw [hx, hlow] at hdem
        cases hdem
      · rw [hx] at hs
        exact ⟨hx, hs⟩
      · rw [hx] at hs
        cases hs
    have hdo : doTask ctx (.apply g) e = e.gateTo g (RoadEv.departed .raise (o.gates.get g)) [.settle g] := by
      simp only [doTask]
      rw [hdem, hs, hx]
      rfl
    have hself : (doTask ctx (.apply g) e).1.road.gates.get g = RoadEv.departed .raise (o.gates.get g) := by
      rw [hdo]
      exact (RoadEv.gateTo_get ..).trans (if_pos rfl)
    have hother : ∀ g', g ≠ g' → (doTask ctx (.apply g) e).1.road.gates.get g' = e.road.gates.get g' := fun g' hg' => by
      rw [hdo]
      exact (RoadEv.gateTo_get ..).trans (if_neg hg')
    refine ⟨h.advance (fun g' => ?_) (fun g' => ?_) ?_ (h.seg_of_segs (by rw [hdo]; rfl) nofun),
      openingWeight_segs (by rw [hdo]; rfl) (by rw [hdo]; simp [RoadEv.gateTo, taskWeight])⟩
    · by_cases hg' : g = g'
      · subst hg'
        rw [hself]
        refine Or.inr ⟨rfl, fun hd => ?_, Or.inr ⟨hlow, hraise, Or.inr ⟨hsx, rfl⟩⟩⟩
        rw [hd] at hs
        cases hs
      · exact Or.inl (hother g' hg')
    · by_cases hg' : g = g'
      · subst hg'
        rw [hself]
        exact Or.inl hraise.symm
      · rw [hother g' hg']
        exact Or.inr ⟨rfl, nofun⟩
    · rw [hdo]
      intro t' ht'
      rw [hdo] at hself
      rcases List.mem_cons.1 ht' with rfl | ht'
      · exact ⟨rfl, hraise⟩
      · obtain rfl := List.mem_singleton.1 ht'
        exact ⟨hlow, hraise, hsx, hself⟩
  · have hdo : doTask ctx (.apply g) e = (e, []) := by
      simp only [doTask]
      rw [hdem]
      split
      · next h _ => cases h
      · next h _ => cases h
      · next h => exact absurd h hs
      · rfl
    exact ⟨h.idle hdo nofun nofun, openingWeight_idle hdo⟩

/-- A travel that has just begun goes on, its target switch being INACTIVE. -/
theorem settle_task {g : GateId} (hb : OpeningBegun o i sg) (h : Opening o i sg e (.settle g :: rest)) :
    Opening o i sg (doTask ctx (.settle g) e).1 ((doTask ctx (.settle g) e).2 ++ rest) ∧
      openingWeight (doTask ctx (.settle g) e).1 ((doTask ctx (.settle g) e).2 ++ rest) <
        openingWeight e (.settle g :: rest) := by
  obtain ⟨hlow, hraise, hs, hx⟩ := h.task (.settle g) (by simp)
  obtain ⟨_, _, _, hsafe⟩ := hb.flips g (by rw [hlow, hraise]; decide)
  have hdo : doTask ctx (.settle g) e = (e, []) :=
    RoadEv.doTask_settle_goes_on ctx (d := .raise) (x := { o.gates.get g with demand := .raise }) hx ⟨hs, hsafe hs⟩
  exact ⟨h.idle hdo nofun nofun, openingWeight_idle hdo⟩

/-- The change of a gate that is to be raised is handed on: no listing segment is in CLOSING, and those in OPENING are judged. -/
theorem handed_task {g : GateId} {fault : Bool} (hb : OpeningBegun o i sg)
    (h : Opening o i sg e (.handed g fault :: rest)) :
    Opening o i sg (doTask ctx (.handed g fault) e).1 ((doTask ctx (.handed g fault) e).2 ++ rest) ∧
      openingWeight (doTask ctx (.handed g fault) e).1 ((doTask ctx (.handed g fault) e).2 ++ rest) <
        openingWeight e (.handed g fault :: rest) := by
  obtain ⟨rfl, hraise⟩ := h.task (.handed g fault) (by simp)
  obtain ⟨he, hts⟩ := RoadEv.handAll_false ctx e (e.road.gates.get g).listing
  have hlen := RoadEv.handAll_false_length ctx e (e.road.gates.get g).listing
  have h1 : (doTask ctx (.handed g false) e).1 = e := he
  have hnot := RoadEv.demandOf_eq_raise ((h.demandOf g).trans hraise)
  have hdone : ∀ t' ∈ (doTask ctx (.handed g false) e).2, ∃ j, t' = .done j := by
    intro t' ht'
    obtain ⟨j, hj, ⟨_, hs⟩ | ⟨rfl, _⟩⟩ := hts t' ht'
    · exact absurd hs (RoadEv.not_shut_of_holdsDown (hnot j hj)).1
    · exact ⟨j, rfl⟩
  refine ⟨h.advance (fun g' => Or.inl (by rw [h1])) (fun g' => Or.inr ⟨by rw [h1], nofun⟩) (fun t' ht' => ?_)
    (h.seg_of_segs (by rw [h1]) nofun), openingWeight_segs (by rw [h1]) ?_⟩
  · obtain ⟨j, rfl⟩ := hdone t' ht'
    trivial
  · have hsum : ((doTask ctx (.handed g false) e).2.map taskWeight).sum = (doTask ctx (.handed g false) e).2.length := by
      have hone := List.sum_eq_card_nsmul ((doTask ctx (.handed g false) e).2.map taskWeight) 1 fun w hw => by
        obtain ⟨t', ht', rfl⟩ := List.mem_map.1 hw
        obtain ⟨j, rfl⟩ := hdone t' ht'
        rfl
      simpa using hone
    have hl2 : (e.road.gates.get g).listing.length ≤ 2 := by
      rw [h.frame.listing]
      exact (hb.lists.1 g).2
    rw [hsum]
    show (RoadEv.handAll ctx false (e.road.gates.get g).listing e).2.length < 3
    omega

/-- An opening is judged: it waits, or it is done, and with it the segment's demands and its neighbours are judged. -/
theorem done_task {j : SegId} (hb : OpeningBegun o i sg) (h : Opening o i sg e (.done j :: rest)) :
    Opening o i sg (doTask ctx (.done j) e).1 ((doTask ctx (.done j) e).2 ++ rest) ∧
      openingWeight (doTask ctx (.done j) e).1 ((doTask ctx (.done j) e).2 ++ rest) <
        openingWeight e (.done j :: rest) := by
  by_cases hfire : ∃ sgj, e.road.segs.get j = some sgj ∧ sgj.state = .opening ∧ sgj.gates.all (e.gateDone j) = true
  · obtain ⟨sgj, hj, hs, hall⟩ := hfire
    have hdo : doTask ctx (.done j) e = (RoadEv.enteredEv e j .opened,
        sgj.gates.map .demand ++ (RoadEv.neighbours e j sgj.gates).map .done) := by
      have h1 : doTask ctx (.done j) e = RoadEv.enterSeg ctx e j .opened := by
        simp only [doTask]
        rw [hj]
        exact if_pos (by rw [hs, hall]; rfl)
      rw [h1, RoadEv.enterSeg_eq ctx hj (by decide)]
      simp [RoadEv.ownTasks]
    refine ⟨h.advance (fun g => Or.inl (by rw [hdo]; rfl)) (fun g => Or.inr ⟨by rw [hdo]; rfl, nofun⟩) ?_ ?_, ?_⟩
    · rw [hdo]
      intro t' ht'
      rcases List.mem_append.1 ht' with ht' | ht'
      · obtain ⟨g, _, rfl⟩ := List.mem_map.1 ht'
        trivial
      · obtain ⟨k, _, rfl⟩ := List.mem_map.1 ht'
        trivial
    · have hget : (doTask ctx (.done j) e).1.road.segs.get i =
          if j = i then some (entered .opened sgj) else e.road.segs.get i := by
        rw [show (doTask ctx (.done j) e).1 = RoadEv.enteredEv e j .opened by rw [hdo]]
        split
        · next hji => subst hji; exact RoadEv.enteredEv_get hj
        · next hji => exact (RoadEv.setSeg_get e j i _).trans (if_neg hji)
      rw [hget]
      by_cases hji : j = i
      · subst hji
        rw [if_pos rfl]
        rcases h.seg with ⟨hsg, _⟩ | ⟨hsg, hdn⟩
        · obtain rfl := Option.some.inj (hj.symm.trans hsg)
          refine Or.inr ⟨rfl, fun g hg => (h.gateDone_iff hb hg).1 ?_⟩
          exact List.all_eq_true.1 hall g hg
        · obtain rfl := Option.some.inj (hj.symm.trans hsg)
          cases hs
      · rw [if_neg hji]
        refine h.seg.imp_left fun ⟨h1, h2⟩ => ⟨h1, fun hdn => List.mem_append_right _ ?_⟩
        exact (List.mem_cons.1 (h2 hdn)).resolve_left fun hm => hji (Task.done.inj hm).symm
    · have hcard : (openings (RoadEv.enteredEv e j .opened).road).card + 1 = (openings e.road).card := by
        have hmem : j ∈ openings e.road := by simp [openings, segState_some hj, hs]
        rw [← Finset.card_erase_add_one hmem]
        refine congrArg (fun s : Finset SegId => s.card + 1) ?_
        ext k
        simp only [openings, Finset.mem_filter, Finset.mem_univ, true_and, Finset.mem_erase]
        have hk : (RoadEv.enteredEv e j .opened).road.segState k =
            if j = k then (e.road.segs.get j).map (fun _ => SegState.opened) else e.road.segState k :=
          RoadEv.setSeg_segState e j k (entered .opened)
        rw [hk, hj]
        by_cases hjk : j = k
        · subst hjk; simp
        · simp [hjk, Ne.symm hjk]
      have hgates : sgj.gates.length ≤ 2 := ((h.frame.listsAgree hb.lists).2.1 j sgj hj).2.1
      have hneigh := neighbours_length e j sgj.gates
      rw [hdo]
      simp only [openingWeight, List.map_append, List.sum_append, List.map_cons, List.sum_cons]
      rw [sum_map_const sgj.gates Task.demand 6 fun _ => rfl, sum_map_const _ Task.done 1 fun _ => rfl]
      rw [show taskWeight (.done j) = 1 from rfl]
      omega
  · have hdo : doTask ctx (.done j) e = (e, []) := by
      simp only [doTask]
      cases hj : e.road.segs.get j with
      | none => rfl
      | some sgj =>
        refine if_neg fun hc => hfire ⟨sgj, hj, ?_⟩
        simpa using hc
    refine ⟨h.idle hdo nofun fun hji hsg hdn => hfire ?_, openingWeight_idle hdo⟩
    obtain rfl := Task.done.inj hji
    exact ⟨sg, hsg, hb.opening, List.all_eq_true.2 fun g hg => (h.gateDone_iff hb hg).2 (hdn g hg)⟩

/-- Every task of an opening keeps the invariant, and the chain of an opening ends. -/
theorem task_step (hb : OpeningBegun o i sg) (t : Task) (h : Opening o i sg e (t :: rest)) :
    Opening o i sg (doTask ctx t e).1 ((doTask ctx t e).2 ++ rest) ∧
      openingWeight (doTask ctx t e).1 ((doTask ctx t e).2 ++ rest) < openingWeight e (t :: rest) := by
  cases t with
  | demand g => exact h.demand_task hb
  | apply g => exact h.apply_task
  | settle g => exact h.settle_task hb
  | handed g fault => exact h.handed_task hb
  | done j => exact h.done_task hb
  | resolve g => exact (h.task (.resolve g) (by simp)).elim
  | complete j => exact (h.task (.complete j) (by simp)).elim

/-- The chain of an opening is worked off to its end. -/
theorem chain_ends (ctx : RoadCtx) {tasks : List Task} (hb : OpeningBegun o i sg) (h : Opening o i sg e tasks)
    (hw : openingWeight e tasks < 1024) : Opening o i sg (RoadEv.chain ctx (e, tasks)) [] :=
  RoadEv.run_complete ctx (Opening o i sg) openingWeight (fun t _ _ h => h.task_step hb t) 1024 tasks e h hw

end Opening

-- ---------------------------------------------------------------- a REOPEN on a lawful road

/-- The gates of a segment that stand LOWERED have their raised switch INACTIVE (R37). -/
def SafeToRaise (r : Road) (sg : Segment) : Prop :=
  ∀ g ∈ sg.gates, (r.gates.get g).state = .lowered → (r.gates.get g).raisedSwitch.level = false

theorem enteredEv_holdsDown {e : RoadEv} {i : SegId} {sg : Segment} (hi : e.road.segs.get i = some sg) (st : SegState)
    (j : SegId) : (RoadEv.enteredEv e i st).road.holdsDown j = if i = j then st.shut else e.road.holdsDown j := by
  have hk : (RoadEv.enteredEv e i st).road.segState j =
      if i = j then (e.road.segs.get i).map (fun _ => st) else e.road.segState j :=
    RoadEv.setSeg_segState e i j (entered st)
  rw [RoadEv.holdsDown_eq, hk, RoadEv.holdsDown_eq]
  split
  · rw [hi]; rfl
  · rfl

/-- A CLOSED segment of a lawful road begins its opening. -/
theorem openingBegun {e : RoadEv} {i : SegId} {sg : Segment} (hi : e.road.segs.get i = some sg) (hc : sg.state = .closed)
    (hl : ListsAgree e.road) (hd : DemandLaw e.road) (hsafe : SafeToRaise e.road sg) :
    OpeningBegun (RoadEv.enteredEv e i .opening).road i (entered .opening sg) := by
  have hframe : RoadFrame e.road (RoadEv.enteredEv e i .opening).road := RoadEv.setSeg_frame e i _ (RoadEv.entered_frame _)
  refine ⟨hframe.listsAgree hl, RoadEv.enteredEv_get hi, rfl, fun g hne => ?_⟩
  rw [RoadEv.enteredEv_gates] at hne ⊢
  have hold := (hd g).1
  have hin : i ∈ (e.road.gates.get g).listing := by
    by_contra hn
    refine hne (hold.trans ?_)
    unfold Road.demandOf
    have hany : (e.road.gates.get g).listing.any (RoadEv.enteredEv e i .opening).road.holdsDown =
        (e.road.gates.get g).listing.any e.road.holdsDown := by
      rw [Bool.eq_iff_iff, List.any_eq_true, List.any_eq_true]
      refine exists_congr fun j => and_congr_right fun hj => ?_
      rw [enteredEv_holdsDown hi, if_neg (by rintro rfl; exact hn hj)]
    rw [hany]
  have hlow : (e.road.gates.get g).demand = .lower := by
    cases hd' : (e.road.gates.get g).demand with
    | lower => rfl
    | raise =>
      have := RoadEv.demandOf_eq_raise (hold.symm.trans hd') i hin
      rw [RoadEv.holdsDown_eq, segState_some hi, hc] at this
      cases this
  have hmem : g ∈ sg.gates := ((hl.2.1 i sg hi).2.2 g).2 hin
  refine ⟨hmem, hlow, ?_, hsafe g hmem⟩
  rw [hlow] at hne
  exact RoadEv.demand_other (d := .lower) (Ne.symm hne)

/-- The opening as its segment enters it, with its tasks. -/
theorem opening_start {e : RoadEv} {i : SegId} {sg : Segment}
    (hb : OpeningBegun (RoadEv.enteredEv e i .opening).road i (entered .opening sg)) :
    Opening (RoadEv.enteredEv e i .opening).road i (entered .opening sg) (RoadEv.enteredEv e i .opening)
      (sg.gates.map .demand ++ RoadEv.ownTasks i .opening ++ (RoadEv.neighbours e i sg.gates).map .done) := by
  refine ⟨RoadFrame.rfl' _, fun _ => rfl, fun g => Or.inl rfl, fun g => ?_, fun t ht => ?_,
    Or.inl ⟨hb.seg, fun _ => by simp [RoadEv.ownTasks]⟩⟩
  · by_cases hne : ((RoadEv.enteredEv e i .opening).road.gates.get g).demand =
        (RoadEv.enteredEv e i .opening).road.demandOf ((RoadEv.enteredEv e i .opening).road.gates.get g)
    · exact Or.inl hne
    · have hg : g ∈ sg.gates := (hb.flips g hne).1
      exact Or.inr (by simp [hg])
  · simp only [RoadEv.ownTasks, List.mem_append, List.mem_map, List.mem_singleton] at ht
    rcases ht with (⟨_, _, rfl⟩ | rfl) | ⟨_, _, rfl⟩ <;> trivial

/-- What a REOPEN leaves of a lawful road, beginning from the road as the segment has entered OPENING (R18, R19, R32). -/
theorem reopen_opening (ctx : RoadCtx) {e : RoadEv} {i : SegId} {sg : Segment} (hi : e.road.segs.get i = some sg)
    (hc : sg.state = .closed) (hl : ListsAgree e.road) (hd : DemandLaw e.road) (hsafe : SafeToRaise e.road sg) :
    Opening (RoadEv.enteredEv e i .opening).road i (entered .opening sg) (RoadEv.reopen ctx i e) [] := by
  have hb := openingBegun hi hc hl hd hsafe
  have hrun : RoadEv.reopen ctx i e = RoadEv.chain ctx (RoadEv.enteredEv e i .opening,
      sg.gates.map .demand ++ RoadEv.ownTasks i .opening ++ (RoadEv.neighbours e i sg.gates).map .done) := by
    unfold RoadEv.reopen
    rw [RoadEv.enterSeg_eq ctx hi (by decide)]
  rw [hrun]
  refine (opening_start hb).chain_ends ctx hb ?_
  have hgates := (hl.2.1 i sg hi).2.1
  have hneigh := neighbours_length e i sg.gates
  have hcard := openings_card_le (RoadEv.enteredEv e i .opening).road
  simp only [openingWeight, RoadEv.ownTasks, List.map_append, List.sum_append]
  rw [sum_map_const sg.gates Task.demand 6 fun _ => rfl, sum_map_const _ Task.done 1 fun _ => rfl]
  simp only [List.map_cons, List.map_nil, List.sum_cons, List.sum_nil, taskWeight]
  omega

/-- Another listing segment holds the gate down. -/
def HeldDown (r : Road) (i : SegId) (g : GateId) : Prop := ∃ j ∈ (r.gates.get g).listing, j ≠ i ∧ r.holdsDown j = true

/-- At the end of an opening every demand is what the listing segments give. -/
theorem Opening.demand_end {o : Road} {i : SegId} {sg : Segment} {e : RoadEv} (h : Opening o i sg e []) (g : GateId) :
    (e.road.gates.get g).demand = o.demandOf (o.gates.get g) := (h.pending g).resolve_right (by simp)

/-- A gate of the opened segment is demanded LOWER exactly while another listing segment holds it down. -/
theorem demandOf_lower_iff {o : Road} {i : SegId} {sg : Segment} (hb : OpeningBegun o i sg) {g : GateId} (hg : g ∈ sg.gates) :
    o.demandOf (o.gates.get g) = .lower ↔ HeldDown o i g := by
  have hin : i ∈ (o.gates.get g).listing := ((hb.lists.2.1 i sg hb.seg).2.2 g).1 hg
  have hi : o.holdsDown i = false := by
    rw [RoadEv.holdsDown_eq, segState_some hb.seg, hb.opening]
    rfl
  constructor
  · intro hl
    by_contra hn
    have hno : (o.gates.get g).listing.any o.holdsDown = false := by
      rw [List.any_eq_false]
      intro j hj hh
      refine hn ⟨j, hj, ?_, hh⟩
      rintro rfl
      rw [hi] at hh
      cases hh
    have hne : (o.gates.get g).listing.isEmpty = false := by
      cases hl : (o.gates.get g).listing with
      | nil => rw [hl] at hin; cases hin
      | cons a l => rfl
    simp [Road.demandOf, hno, hne] at hl
  · rintro ⟨j, hj, _, hh⟩
    cases hd : o.demandOf (o.gates.get g) with
    | lower => rfl
    | raise =>
      rw [RoadEv.demandOf_eq_raise hd j hj] at hh
      cases hh

/-- The laws of the road at the end of an opening. -/
theorem Opening.laws_end {o : Road} {i : SegId} {sg : Segment} {e : RoadEv} (hb : OpeningBegun o i sg) (h : Opening o i sg e [])
    (hd : ∀ g, ((o.gates.get g).raiseDrive = true → (o.gates.get g).state = .raising) ∧
      ((o.gates.get g).state = .raising → (o.gates.get g).demand = .raise)) : ListsAgree e.road ∧ DemandLaw e.road :=
  ⟨h.frame.listsAgree hb.lists, fun g => ⟨(h.demand_end g).trans (h.demandOf g).symm, (h.gate g).drive (hd g).1 (hd g).2⟩⟩

/-- At the end of an opening its segment is OPEN exactly when every gate was done at once (R19). -/
theorem Opening.seg_end {o : Road} {i : SegId} {sg : Segment} {e : RoadEv} (hb : OpeningBegun o i sg) (h : Opening o i sg e []) :
    ∃ sg', e.road.segs.get i = some sg' ∧ (sg' = sg ∨ sg' = entered .opened sg) ∧ (sg'.state = .opened ↔ DoneAtOnce o sg) := by
  rcases h.seg with ⟨h1, h2⟩ | ⟨h1, h2⟩
  · refine ⟨sg, h1, Or.inl rfl, iff_of_false (by rw [hb.opening]; nofun) fun hdn => ?_⟩
    simpa using h2 hdn
  · exact ⟨_, h1, Or.inr rfl, iff_of_true rfl h2⟩

end Sys2Proof.Machine
end

section
/-! REOPEN (R17 to R21): its authority, the guards of each segment, the segments taken in the order of the list, and what a
lawful road is afterwards. -/

namespace Sys2Proof.Machine

open RoadEv (entered)

-- ---------------------------------------------------------------- the guards of a segment (R18)

/-- A listed gate is in FAULT. -/
def GateFaulted (r : Road) (sg : Segment) : Prop := ∃ g ∈ sg.gates, (r.gates.get g).state = .fault

/-- The approach signs of a segment. -/
def approachSigns (sg : Segment) : List (SignId × Role) := sg.signs.filter fun p => p.2 == .approach

/-- There are approach signs, and all of them are in FAULT. -/
def SignsFaulted (b : Board) (sg : Segment) : Prop :=
  approachSigns sg ≠ [] ∧ ∀ p ∈ approachSigns sg, (b.line.records.get p.1).state = .fault

/-- The first guard that fails gives the outcome (R18). -/
theorem reopenOutcome_guards {u : State} {i : SegId} {sg : Segment} (hi : u.road.segs.get i = some sg) :
    (sg.state ≠ .closed → reopenOutcome u i = .state) ∧
      (sg.state = .closed → sg.holds.empty = false → reopenOutcome u i = .held) ∧
      (sg.state = .closed → sg.holds.empty = true → GateFaulted u.road sg → reopenOutcome u i = .gateFault) ∧
      (sg.state = .closed → sg.holds.empty = true → ¬ GateFaulted u.road sg → SignsFaulted u.board sg →
        reopenOutcome u i = .signFault) ∧
      (sg.state = .closed → sg.holds.empty = true → ¬ GateFaulted u.road sg → ¬ SignsFaulted u.board sg →
        reopenOutcome u i = .ok) := by
  have hgate : (sg.gates.any fun g => (u.road.gates.get g).state == .fault) = true ↔ GateFaulted u.road sg := by
    simp [GateFaulted]
  have hsign : (!(approachSigns sg).isEmpty &&
      (approachSigns sg).all fun p => (u.board.line.records.get p.1).state == .fault) = true ↔ SignsFaulted u.board sg := by
    simp [SignsFaulted]
  have heq : reopenOutcome u i = if !(sg.state == .closed) then .state
      else if !sg.holds.empty then .held
      else if sg.gates.any fun g => (u.road.gates.get g).state == .fault then .gateFault
      else if !(approachSigns sg).isEmpty &&
        (approachSigns sg).all fun p => (u.board.line.records.get p.1).state == .fault then .signFault
      else .ok := by
    unfold reopenOutcome
    rw [hi]
    rfl
  rw [heq]
  refine ⟨fun h => ?_, fun h1 h2 => ?_, fun h1 h2 h3 => ?_, fun h1 h2 h3 h4 => ?_, fun h1 h2 h3 h4 => ?_⟩
  · rw [if_pos (by simpa using h)]
  · rw [if_neg (by simp [h1]), if_pos (by simp [h2])]
  · rw [if_neg (by simp [h1]), if_neg (by simp [h2]), if_pos (hgate.2 h3)]
  · rw [if_neg (by simp [h1]), if_neg (by simp [h2]), if_neg (fun h => h3 (hgate.1 h)), if_pos (hsign.2 h4)]
  · rw [if_neg (by simp [h1]), if_neg (by simp [h2]), if_neg (fun h => h3 (hgate.1 h)), if_neg (fun h => h4 (hsign.1 h))]

/-- A segment is taken exactly when it passes all four guards (R18). -/
theorem reopenOutcome_ok_iff (u : State) (i : SegId) : reopenOutcome u i = .ok ↔ ∃ sg, u.road.segs.get i = some sg ∧
    sg.state = .closed ∧ sg.holds.empty = true ∧ ¬ GateFaulted u.road sg ∧ ¬ SignsFaulted u.board sg := by
  constructor
  · intro h
    cases hi : u.road.segs.get i with
    | none =>
      unfold reopenOutcome at h
      rw [hi] at h
      cases h
    | some sg =>
      obtain ⟨h1, h2, h3, h4, _⟩ := reopenOutcome_guards hi
      refine ⟨sg, rfl, ?_⟩
      by_cases hs : sg.state = .closed
      · by_cases he : sg.holds.empty = true
        · by_cases hg : GateFaulted u.road sg
          · cases h.symm.trans (h3 hs he hg)
          · by_cases hf : SignsFaulted u.board sg
            · cases h.symm.trans (h4 hs he hg hf)
            · exact ⟨hs, he, hg, hf⟩
        · cases h.symm.trans (h2 hs (by simpa using he))
      · cases h.symm.trans (h1 hs)
  · rintro ⟨sg, hi, h1, h2, h3, h4⟩
    exact (reopenOutcome_guards hi).2.2.2.2 h1 h2 h3 h4

-- ---------------------------------------------------------------- the authority and the operands (R17, R18)

theorem needValleyOrSilentPanel_heard (l : Link) (s : State) :
    (ValleyOrSilentPanel s l → (heardState l s).needValleyOrSilentPanel l = none) ∧
      (l = .avalanche ∨ (l = .panel ∧ s.links.valley.active = true) →
        (heardState l s).needValleyOrSilentPanel l = some .authority) ∧
      (l = .panel → s.links.valley.active = false → s.key = .locked →
        (heardState l s).needValleyOrSilentPanel l = some .key) := by
  unfold ValleyOrSilentPanel State.needValleyOrSilentPanel
  cases l with
  | valley => simp
  | avalanche => simp
  | panel =>
    rw [valleySilent_heard_panel, keyOperate_eq, heardState_key]
    cases s.links.valley.active <;> by_cases hk : s.key = .locked <;> simp [hk]

theorem segList_of_names {r : Road} {segs : List Byte} (h : NamesConfigured r segs) :
    segList r segs = some (segs.filterMap (idOf 8)) := by
  unfold segList
  rw [segSet_of_names h]

theorem segList_of_not_names {r : Road} {segs : List Byte} (h : ¬ NamesConfigured r segs) : segList r segs = none := by
  unfold segList
  rw [segSet_of_not_names h]

/-- The ids of a list of configured segments are its bytes. -/
theorem map_filterMap_idOf {r : Road} : ∀ {segs : List Byte}, (∀ b ∈ segs, ∃ i : SegId, b.toNat = i.val ∧ r.configured i = true) →
    (segs.filterMap (idOf 8)).map (fun i => BitVec.ofNat 8 i.val) = segs
  | [], _ => rfl
  | b :: segs, h => by
    obtain ⟨i, hi, _⟩ := h b (by simp)
    rw [List.filterMap_cons, idOf_eq_some.2 hi]
    dsimp only
    rw [List.map_cons, map_filterMap_idOf fun b hb => h b (List.mem_cons_of_mem _ hb), ← hi, BitVec.ofNat_toNat,
      BitVec.setWidth_eq]

theorem mem_ids_of_lists {segs : List Byte} {i : SegId} (h : lists segs i = true) : i ∈ segs.filterMap (idOf 8) := by
  obtain ⟨b, hb, hi⟩ := List.any_eq_true.1 h
  exact List.mem_filterMap.2 ⟨b, hb, idOf_eq_some.2 (by simpa using hi)⟩

-- ---------------------------------------------------------------- the segments, one after the other

theorem reopen_grow (i : SegId) (ctx : RoadCtx) (x : RoadEv) : RoadEv.FlagsGrow x (RoadEv.reopen ctx i x) :=
  RoadEv.chain_enterSeg_grow ctx x i .opening

/-- The state after one segment of a REOPEN, beside the state before (R18, R19). -/
theorem afterReopen_spec (u : State) (i : SegId) : KeepsBut [.links, .road] u (afterReopen u i) ∧
    RoadFrame u.road (afterReopen u i).road ∧ ∃ f, Gains f u (afterReopen u i) ∧ Within (Attn.segment ||| Attn.gate) f := by
  unfold afterReopen
  split
  · obtain ⟨hroad, hkeep, hgain⟩ := onRoad_spec (fun ctx => RoadEv.reopen ctx i) (Ev.start u)
    refine ⟨hkeep, ?_, _, hgain, ?_⟩
    · rw [hroad]
      exact RoadEv.chain_enterSeg_frame ..
    · obtain ⟨f, hf, hw⟩ := reopen_grow i (Ev.start u).st.roadCtx
        { road := (Ev.start u).st.road, flags := 0, touched := Vector.replicate 8 false }
      rw [hf]
      exact (within_zero _).or hw
  · exact ⟨KeepsBut.rfl' _ _, RoadFrame.rfl' _, 0, Gains.of_eq rfl, within_zero _⟩

theorem foldl_afterReopen_spec : ∀ (ids : List SegId) (u : State), KeepsBut [.links, .road] u (ids.foldl afterReopen u) ∧
    RoadFrame u.road (ids.foldl afterReopen u).road ∧
    ∃ f, Gains f u (ids.foldl afterReopen u) ∧ Within (Attn.segment ||| Attn.gate) f
  | [], u => ⟨KeepsBut.rfl' _ _, RoadFrame.rfl' _, 0, Gains.of_eq rfl, within_zero _⟩
  | i :: ids, u => by
    obtain ⟨hk, hf, f, hg, hw⟩ := afterReopen_spec u i
    obtain ⟨hk', hf', f', hg', hw'⟩ := foldl_afterReopen_spec ids (afterReopen u i)
    exact ⟨hk.trans' hk', hf.trans' hf', f ||| f', hg.trans' hg', hw.or hw'⟩

/-- The segments are judged and taken in the order of the list (R18). -/
theorem foldl_reopenOne : ∀ (ids : List SegId) (e : Ev) (acc : List Result),
    (ids.foldl reopenOne (e, acc)).1.st = ids.foldl afterReopen e.st ∧
      (ids.foldl reopenOne (e, acc)).2 = acc ++ reopenOutcomes e.st ids
  | [], _, _ => ⟨rfl, by simp [reopenOutcomes]⟩
  | i :: ids, e, acc => by
    have hst : (reopenOne (e, acc) i).1.st = afterReopen e.st i := by
      unfold reopenOne afterReopen
      dsimp only
      split <;> rfl
    have hres : (reopenOne (e, acc) i).2 = acc ++ [reopenOutcome e.st i] := rfl
    have ih := foldl_reopenOne ids (reopenOne (e, acc) i).1 (reopenOne (e, acc) i).2
    rw [hst, hres] at ih
    refine ⟨ih.1, ih.2.trans ?_⟩
    simp [reopenOutcomes]

theorem judgeReopen_eq {l : Link} {segs : List Byte} (s : State) (hf : segListFits segs = true) :
    judgeReopen l segs (hearing l s) =
      Verdict.check [(heardState l s).needValleyOrSilentPanel l, (heardState l s).needCommissioned] fun _ =>
        match segList (heardState l s).road segs with
        | none => Verdict.deny .range
        | some ids =>
          .accept (ids.foldl reopenOne (hearing l s, [])).1 fun _ =>
            (overall (ids.foldl reopenOne (hearing l s, [])).2).code ::
              (ids.foldl reopenOne (hearing l s, [])).2.map Result.code := by
  unfold judgeReopen
  rw [fitting_of_fits hf]
  rfl

/-- A REOPEN with the authority given, of configured segments, in a commissioned part (R17, R18). -/
theorem judgeReopen_accepts {l : Link} {segs : List Byte} {s : State} (hf : segListFits segs = true)
    (ha : ValleyOrSilentPanel s l) (hc : s.commissioned = true) (hn : NamesConfigured (heardState l s).road segs) :
    judgeReopen l segs (hearing l s) =
      .accept ((segs.filterMap (idOf 8)).foldl reopenOne (hearing l s, [])).1 fun _ =>
        (overall (reopenOutcomes (heardState l s) (segs.filterMap (idOf 8)))).code ::
          (reopenOutcomes (heardState l s) (segs.filterMap (idOf 8))).map Result.code := by
  rw [judgeReopen_eq s hf, check_of_pass (by simp [(needValleyOrSilentPanel_heard l s).1 ha, needCommissioned_heard, hc]),
    segList_of_names hn]
  dsimp only
  rw [(foldl_reopenOne _ (hearing l s) []).2]
  rfl

-- ---------------------------------------------------------------- a taken segment of a lawful road

/-- A Reopened segment stays so while it is not shut again. -/
theorem Reopened.chain {sg0 sg sg' : Segment} (h : Reopened sg0 sg) (k : ChainSeg sg sg') (hs : sg'.state.shut = false) :
    Reopened sg0 sg' := by
  obtain ⟨h1, h2, h3⟩ := h
  rcases k with rfl | ⟨_, rfl⟩ | ⟨_, rfl⟩ | ⟨_, _, rfl⟩
  · exact ⟨h1, h2, h3⟩
  · exact ⟨Or.inr rfl, h2, h3⟩
  · cases hs
  · cases hs

theorem shut_of_holdsDown {r : Road} {i : SegId} {sg : Segment} (h : r.segs.get i = some sg) : r.holdsDown i = sg.state.shut := by
  rw [RoadEv.holdsDown_eq, segState_some h]
  rfl

/-- What one segment that a REOPEN takes leaves of a lawful road (R18, R19). -/
theorem afterReopen_lawful {u : State} {i : SegId} (hok : reopenOutcome u i = .ok) (hl : RoadLaw u) (hs : RaiseSafe u.road) :
    let v := afterReopen u i
    RoadLaw v ∧ RaiseSafe v.road ∧ v.board = u.board ∧
      (∀ g, (v.road.gates.get g).state = .fault → (u.road.gates.get g).state = .fault) ∧
      (∀ j, j ≠ i → Option.Rel ChainSeg (u.road.segs.get j) (v.road.segs.get j) ∧ v.road.holdsDown j = u.road.holdsDown j) ∧
      ∀ sg, u.road.segs.get i = some sg → ∃ sg', v.road.segs.get i = some sg' ∧ Reopened sg sg' := by
  obtain ⟨sg, hi, hc, _, _, _⟩ := (reopenOutcome_ok_iff u i).1 hok
  have hv : afterReopen u i = ((Ev.start u).onRoad fun ctx => RoadEv.reopen ctx i).st := if_pos hok
  obtain ⟨hroad, hkeep, _⟩ := onRoad_spec (fun ctx => RoadEv.reopen ctx i) (Ev.start u)
  have hsafe : SafeToRaise (roadStart u).road sg := fun g _ hg => hs g hg
  have hb := openingBegun (e := roadStart u) hi hc hl.1 hl.2 hsafe
  have ho := reopen_opening u.roadCtx (e := roadStart u) hi hc hl.1 hl.2 hsafe
  have hr : (afterReopen u i).road = (RoadEv.reopen u.roadCtx i (roadStart u)).road := by rw [hv]; exact hroad
  have hframe : RoadFrame u.road (RoadEv.reopen u.roadCtx i (roadStart u)).road := RoadEv.chain_enterSeg_frame ..
  dsimp only
  rw [hr]
  unfold RoadLaw
  rw [hr]
  refine ⟨ho.laws_end hb fun g => (hl.2 g).2, fun g hg => ?_, by rw [hv]; exact hkeep .board (by simp), fun g hg => ?_,
    fun j hj => ⟨?_, ?_⟩, fun sg0 h0 => ?_⟩
  · rw [hframe.raisedSwitch]
    exact hs g ((ho.gate g).lowered hg)
  · exact (ho.gate g).fault.1 hg
  · have h := RoadEv.chain_chainSegs u.roadCtx (RoadEv.enterSeg u.roadCtx (roadStart u) i .opening) j
    rwa [RoadEv.enterSeg_get_of u.roadCtx j hi (by decide), if_neg (Ne.symm hj)] at h
  · rw [ho.holds, enteredEv_holdsDown (e := roadStart u) hi, if_neg (Ne.symm hj)]
    rfl
  · obtain rfl := Option.some.inj (hi.symm.trans h0)
    obtain ⟨sg', h1, h2, _⟩ := ho.seg_end hb
    refine ⟨sg', h1, ?_⟩
    rcases h2 with rfl | rfl
    · exact ⟨Or.inl rfl, rfl, rfl⟩
    · exact ⟨Or.inr rfl, rfl, rfl⟩

/-- Every listed segment that passes the guards at the start, or was reopened already, is reopened at the end (R18, R19). -/
theorem foldl_afterReopen_reopened {i : SegId} {sg0 : Segment} : ∀ (ids : List SegId) (u : State) (sg : Segment), RoadLaw u →
    RaiseSafe u.road → u.road.segs.get i = some sg →
    ((i ∈ ids ∧ reopenOutcome u i = .ok ∧ sg = sg0) ∨ Reopened sg0 sg) →
    ∃ sg', (ids.foldl afterReopen u).road.segs.get i = some sg' ∧ Reopened sg0 sg'
  | [], u, sg, _, _, hi, h => by
    rcases h with ⟨h, _⟩ | h
    · cases h
    · exact ⟨sg, hi, h⟩
  | j :: ids, u, sg, hl, hs, hi, h => by
    show ∃ sg', (ids.foldl afterReopen (afterReopen u j)).road.segs.get i = some sg' ∧ _
    by_cases hok : reopenOutcome u j = .ok
    · obtain ⟨hl', hs', hboard, hfault, hother, hself⟩ := afterReopen_lawful hok hl hs
      by_cases hij : i = j
      · subst hij
        obtain ⟨sg', h1, h2⟩ := hself sg hi
        refine foldl_afterReopen_reopened ids _ sg' hl' hs' h1 (Or.inr ?_)
        rcases h with ⟨_, _, rfl⟩ | h
        · exact h2
        · obtain ⟨sgc, hic, hcl, _⟩ := (reopenOutcome_ok_iff u i).1 hok
          obtain rfl := Option.some.inj (hi.symm.trans hic)
          rcases h.1 with h | h <;> cases hcl.symm.trans h
      · obtain ⟨hrel, hdown⟩ := hother i hij
        obtain ⟨sg', h1, h2⟩ := rel_some hrel hi
        refine foldl_afterReopen_reopened ids _ sg' hl' hs' h1 ?_
        rcases h with ⟨hm, hok', rfl⟩ | h
        · obtain ⟨sgc, hic, hcl, hem, hgf, hsf⟩ := (reopenOutcome_ok_iff u i).1 hok'
          obtain rfl := Option.some.inj (hi.symm.trans hic)
          obtain rfl := h2.of_closed hcl
          refine Or.inl ⟨(List.mem_cons.1 hm).resolve_left hij, (reopenOutcome_ok_iff _ i).2 ⟨sg', h1, hcl, hem, ?_, ?_⟩, rfl⟩
          · rintro ⟨g, hg, hf⟩
            exact hgf ⟨g, hg, hfault g hf⟩
          · rw [hboard]
            exact hsf
        · refine Or.inr (h.chain h2 ?_)
          rw [← shut_of_holdsDown h1, hdown, shut_of_holdsDown hi]
          rcases h.1 with h | h <;> rw [h] <;> rfl
    · have hsame : afterReopen u j = u := if_neg hok
      rw [hsame]
      refine foldl_afterReopen_reopened ids u sg hl hs hi (h.imp_left fun ⟨hm, h1, h2⟩ => ⟨?_, h1, h2⟩)
      refine (List.mem_cons.1 hm).resolve_left ?_
      rintro rfl
      exact hok h1

/-- The overall outcome of a list that is not empty. -/
theorem overall_eq {l : List Result} (h : l ≠ []) : overall l = if l.contains .ok then .ok else l.headD .ok := by
  unfold overall
  cases l with
  | nil => exact absurd rfl h
  | cons r l => rfl

theorem reopenOutcomes_ne_nil {ids : List SegId} (u : State) (h : ids ≠ []) : reopenOutcomes u ids ≠ [] := by
  cases ids with
  | nil => exact absurd rfl h
  | cons i ids => simp [reopenOutcomes]

theorem SameRoad.holds {s t : State} (h : SameRoad s t) : HoldsStand s t := by
  intro j
  have hj := congrArg (Option.map Segment.holds) (h.2 j)
  simpa [Option.map_map, Function.comp_def, Segment.timeless] using hj

end Sys2Proof.Machine

open Sys2Proof Sys2Proof.Machine

/-- Settles O14: the fold over the list, the guards of one segment, and the openings on a lawful road one after the other. -/
theorem reopenAnswersForEachSegment : Obligations.ReopenAnswersForEachSegment := by
  refine ⟨fun l segs s hr hf => ?_, fun u i sg hi => ?_⟩
  · have hj := judgeReopen_eq (l := l) s hf
    obtain ⟨_, hauth, hkey⟩ := needValleyOrSilentPanel_heard l s
    have hcom := needCommissioned_heard l s
    have hnames := namesConfigured_congr (segs := segs) (heardState_configured l s)
    refine ⟨_, rfl, fun h => ?_, fun h1 h2 h3 => ?_, fun h1 h2 => ?_, fun h1 h2 h3 => ?_, fun h1 h2 h3 => ?_⟩
    · exact refused_of_deny hr (hj.trans (check_of_failure (by simp [hauth h])))
    · exact refused_of_deny hr (hj.trans (check_of_failure (by simp [hkey h1 h2 h3])))
    · exact refused_of_deny hr (hj.trans (check_of_failure
        (by simp [(needValleyOrSilentPanel_heard l s).1 h1, hcom, h2])))
    · refine refused_of_deny hr (hj.trans ((check_of_pass
        (by simp [(needValleyOrSilentPanel_heard l s).1 h1, hcom, h2])).trans ?_))
      rw [segList_of_not_names fun h => h3 (hnames.1 h)]
    · have hn := hnames.2 h3
      have hacc := judgeReopen_accepts hf h1 h2 hn
      obtain ⟨hk, hframe, f, hg, hw⟩ := foldl_afterReopen_spec (segs.filterMap (idOf 8)) (heardState l s)
      have hst : ((segs.filterMap (idOf 8)).foldl reopenOne (hearing l s, [])).1.st =
          (segs.filterMap (idOf 8)).foldl afterReopen (heardState l s) := (foldl_reopenOne _ (hearing l s) []).1
      have hmap := map_filterMap_idOf hn.2
      have hne : segs.filterMap (idOf 8) ≠ [] := fun h => by
        rw [h] at hmap
        exact hn.1 hmap.symm
      have hfin := finish_spec ((segs.filterMap (idOf 8)).foldl reopenOne (hearing l s, [])).1
      have hconf := finish_confirms ((segs.filterMap (idOf 8)).foldl reopenOne (hearing l s, [])).1
      rw [hst] at hfin hconf
      dsimp only
      rw [takeRequest_accepted hr hacc, overall_eq (reopenOutcomes_ne_nil _ hne)]
      refine ⟨((hk.mono (by simp)).trans' hfin.1).trans' ((startReply_answered _ _ _ _).2.mono (by simp)), fun j => ?_,
        hfin.2.1, hmap, ⟨f, Gains.answered ?_ _ _ _, hw⟩, fun hl hs i sg hi hlist hok => ?_⟩
      · exact (SameRoad.holds hfin.2.1 j).trans (hframe.holds j)
      · exact Gains.finish (by rw [hst]; exact hg)
      · obtain ⟨a, ha, hre⟩ := foldl_afterReopen_reopened _ _ sg hl hs hi (Or.inl ⟨mem_ids_of_lists hlist, hok, rfl⟩)
        obtain ⟨sg', hsg', hcf⟩ := hconf.some ha
        obtain rfl := hcf.eq (by rcases hre.1 with h | h <;> rw [h] <;> decide)
        exact ⟨sg', hsg', hre⟩
  · obtain ⟨h1, h2, h3, h4, h5⟩ := reopenOutcome_guards hi
    refine ⟨h1, h2, h3, h4, h5, fun h => if_neg h, fun hok hl hs => ?_⟩
    exact (afterReopen_lawful hok hl hs).2.2.2.2.2 sg hi

end

section
/-! REOPEN of one segment (R17 to R21, R31 to R33, R36). -/

namespace Sys2Proof.Machine

open RoadEv (entered)

namespace RoadEv

/-- A segment without gates opens at once (R21). -/
theorem reopen_gateless (ctx : RoadCtx) {e : RoadEv} {i : SegId} {sg : Segment} (hi : e.road.segs.get i = some sg)
    (hg : sg.gates = []) : (reopen ctx i e).road.segs.get i = some (entered .opened (entered .opening sg)) := by
  unfold reopen
  rw [enterSeg_eq ctx hi (by decide), hg, neighbours_nil, chain_eq]
  show (run ctx 1024 [.done i] _).road.segs.get i = _
  exact run_done_opens ctx 1023 [] (enteredEv_get (st := .opening) hi) rfl (by simp [entered, hg])

/-- A segment whose single gate, listed by it alone, stands LOWERED under a LOWER demand opens by raising it (R18, R33). -/
theorem reopen_single (ctx : RoadCtx) {e : RoadEv} {i : SegId} {g : GateId} {sg : Segment}
    (hi : e.road.segs.get i = some sg) (hg : sg.gates = [g]) (hlist : (e.road.gates.get g).listing = [i])
    (hs : (e.road.gates.get g).state = .lowered) (hd : (e.road.gates.get g).demand = .lower)
    (hsw : (e.road.gates.get g).raisedSwitch.level = false) :
    (reopen ctx i e).road.segs.get i = some (entered .opening sg) ∧
      (reopen ctx i e).road.gates.get g = departed .raise (e.road.gates.get g) := by
  have h1 := enteredEv_get (st := .opening) hi
  have hrun : reopen ctx i e = chain ctx (enteredEv e i .opening, [.demand g, .done i]) := by
    unfold reopen
    rw [enterSeg_eq ctx hi (by decide), hg, neighbours_alone hlist]
    rfl
  have hdem : (enteredEv e i .opening).road.demandOf ((enteredEv e i .opening).road.gates.get g) = .raise := by
    have : (enteredEv e i .opening).road.holdsDown i = false := by rw [holdsDown_eq, segState_some h1]; rfl
    simp [Road.demandOf, hlist, this]
  have h := chain_leaves ctx (e := enteredEv e i .opening) (g := g) (i := i) (d := .raise) (own := .done i) hlist hdem
    (by rw [enteredEv_gates, hd]; decide) ⟨hs, hsw⟩
    fun e' hsegs hx => by
      have hi' : e'.road.segs.get i = some (entered .opening sg) := by rw [hsegs]; exact h1
      refine ⟨?_, ?_⟩
      · unfold handSeg
        rw [segState_some hi']
        rfl
      · exact doTask_done_waits ctx (g := g) hi' (by simp [entered, hg]) (by rw [hx]; nofun) (by rw [hx]; rfl)
  rw [hrun, h.1, h.2]
  exact ⟨h1, rfl⟩

/-- The record of the segment after a REOPEN has taken it, and what the chain makes of the others (R19, R20). -/
theorem reopen_segs (ctx : RoadCtx) {e : RoadEv} {i : SegId} {sg : Segment} (hi : e.road.segs.get i = some sg) :
    (∃ a, (reopen ctx i e).road.segs.get i = some a ∧ ChainSeg (entered .opening sg) a) ∧
      ∀ j, j ≠ i → Option.Rel ChainSeg (e.road.segs.get j) ((reopen ctx i e).road.segs.get j) := by
  have hch := chain_chainSegs ctx (enterSeg ctx e i .opening)
  refine ⟨hch.some ((enterSeg_get_of ctx i hi (by decide)).trans (if_pos rfl)), fun j hj => ?_⟩
  have h := hch j
  rwa [enterSeg_get_of ctx j hi (by decide), if_neg (Ne.symm hj)] at h

end RoadEv

/-- What an opening can be turned into by the chain is no WARNING. -/
theorem ChainSeg.not_warning {sg sg' : Segment} (h : ChainSeg sg sg') (hs : sg.state = .opening) : sg'.state ≠ .warning := by
  rcases h.moves with h | ⟨_, h⟩ | ⟨_, h⟩
  · rw [← h, hs]; decide
  · exact h
  · rw [h]; decide

/-- The segments beside the one of an event, where the chain moved them and warning confirmation was judged. -/
theorem othersStand_of_chain {i : SegId} {s t : State} {r : Road}
    (hr : ∀ j, j ≠ i → Option.Rel ChainSeg (s.road.segs.get j) (r.segs.get j))
    (hc : ∀ j, Option.Rel Confirms (r.segs.get j) (t.road.segs.get j)) (hf : RoadFrame s.road r) : OthersStand i s t := by
  intro j hj
  refine ⟨holdsStand_of_frame hf hc j, fun x hx => ?_⟩
  obtain ⟨sgj, hj1, rfl⟩ := get_of_segState hx
  obtain ⟨b, hb, hcb⟩ := rel_some (hr j hj) hj1
  obtain ⟨c, hc1, hcc⟩ := rel_some (hc j) hb
  exact ⟨c.state, segState_some hc1, by rw [hcc.state]; exact hcb.moves⟩

/-- Warning confirmation leaves which segments hold their gates down. -/
theorem holdsDown_of_confirms {r r' : Road} (h : ∀ j, Option.Rel Confirms (r.segs.get j) (r'.segs.get j)) (j : SegId) :
    r'.holdsDown j = r.holdsDown j := by
  have hj := h j
  rw [RoadEv.holdsDown_eq, RoadEv.holdsDown_eq, Road.segState, Road.segState]
  revert hj
  generalize r.segs.get j = a
  generalize r'.segs.get j = b
  intro hj
  cases hj with
  | none => rfl
  | some h => simp [h.state]

theorem heldDown_congr {r r' : Road} {i : SegId} {g : GateId} (hl : (r'.gates.get g).listing = (r.gates.get g).listing)
    (hh : ∀ j, j ≠ i → r'.holdsDown j = r.holdsDown j) : HeldDown r' i g ↔ HeldDown r i g := by
  unfold HeldDown
  rw [hl]
  exact exists_congr fun j => and_congr_right fun _ => and_congr_right fun hj => by rw [hh j hj]

/-- What a REOPEN leaves of the one segment on a lawful road, warning confirmation judged (R18, R19). -/
theorem reopen_lawful (ctx : RoadCtx) {s t : State} {i : SegId} {sg sg' : Segment} (hi : s.road.segs.get i = some sg)
    (hc : sg.state = .closed) (hl : RoadLaw s) (hsafe : SafeToRaise s.road sg)
    (hgates : t.road.gates = (RoadEv.reopen ctx i (roadStart s)).road.gates)
    (hconf : ∀ j, Option.Rel Confirms ((RoadEv.reopen ctx i (roadStart s)).road.segs.get j) (t.road.segs.get j))
    (ht : t.road.segs.get i = some sg') :
    Reopened sg sg' ∧ (∀ g ∈ sg.gates, (t.road.gates.get g).demand = .lower ↔ HeldDown s.road i g) ∧
      (sg'.state = .opened ↔ ∀ g ∈ sg.gates, (t.road.gates.get g).state = .raised ∨
        ((t.road.gates.get g).demand = .lower ∧ HeldDown t.road i g)) := by
  have hb := openingBegun (e := roadStart s) hi hc hl.1 hl.2 hsafe
  have ho := reopen_opening ctx (e := roadStart s) hi hc hl.1 hl.2 hsafe
  obtain ⟨a, ha, hcase, hopen⟩ := ho.seg_end hb
  have hre : Reopened sg a := by
    rcases hcase with rfl | rfl
    · exact ⟨Or.inl rfl, rfl, rfl⟩
    · exact ⟨Or.inr rfl, rfl, rfl⟩
  obtain ⟨b, hb1, hcf⟩ := rel_some (hconf i) ha
  obtain rfl : b = a := hcf.eq (by rcases hre.1 with h | h <;> rw [h] <;> decide)
  obtain rfl := Option.some.inj (hb1.symm.trans ht)
  have hgate : ∀ g, t.road.gates.get g = (RoadEv.reopen ctx i (roadStart s)).road.gates.get g := fun g => by rw [hgates]
  have hdem : ∀ g ∈ sg.gates, ((t.road.gates.get g).demand = .lower ↔ HeldDown s.road i g) := by
    intro g hg
    rw [hgate, ho.demand_end, demandOf_lower_iff hb (by exact hg)]
    refine heldDown_congr rfl fun j hj => ?_
    rw [enteredEv_holdsDown (e := roadStart s) hi, if_neg (Ne.symm hj)]
    rfl
  have hheld : ∀ g, HeldDown t.road i g ↔ HeldDown s.road i g := by
    intro g
    refine heldDown_congr ?_ fun j hj => ?_
    · rw [hgate]
      exact ho.frame.listing g
    · rw [holdsDown_of_confirms hconf, ho.holds, enteredEv_holdsDown (e := roadStart s) hi, if_neg (Ne.symm hj)]
      rfl
  refine ⟨hre, hdem, hopen.trans (forall_congr' fun g => forall_congr' fun hg => ?_)⟩
  refine or_congr ?_ ?_
  · rw [hgate]
    exact (ho.gate g).raised.symm
  · rw [hheld, hdem g hg, and_self, ← hdem g hg, hgate, ho.demand_end]

end Sys2Proof.Machine

open Sys2Proof Sys2Proof.Machine

/-- Settles O15: the guards one by one, and for a taken segment the opening on a lawful road, or run step by step where there is
at most one gate. -/
theorem reopenOfOneSegment : Obligations.ReopenOfOneSegment := by
  intro l i s sg hr ha hcom hi
  have hbyte : (BitVec.ofNat 8 i.val).toNat = i.val := by
    rw [BitVec.toNat_ofNat]
    omega
  have hids : [(BitVec.ofNat 8 i.val : Byte)].filterMap (idOf 8) = [i] := by
    rw [List.filterMap_cons, idOf_eq_some.2 hbyte]
    rfl
  have hn : NamesConfigured (heardState l s).road [BitVec.ofNat 8 i.val] :=
    ⟨by simp, fun b hb => ⟨i, by rw [List.mem_singleton.1 hb]; exact hbyte, by simp [Road.configured, hi]⟩⟩
  have hacc := judgeReopen_accepts (l := l) (s := s) rfl ha hcom hn
  rw [hids] at hacc
  obtain ⟨hstate, hheld, hgate, hsign, hok⟩ := reopenOutcome_guards hi
  have refused : ∀ r, r ≠ .ok → reopenOutcome (heardState l s) i = r →
      takeRequest l 0x06 (judgeReopen l [BitVec.ofNat 8 i.val]) s = (afterHearing l s).startReply l 0x06 [r.code, r.code] := by
    intro r hne hout
    have hev : ([i].foldl reopenOne (hearing l s, [])).1 = hearing l s := by
      show (if reopenOutcome (heardState l s) i = .ok then _ else _) = _
      rw [hout, if_neg hne]
    have hover : overall [r] = r := by
      cases r with
      | ok => exact absurd rfl hne
      | _ => rfl
    rw [hev] at hacc
    rw [takeRequest_accepted hr hacc]
    simp only [reopenOutcomes, hout, hover]
    rfl
  refine ⟨_, rfl, fun h => refused _ (by decide) (hstate h), fun h1 h2 => refused _ (by decide) (hheld h1 h2),
    fun h1 h2 h3 => refused _ (by decide) (hgate h1 h2 h3), fun h1 h2 h3 h4 => refused _ (by decide) (hsign h1 h2 h3 h4),
    fun h1 h2 h3 h4 => ?_⟩
  have hout := hok h1 h2 h3 h4
  have hev : ([i].foldl reopenOne (hearing l s, [])).1 = (hearing l s).onRoad fun ctx => RoadEv.reopen ctx i := by
    show (if reopenOutcome (heardState l s) i = .ok then _ else _) = _
    rw [hout, if_pos rfl]
  rw [hev] at hacc
  simp only [reopenOutcomes, hout] at hacc
  obtain ⟨hkeep, hans, hw, hgates, _⟩ := accepted_onRoad (kind := 0x06) hr hacc (reopen_grow i)
  have hconf : ∀ j, Option.Rel Confirms ((RoadEv.reopen (heardState l s).roadCtx i (roadStart (heardState l s))).road.segs.get j)
      ((takeRequest l 0x06 (judgeReopen l [BitVec.ofNat 8 i.val]) s).road.segs.get j) := by
    intro j
    have h := (finish_confirms ((hearing l s).onRoad fun ctx => RoadEv.reopen ctx i)).2 j
    rw [(onRoad_spec (fun ctx => RoadEv.reopen ctx i) (hearing l s)).1] at h
    rw [takeRequest_accepted hr hacc]
    exact h
  obtain ⟨⟨a, hra, hchain⟩, hothers⟩ := RoadEv.reopen_segs (heardState l s).roadCtx (e := roadStart (heardState l s)) hi
  obtain ⟨b, hb, hcf⟩ := rel_some (hconf i) hra
  obtain rfl : b = a := hcf.eq (hchain.not_warning rfl)
  refine ⟨hkeep, othersStand_of_chain hothers hconf (RoadEv.chain_enterSeg_frame ..), ⟨_, hans, ?_⟩, b, hb, hchain.holds,
    hchain.not_warning rfl, fun hl hsafe => ?_, fun hg => ?_, fun g hg hlist hst hd hsw => ?_⟩
  · exact (RoadEv.chain_grow ..).includes (RoadEv.enterSeg_includes _ _ hi)
  · exact reopen_lawful (heardState l s).roadCtx hi h1 hl hsafe hgates hconf hb
  · have h := RoadEv.reopen_gateless (heardState l s).roadCtx (e := roadStart (heardState l s)) hi hg
    obtain rfl := Option.some.inj (h.symm.trans hra)
    exact ⟨rfl, rfl⟩
  · obtain ⟨hs1, hs2⟩ := RoadEv.reopen_single (heardState l s).roadCtx (e := roadStart (heardState l s)) hi hg hlist hst hd hsw
    obtain rfl := Option.some.inj (hs1.symm.trans hra)
    exact ⟨rfl, rfl, by rw [hgates]; exact hs2⟩

end

section
/-! Hold entries with sources (R4 to R7), changes of zone records (R102 to R106), the automatic start-up release (R25), and the
two commands that change zones: the silence of the avalanche link and ZONE_LEVEL. -/

namespace Sys2Proof.Machine

-- ---------------------------------------------------------------- single flags

/-- A single flag is in a set where its bit is. -/
theorem includes_twoPow (k : Nat) (hk : k < 11) (f : FlagSet) : Includes (BitVec.twoPow 11 k) f ↔ f.getLsbD k = true := by
  unfold Includes
  rw [BitVec.and_twoPow]
  cases h : f.getLsbD k with
  | true => simp
  | false =>
    refine iff_of_false (fun h0 => ?_) (by simp)
    have := congrArg (fun x => x.getLsbD k) h0
    simp [hk] at this

theorem includes_zone_iff (f : FlagSet) : Includes Attn.zone f ↔ f.getLsbD 3 = true := includes_twoPow 3 (by decide) f
theorem includes_link_iff (f : FlagSet) : Includes Attn.link f ↔ f.getLsbD 8 = true := includes_twoPow 8 (by decide) f

theorem Within.bit {m f : FlagSet} (h : Within m f) {k : Nat} (hk : k < 11) (hm : m.getLsbD k = false) :
    f.getLsbD k = false := by
  have hb := congrArg (fun x => x.getLsbD k) h
  simp only [BitVec.getLsbD_and, BitVec.getLsbD_not, hm, hk, decide_true, Bool.not_false, Bool.and_true] at hb
  exact hb.trans BitVec.getLsbD_zero

/-- A set of road flags adds no other flag. -/
theorem includes_zone_or {f g : FlagSet} (hg : Within (Attn.segment ||| Attn.gate) g) :
    Includes Attn.zone (f ||| g) ↔ Includes Attn.zone f := includes_or_iff hg (by decide)
theorem includes_link_or {f g : FlagSet} (hg : Within (Attn.segment ||| Attn.gate) g) :
    Includes Attn.link (f ||| g) ↔ Includes Attn.link f := includes_or_iff hg (by decide)

-- ---------------------------------------------------------------- sources of an entry

/-- The entry of a kind at a segment has a source. -/
def Sourced (r : Road) (i : SegId) (k : HoldKind) (n : Nat) : Prop := ∃ x, heldEntry r i k = some x ∧ n ∈ x.sources

theorem heldEntry_unconfigured {r : Road} {i : SegId} {k : HoldKind} (h : r.configured i ≠ true) : heldEntry r i k = none := by
  unfold heldEntry
  cases hi : r.segs.get i with
  | none => rfl
  | some sg => exact absurd (by simp [Road.configured, hi]) h

theorem sourced_configured {r : Road} {i : SegId} {k : HoldKind} {n : Nat} (h : Sourced r i k n) : r.configured i = true := by
  by_contra hc
  obtain ⟨x, hx, _⟩ := h
  rw [heldEntry_unconfigured hc] at hx
  cases hx

theorem hasSource_of_sourced {s : State} {i : SegId} {k : HoldKind} {n : Nat}
    (h : s.road.configured i = true → Sourced s.road i k n) : HasSource s i k n := by
  intro sg hi
  obtain ⟨x, hx, hn⟩ := h (by simp [Road.configured, hi])
  exact ⟨x, by simpa [heldEntry, hi] using hx, hn⟩

theorem sourced_congr {r r' : Road} {i : SegId} {k : HoldKind} {n : Nat} (h : heldEntry r' i k = heldEntry r i k) :
    Sourced r' i k n ↔ Sourced r i k n := by
  unfold Sourced
  rw [h]

namespace RoadEv

/-- Adding a source at one segment. -/
theorem addSource_sourced (ctx : RoadCtx) (k : HoldKind) (n : Nat) (i j : SegId) (m : Nat) (e : RoadEv) :
    Sourced (addSource ctx k n i e).road j k m ↔
      Sourced e.road j k m ∨ (j = i ∧ m = n ∧ e.road.configured j = true) := by
  have h := (addSource_spec ctx k n i e).2 j k
  by_cases hc : i = j ∧ e.road.configured i = true
  · obtain ⟨rfl, hc⟩ := hc
    rw [if_pos ⟨rfl, rfl, hc⟩] at h
    unfold Sourced
    rw [h]
    cases heldEntry e.road i k with
    | none => simp [hc]
    | some old =>
      by_cases hin : old.sources.contains n = true
      · simp only [hin, if_true, Option.some.injEq, exists_eq_left', true_and, hc, and_true]
        exact ⟨Or.inl, fun h => h.elim id fun h => by rw [h]; simpa using hin⟩
      · simp only [if_neg hin, Option.some.injEq, exists_eq_left', mem_insertAsc, true_and, hc, and_true]
        exact or_comm
  · rw [if_neg (fun h => hc ⟨h.1, h.2.2⟩)] at h
    rw [sourced_congr h]
    refine ⟨Or.inl, fun h => h.elim id fun ⟨h1, _, h3⟩ => absurd ⟨h1.symm, h1 ▸ h3⟩ hc⟩

/-- Removing a source at one segment. -/
theorem removeSource_sourced (ctx : RoadCtx) (k : HoldKind) (n : Nat) (i j : SegId) (m : Nat) (e : RoadEv) :
    Sourced (removeSource ctx k n i e).road j k m ↔ Sourced e.road j k m ∧ ¬ (j = i ∧ m = n) := by
  have h := (removeSource_spec ctx k n i e).2 j k
  by_cases hij : i = j
  · subst hij
    rw [if_pos ⟨rfl, rfl⟩] at h
    unfold Sourced
    rw [h]
    cases heldEntry e.road i k with
    | none => simp
    | some old =>
      dsimp only
      split
      · next hin =>
        split
        · next hemp =>
          refine iff_of_false (by simp) ?_
          rintro ⟨⟨x, hx, hm⟩, hne⟩
          obtain rfl := Option.some.inj hx
          have hmem : m ∈ removeAsc n old.sources := (mem_removeAsc ..).2 ⟨hm, fun h => hne ⟨rfl, h⟩⟩
          rw [List.isEmpty_iff.1 hemp] at hmem
          cases hmem
        · simp
      · next hin =>
        simp only [Option.some.injEq, exists_eq_left', true_and]
        exact ⟨fun hm => ⟨hm, fun h => hin (by rw [← h]; simpa using hm)⟩, And.left⟩
  · rw [if_neg fun h => hij h.1] at h
    rw [sourced_congr h]
    exact ⟨fun h => ⟨h, fun h' => hij h'.1.symm⟩, And.left⟩

/-- A step at one segment that leaves the configuration and every entry of another kind, at each of several segments. -/
theorem each_others {f : SegId → RoadEv → RoadEv} {k : HoldKind}
    (hf : ∀ i e, (∀ j, (f i e).road.configured j = e.road.configured j) ∧
      ∀ j k', k' ≠ k → heldEntry (f i e).road j k' = heldEntry e.road j k') :
    ∀ (l : List SegId) (e : RoadEv), (∀ j, (each f l e).road.configured j = e.road.configured j) ∧
      ∀ j k', k' ≠ k → heldEntry (each f l e).road j k' = heldEntry e.road j k'
  | [], _ => ⟨fun _ => rfl, fun _ _ _ => rfl⟩
  | i :: l, e => by
    obtain ⟨h1, h2⟩ := each_others hf l (f i e)
    obtain ⟨h3, h4⟩ := hf i e
    exact ⟨fun j => (h1 j).trans (h3 j), fun j k' hk => (h2 j k' hk).trans (h4 j k' hk)⟩

theorem addSource_others (ctx : RoadCtx) (k : HoldKind) (n : Nat) (i : SegId) (e : RoadEv) :
    (∀ j, (addSource ctx k n i e).road.configured j = e.road.configured j) ∧
      ∀ j k', k' ≠ k → heldEntry (addSource ctx k n i e).road j k' = heldEntry e.road j k' :=
  ⟨(addSource_spec ctx k n i e).1, fun j k' hk => ((addSource_spec ctx k n i e).2 j k').trans
    (if_neg fun h => hk h.2.1.symm)⟩

theorem removeSource_others (ctx : RoadCtx) (k : HoldKind) (n : Nat) (i : SegId) (e : RoadEv) :
    (∀ j, (removeSource ctx k n i e).road.configured j = e.road.configured j) ∧
      ∀ j k', k' ≠ k → heldEntry (removeSource ctx k n i e).road j k' = heldEntry e.road j k' :=
  ⟨(removeSource_spec ctx k n i e).1, fun j k' hk => ((removeSource_spec ctx k n i e).2 j k').trans
    (if_neg fun h => hk h.2.symm)⟩

theorem deleteEntry_others (ctx : RoadCtx) (k : HoldKind) (i : SegId) (e : RoadEv) :
    (∀ j, (deleteEntry ctx i k e).road.configured j = e.road.configured j) ∧
      ∀ j k', k' ≠ k → heldEntry (deleteEntry ctx i k e).road j k' = heldEntry e.road j k' :=
  ⟨(deleteEntry_spec ctx i k e).1, fun j k' hk => ((deleteEntry_spec ctx i k e).2 j k').trans
    (if_neg fun h => hk h.2.symm)⟩

theorem each_addSource_sourced (ctx : RoadCtx) (k : HoldKind) (n : Nat) (j : SegId) (m : Nat) :
    ∀ (l : List SegId) (e : RoadEv), Sourced (each (addSource ctx k n) l e).road j k m ↔
      Sourced e.road j k m ∨ (j ∈ l ∧ m = n ∧ e.road.configured j = true)
  | [], e => by simp [each]
  | i :: l, e => by
    show Sourced (each (addSource ctx k n) l (addSource ctx k n i e)).road j k m ↔ _
    rw [each_addSource_sourced ctx k n j m l, addSource_sourced, (addSource_spec ctx k n i e).1, List.mem_cons]
    tauto

theorem each_removeSource_sourced (ctx : RoadCtx) (k : HoldKind) (n : Nat) (j : SegId) (m : Nat) :
    ∀ (l : List SegId) (e : RoadEv), Sourced (each (removeSource ctx k n) l e).road j k m ↔
      Sourced e.road j k m ∧ ¬ (j ∈ l ∧ m = n)
  | [], e => by simp [each]
  | i :: l, e => by
    show Sourced (each (removeSource ctx k n) l (removeSource ctx k n i e)).road j k m ↔ _
    rw [each_removeSource_sourced ctx k n j m l, removeSource_sourced, List.mem_cons]
    tauto

theorem each_deleteEntry_entry (ctx : RoadCtx) (k : HoldKind) (j : SegId) :
    ∀ (l : List SegId) (e : RoadEv), heldEntry (each (fun i => deleteEntry ctx i k) l e).road j k =
      if j ∈ l then none else heldEntry e.road j k
  | [], e => by simp [each]
  | i :: l, e => by
    show heldEntry (each (fun i => deleteEntry ctx i k) l (deleteEntry ctx i k e)).road j k = _
    rw [each_deleteEntry_entry ctx k j l, (deleteEntry_spec ctx i k e).2]
    by_cases h1 : j ∈ l
    · simp [h1]
    · by_cases h2 : i = j
      · simp [h1, h2]
      · simp [h1, h2, Ne.symm h2]

end RoadEv

-- ---------------------------------------------------------------- a step on the entries of one kind, within an event

/-- A step within an event that changes entries of one kind and what follows from them on the road (R5 to R9). -/
structure EntryStep (k : HoldKind) (s t : State) : Prop where
  keeps : KeepsBut [.links, .road] s t
  gains : ∃ f, Gains f s t ∧ Within (Attn.segment ||| Attn.gate) f
  configured : ∀ i, t.road.configured i = s.road.configured i
  others : ∀ i k', k' ≠ k → heldEntry t.road i k' = heldEntry s.road i k'

theorem EntryStep.rfl' (k : HoldKind) (s : State) : EntryStep k s s :=
  ⟨KeepsBut.rfl' _ _, ⟨0, Gains.of_eq rfl, within_zero _⟩, fun _ => rfl, fun _ _ _ => rfl⟩

theorem onRoad_entryStep {k : HoldKind} {f : RoadCtx → RoadEv → RoadEv} (hg : ∀ ctx x, RoadEv.FlagsGrow x (f ctx x))
    (hf : ∀ ctx e, (∀ j, (f ctx e).road.configured j = e.road.configured j) ∧
      ∀ j k', k' ≠ k → heldEntry (f ctx e).road j k' = heldEntry e.road j k') (e : Ev) :
    EntryStep k e.st (e.onRoad f).st := by
  obtain ⟨hroad, hkeep, hgain⟩ := onRoad_spec f e
  obtain ⟨g, hgr, hw⟩ := hg e.st.roadCtx { road := e.st.road, flags := 0, touched := Vector.replicate 8 false }
  obtain ⟨hc, ho⟩ := hf e.st.roadCtx { road := e.st.road, flags := 0, touched := Vector.replicate 8 false }
  refine ⟨hkeep, ⟨_, hgain, ?_⟩, fun i => ?_, fun i k' hk => ?_⟩
  · rw [hgr]
    exact (within_zero _).or hw
  · rw [hroad]
    exact hc i
  · rw [hroad]
    exact ho i k' hk

theorem Ev.addSource_spec (k : HoldKind) (n : Nat) (l : List SegId) (e : Ev) :
    EntryStep k e.st (e.addSource k n l).st ∧ ∀ j m, Sourced (e.addSource k n l).st.road j k m ↔
      Sourced e.st.road j k m ∨ (j ∈ l ∧ m = n ∧ e.st.road.configured j = true) := by
  refine ⟨onRoad_entryStep (fun ctx => RoadEv.each_grow (RoadEv.addSource_grow ctx k n) l)
    (fun ctx => RoadEv.each_others (RoadEv.addSource_others ctx k n) l) e, fun j m => ?_⟩
  unfold Ev.addSource
  rw [(onRoad_spec _ e).1]
  exact RoadEv.each_addSource_sourced ..

theorem Ev.removeSource_spec (k : HoldKind) (n : Nat) (l : List SegId) (e : Ev) :
    EntryStep k e.st (e.removeSource k n l).st ∧ ∀ j m, Sourced (e.removeSource k n l).st.road j k m ↔
      Sourced e.st.road j k m ∧ ¬ (j ∈ l ∧ m = n) := by
  refine ⟨onRoad_entryStep (fun ctx => RoadEv.each_grow (RoadEv.removeSource_grow ctx k n) l)
    (fun ctx => RoadEv.each_others (RoadEv.removeSource_others ctx k n) l) e, fun j m => ?_⟩
  unfold Ev.removeSource
  rw [(onRoad_spec _ e).1]
  exact RoadEv.each_removeSource_sourced ..

theorem Ev.remove_spec (k : HoldKind) (l : List SegId) (e : Ev) :
    EntryStep k e.st (e.remove k l).st ∧ ∀ j, heldEntry (e.remove k l).st.road j k =
      if j ∈ l then none else heldEntry e.st.road j k := by
  refine ⟨onRoad_entryStep (fun ctx => RoadEv.each_grow (fun i => RoadEv.deleteEntry_grow ctx i k) l)
    (fun ctx => RoadEv.each_others (RoadEv.deleteEntry_others ctx k) l) e, fun j => ?_⟩
  unfold Ev.remove
  rw [(onRoad_spec _ e).1]
  exact RoadEv.each_deleteEntry_entry ..

-- ---------------------------------------------------------------- a change of a zone record

/-- What a change of a zone record does to the ZONE sources (R105). -/
def zoneSources (before after : Zone) (n : Nat) (r : Road) (j : SegId) (m : Nat) : Prop :=
  match before.closure, after.closure with
  | false, true => Sourced r j .zone m ∨ (j ∈ after.exposed ∧ m = n ∧ r.configured j = true)
  | true, false => Sourced r j .zone m ∧ ¬ (j ∈ after.exposed ∧ m = n)
  | _, _ => Sourced r j .zone m

/-- What a change of a zone record leaves (R105, R106). -/
structure ZoneStep (z : ZoneId) (before after : Zone) (s t : State) : Prop where
  zoneUnit : t.zoneUnit = { s.zoneUnit with zones := put s.zoneUnit.zones z after }
  keeps : KeepsBut [.zoneUnit, .links, .road] s t
  gains : ∃ g, Gains (zoneFlags before after ||| g) s t ∧ Within (Attn.segment ||| Attn.gate) g
  configured : ∀ i, t.road.configured i = s.road.configured i
  others : ∀ i k, k ≠ .zone → heldEntry t.road i k = heldEntry s.road i k
  sources : ∀ j m, Sourced t.road j .zone m ↔ zoneSources before after z.val s.road j m

/-- The zone record is written, and its attention set, before its sources follow. -/
def zoneWritten (z : ZoneId) (before after : Zone) (s : State) : State :=
  ({ s with zoneUnit := { s.zoneUnit with zones := put s.zoneUnit.zones z after } } : State).attend (zoneFlags before after)

theorem ZoneStep.of_entryStep {z : ZoneId} {before after : Zone} {s t : State}
    (h : EntryStep .zone (zoneWritten z before after s) t)
    (hs : ∀ j m, Sourced t.road j .zone m ↔ zoneSources before after z.val s.road j m) : ZoneStep z before after s t := by
  obtain ⟨f, hg, hw⟩ := h.gains
  have hkeep : KeepsBut [.zoneUnit, .links] s (zoneWritten z before after s) := by
    intro b hb
    cases b <;> simp_all [Block.same, zoneWritten]
  have hgain : Gains (zoneFlags before after) s (zoneWritten z before after s) := attend_gains _ _
  exact ⟨(h.keeps .zoneUnit (by simp)), (hkeep.mono (by simp)).trans' (h.keeps.mono (by simp)), ⟨f, hgain.trans' hg, hw⟩,
    h.configured, h.others, hs⟩

theorem onZone_spec (z : ZoneId) (f : Zone → Zone) (e : Ev) :
    ZoneStep z (e.st.zoneUnit.zones.get z) (f (e.st.zoneUnit.zones.get z)) e.st (e.onZone z f).st := by
  unfold Ev.onZone
  dsimp only
  generalize e.st.zoneUnit.zones.get z = before
  generalize f before = after
  generalize he : (if before.effective = after.effective then _ else _ : Ev) = e1
  have hst : e1.st = zoneWritten z before after e.st := by
    rw [← he]
    split <;> rfl
  split
  · next hb ha =>
    obtain ⟨h1, h2⟩ := e1.addSource_spec .zone z.val after.exposed
    rw [hst] at h1 h2
    exact .of_entryStep h1 fun j m => by rw [h2, zoneSources, hb, ha]; rfl
  · next hb ha =>
    obtain ⟨h1, h2⟩ := e1.removeSource_spec .zone z.val after.exposed
    rw [hst] at h1 h2
    exact .of_entryStep h1 fun j m => by rw [h2, zoneSources, hb, ha]; rfl
  · next h1 h2 =>
    refine .of_entryStep (by rw [hst]; exact .rfl' _ _) fun j m => ?_
    rw [hst, zoneSources]
    split
    · next hb ha => exact absurd ha (h1 hb)
    · next hb ha => exact absurd ha (h2 hb)
    · rfl

-- ---------------------------------------------------------------- the end of an event, and the entries

theorem rel_confirms_heldEntry {r r' : Road} {i : SegId} (h : Option.Rel Confirms (r.segs.get i) (r'.segs.get i)) (k : HoldKind) :
    heldEntry r' i k = heldEntry r i k := by
  unfold heldEntry
  revert h
  generalize r.segs.get i = a
  generalize r'.segs.get i = b
  intro h
  cases h with
  | none => rfl
  | some h => simp [h.holds]

theorem finish_heldEntry (e : Ev) (i : SegId) (k : HoldKind) : heldEntry e.finish.road i k = heldEntry e.st.road i k :=
  rel_confirms_heldEntry ((finish_confirms e).2 i) k

theorem finish_configured (e : Ev) (i : SegId) : e.finish.road.configured i = e.st.road.configured i := by
  have h := (finish_confirms e).2 i
  unfold Road.configured
  revert h
  generalize e.st.road.segs.get i = a
  generalize e.finish.road.segs.get i = b
  intro h
  cases h <;> rfl

/-- Segments by their entries. -/
theorem segmentBecomes_of_entries {s t : State} {P : SegId → Segment → Segment → Prop}
    (hc : ∀ i, t.road.configured i = s.road.configured i)
    (h : ∀ i sg sg', s.road.segs.get i = some sg → t.road.segs.get i = some sg' →
      (∀ k, heldEntry s.road i k = sg.holds.entry k) → (∀ k, heldEntry t.road i k = sg'.holds.entry k) → P i sg sg') :
    SegmentBecomes s t P := by
  intro i sg hi
  have hci := hc i
  unfold Road.configured at hci
  rw [hi] at hci
  obtain ⟨sg', hi'⟩ := Option.isSome_iff_exists.1 hci
  exact ⟨sg', hi', h i sg sg' hi hi' (fun k => by simp [heldEntry, hi]) (fun k => by simp [heldEntry, hi'])⟩

-- ---------------------------------------------------------------- the avalanche link is lost (R104)

theorem lose_set {z : Zone} (h : z.status = .set) : z.lose = ({ z with status := .unknown } : Zone).judge := by
  unfold Zone.lose
  rw [h]

theorem lose_unknown {z : Zone} (h : z.status = .unknown) : z.lose = z := by
  unfold Zone.lose
  rw [h]

/-- A zone that becomes UNKNOWN tells of it, and one that is UNKNOWN stays as it is (R104, R106). -/
theorem zoneFlags_lose (z : Zone) : zoneFlags z z.lose = FlagSet.when (z.status == .set) Attn.zone := by
  cases hs : z.status with
  | set =>
    rw [lose_set hs, zoneFlags, hs]
    show FlagSet.when (_ || true) Attn.zone = _
    rw [Bool.or_true]
    rfl
  | unknown =>
    rw [lose_unknown hs, zoneFlags]
    simp
    rfl

theorem lose_exposed (z : Zone) : z.lose.exposed = z.exposed := by
  unfold Zone.lose
  split <;> rfl

/-- What the loss of the avalanche link leaves of the zones of a list (R104 to R106). -/
structure ZonesLost (l : List ZoneId) (s t : State) : Prop where
  zones : ∀ z, t.zoneUnit.zones.get z = if z ∈ l then (s.zoneUnit.zones.get z).lose else s.zoneUnit.zones.get z
  quals : t.zoneUnit.quals = s.zoneUnit.quals
  keeps : KeepsBut [.zoneUnit, .links, .road] s t
  gains : ∃ f, Gains f s t ∧ Within (Attn.zone ||| (Attn.segment ||| Attn.gate)) f ∧
    (Includes Attn.zone f ↔ ∃ z ∈ l, (s.zoneUnit.zones.get z).status = .set)
  configured : ∀ i, t.road.configured i = s.road.configured i
  others : ∀ i k, k ≠ .zone → heldEntry t.road i k = heldEntry s.road i k
  kept : ∀ j (z : ZoneId), z ∉ l → Sourced s.road j .zone z.val → Sourced t.road j .zone z.val
  added : ∀ j, ∀ z ∈ l, (s.zoneUnit.zones.get z).closure = false → (s.zoneUnit.zones.get z).lose.closure = true →
    j ∈ (s.zoneUnit.zones.get z).exposed → s.road.configured j = true → Sourced t.road j .zone z.val

/-- The sources of another zone stand. -/
theorem zoneSources_other {before after : Zone} {n m : Nat} {r : Road} {j : SegId} (hne : m ≠ n) (h : Sourced r j .zone m) :
    zoneSources before after n r j m := by
  unfold zoneSources
  split
  · exact Or.inl h
  · exact ⟨h, fun hm => hne hm.2⟩
  · exact h

theorem foldl_lose_spec : ∀ (l : List ZoneId), l.Nodup → ∀ e : Ev,
    ZonesLost l e.st (l.foldl (fun e z => e.onZone z Zone.lose) e).st
  | [], _, e => ⟨fun _ => by simp, rfl, KeepsBut.rfl' _ _, ⟨0, Gains.of_eq rfl, within_zero _, by
      rw [includes_zone_iff]; simp⟩, fun _ => rfl, fun _ _ _ => rfl, fun _ _ _ h => h, fun _ _ h => by cases h⟩
  | z :: l, hn, e => by
    obtain ⟨hz, hn⟩ := List.nodup_cons.1 hn
    have h1 := onZone_spec z Zone.lose e
    have h2 := foldl_lose_spec l hn (e.onZone z Zone.lose)
    have hget : ∀ y, y ≠ z → (e.onZone z Zone.lose).st.zoneUnit.zones.get y = e.st.zoneUnit.zones.get y := fun y hy => by
      rw [h1.zoneUnit]
      exact get_put_other _ _ (Ne.symm hy)
    have hself : (e.onZone z Zone.lose).st.zoneUnit.zones.get z = (e.st.zoneUnit.zones.get z).lose := by
      rw [h1.zoneUnit]
      simp
    have hval : ∀ y : ZoneId, y ≠ z → y.val ≠ z.val := fun y hy h => hy (Fin.ext h)
    refine ⟨fun y => ?_, ?_, h1.keeps.trans' h2.keeps, ?_, fun i => (h2.configured i).trans (h1.configured i),
      fun i k hk => (h2.others i k hk).trans (h1.others i k hk), fun j y hy hs => ?_, fun j y hy hb ha hj hc => ?_⟩
    · rw [List.foldl_cons, h2.zones]
      by_cases hyz : y = z
      · subst hyz
        rw [if_neg hz, hself, if_pos (by simp)]
      · rw [hget y hyz]
        simp [hyz]
    · rw [List.foldl_cons, h2.quals, h1.zoneUnit]
    · obtain ⟨g, hg, hwg⟩ := h1.gains
      obtain ⟨f, hf, hwf, hif⟩ := h2.gains
      refine ⟨_, hg.trans' hf, ?_, ?_⟩
      · refine Within.or (Within.or ?_ (hwg.mono (by decide))) hwf
        rw [zoneFlags_lose]
        unfold FlagSet.when
        split
        · unfold Within; decide
        · exact within_zero _
      · have hbit := hwg.bit (k := 3) (by decide) (by decide)
        rw [includes_zone_iff] at hif
        rw [includes_zone_iff, BitVec.getLsbD_or, BitVec.getLsbD_or, hbit, Bool.or_false, Bool.or_eq_true, hif, zoneFlags_lose]
        have hhead : (FlagSet.when ((e.st.zoneUnit.zones.get z).status == .set) Attn.zone).getLsbD 3 = true ↔
            (e.st.zoneUnit.zones.get z).status = .set := by
          cases (e.st.zoneUnit.zones.get z).status <;> decide
        rw [hhead]
        constructor
        · rintro (h | ⟨y, hy, h⟩)
          · exact ⟨z, by simp, h⟩
          · rw [hget y (by rintro rfl; exact hz hy)] at h
            exact ⟨y, List.mem_cons_of_mem _ hy, h⟩
        · rintro ⟨y, hy, h⟩
          rcases List.mem_cons.1 hy with rfl | hyl
          · exact Or.inl h
          · exact Or.inr ⟨y, hyl, by rw [hget y (by rintro rfl; exact hz hyl)]; exact h⟩
    · refine h2.kept j y (fun h => hy (List.mem_cons_of_mem _ h)) ((h1.sources j _).2 (zoneSources_other (hval y ?_) hs))
      rintro rfl
      exact hy (by simp)
    · rcases List.mem_cons.1 hy with rfl | hyl
      · refine h2.kept j y hz ((h1.sources j _).2 ?_)
        rw [zoneSources, hb, ha]
        exact Or.inr ⟨by rw [lose_exposed]; exact hj, rfl, hc⟩
      · have hyz : y ≠ z := by rintro rfl; exact hz hyl
        rw [← hget y hyz] at hb ha hj
        exact h2.added j y hyl hb ha hj ((h1.configured j).trans hc)

-- ---------------------------------------------------------------- the silence of a link (R183)

/-- A link that falls silent, with LINK attention where it was ACTIVE (R183). -/
def State.silenced (l : Link) (s : State) : State :=
  let r := s.onLink l LinkRecord.silence
  if (s.links.get l).active then r.attend Attn.link else r

theorem silenced_keeps (l : Link) (s : State) : KeepsBut [.links] s (s.silenced l) := by
  unfold State.silenced
  dsimp only
  split <;> intro b hb <;> cases b <;> simp_all [Block.same]

/-- The links once one of them has fallen silent. -/
theorem silenced_get (l m : Link) (s : State) :
    ((s.silenced l).links.get m).attention = (s.links.get m).attention ||| (if (s.links.get l).active then Attn.link else 0) ∧
      ((s.silenced l).links.get m).receiver = (s.links.get m).receiver ∧
      ((s.silenced l).links.get m).enable = (s.links.get m).enable ∧
      ((s.silenced l).links.get m).active = (!decide (l = m) && (s.links.get m).active) ∧
      ((s.silenced l).links.get m).timer = if l = m then none else (s.links.get m).timer := by
  have hget : ((s.silenced l).links.get m) = (if (s.links.get l).active then LinkRecord.setFlags Attn.link else id)
      (if l = m then (s.links.get m).silence else s.links.get m) := by
    have h : (s.links.alter l LinkRecord.silence).get m = if l = m then (s.links.get m).silence else s.links.get m := by
      by_cases hm : l = m
      · subst hm; simp
      · rw [links_get_alter_other _ _ hm, if_neg hm]
    unfold State.silenced State.onLink
    dsimp only
    split
    · rw [State.attend_get]
      exact congrArg _ h
    · exact h
  rw [hget]
  by_cases hm : l = m <;> cases (s.links.get l).active <;> simp [hm, LinkRecord.silence]

/-- LINK_SILENCE_EXPIRY of a link whose timer has run out acts (R183). -/
theorem exec_linkSilenceExpiry {l : Link} {s : State} (h : (s.links.get l).timer = some 0) :
    exec (.linkSilenceExpiry l) s = .next (s.event (Ev.silence l)) :=
  congrArg Host.Outcome.next (if_pos ((due_iff _).2 h))

theorem silence_on_attend (l : Link) (s : State) :
    (if (s.links.get l).active then ((Ev.start s).on (State.onLink l LinkRecord.silence)).attend Attn.link
      else (Ev.start s).on (State.onLink l LinkRecord.silence)) = Ev.start (s.silenced l) := by
  unfold State.silenced
  dsimp only
  split <;> rfl

theorem silence_valley (s : State) : Ev.silence .valley (Ev.start s) = Ev.start (s.silenced .valley) :=
  silence_on_attend .valley s

theorem silence_avalanche (s : State) : Ev.silence .avalanche (Ev.start s) =
    (List.finRange 6).foldl (fun e z => e.onZone z Zone.lose) (Ev.start (s.silenced .avalanche)) := by
  rw [← silence_on_attend .avalanche s]
  rfl

/-- What the end of an event leaves of the state that it reached, but for the board and warning timers (R11, R152, R162). -/
structure Ends (u t : State) : Prop where
  keeps : KeepsBut [.links, .road, .board] u t
  gains : Gains 0 u t
  entries : ∀ i k, heldEntry t.road i k = heldEntry u.road i k
  configured : ∀ i, t.road.configured i = u.road.configured i

theorem finish_ends (e : Ev) : Ends e.st e.finish :=
  ⟨(finish_spec e).1, (finish_spec e).2.2, finish_heldEntry e, finish_configured e⟩

theorem event_ends (s : State) (f : Ev → Ev) : Ends (f (Ev.start s)).st (s.event f) := finish_ends _

/-- The silence of the avalanche link, from the zones that it loses to the end of its event (R104, R183). -/
theorem avalancheLost {s u t : State} (hlost : ZonesLost (List.finRange 6) (s.silenced .avalanche) u) (hfin : Ends u t) :
    KeepsBut [.links, .zoneUnit, .road, .board] s t ∧ t.links.avalanche.active = false ∧
      t.links.avalanche.timer = none ∧ t.zoneUnit.quals = s.zoneUnit.quals ∧
      (∃ f, (∀ m, (t.links.get m).attention = (s.links.get m).attention ||| f) ∧
        (Includes Attn.link f ↔ s.links.avalanche.active = true) ∧
        (Includes Attn.zone f ↔ ∃ z, (s.zoneUnit.zones.get z).status = .set) ∧
        Within (Attn.link ||| Attn.zone ||| Attn.segment ||| Attn.gate) f) ∧
      (∀ m, (t.links.get m).receiver = (s.links.get m).receiver ∧ (t.links.get m).enable = (s.links.get m).enable ∧
        (m ≠ .avalanche → (t.links.get m).active = (s.links.get m).active ∧
          (t.links.get m).timer = (s.links.get m).timer)) ∧
      (∀ z, t.zoneUnit.zones.get z = (s.zoneUnit.zones.get z).lose) ∧
      (∀ z i, (s.zoneUnit.zones.get z).closure = false → (t.zoneUnit.zones.get z).closure = true →
        i ∈ (s.zoneUnit.zones.get z).exposed → HasSource t i .zone z.val) ∧
      SegmentBecomes s t fun _ sg sg' => ∀ k, k ≠ .zone → sg'.holds.entry k = sg.holds.entry k := by
  have hsk := silenced_keeps .avalanche s
  have hzu : (s.silenced .avalanche).zoneUnit = s.zoneUnit := hsk .zoneUnit (by simp)
  have hroad : (s.silenced .avalanche).road = s.road := hsk .road (by simp)
  have htz : t.zoneUnit = u.zoneUnit := hfin.keeps .zoneUnit (by simp)
  have hzone : ∀ z, t.zoneUnit.zones.get z = (s.zoneUnit.zones.get z).lose := fun z => by
    rw [htz, hlost.zones, if_pos (List.mem_finRange z), hzu]
  obtain ⟨f, hg, hw, hif⟩ := hlost.gains
  have hgain : Gains f (s.silenced .avalanche) t := by simpa using hg.trans' hfin.gains
  have hself := silenced_get .avalanche .avalanche s
  refine ⟨((hsk.mono (by simp)).trans' (hlost.keeps.mono (by simp))).trans' (hfin.keeps.mono (by simp)),
    (hgain.active .avalanche).trans hself.2.2.2.1, (hgain.timer .avalanche).trans hself.2.2.2.2,
    (congrArg ZoneUnit.quals htz).trans (hlost.quals.trans (congrArg ZoneUnit.quals hzu)),
    ⟨(if (s.links.get .avalanche).active then Attn.link else 0) ||| f, fun m => ?_, ?_, ?_, ?_⟩, fun m => ?_, hzone,
    fun z i hb ha hi => hasSource_of_sourced fun hc => ?_, ?_⟩
  · rw [hgain.attention, (silenced_get .avalanche m s).1, BitVec.or_assoc]
  · have hbit := hw.bit (k := 8) (by decide) (by decide)
    rw [includes_link_iff, BitVec.getLsbD_or, hbit, Bool.or_false]
    show _ ↔ (s.links.get .avalanche).active = true
    cases (s.links.get .avalanche).active <;> decide
  · have hno : (if (s.links.get .avalanche).active then Attn.link else (0 : FlagSet)).getLsbD 3 = false := by
      cases (s.links.get .avalanche).active <;> decide
    rw [includes_zone_iff] at hif ⊢
    rw [BitVec.getLsbD_or, hno, Bool.false_or, hif]
    simp [hzu]
  · refine Within.or ?_ (hw.mono (by decide))
    split
    · unfold Within; decide
    · exact within_zero _
  · obtain ⟨_, h2, h3, h4, h5⟩ := silenced_get .avalanche m s
    refine ⟨(hgain.receiver m).trans h2, (hgain.enable m).trans h3, fun hm => ⟨(hgain.active m).trans ?_,
      (hgain.timer m).trans ?_⟩⟩
    · rw [h4]; simp [Ne.symm hm]
    · rw [h5, if_neg (Ne.symm hm)]
  · rw [hzone] at ha
    rw [hfin.configured, hlost.configured, hroad] at hc
    rw [sourced_congr (hfin.entries i .zone)]
    rw [← hzu] at hb ha hi
    exact hlost.added i z (List.mem_finRange z) hb ha hi (by rw [hroad]; exact hc)
  · refine segmentBecomes_of_entries (fun i => ?_) fun i sg sg' _ _ h1 h2 k hk => ?_
    · rw [hfin.configured, hlost.configured, hroad]
    · rw [← h2, ← h1, hfin.entries, hlost.others i k hk, hroad]

end Sys2Proof.Machine

open Sys2Proof Sys2Proof.Machine

/-- Settles O10: the valley link alone falls silent; with the avalanche link every zone is lost, one after the other. -/
theorem silenceTimerExpires : Obligations.SilenceTimerExpires := by
  intro s
  refine ⟨fun ht => ?_, fun ht => ?_⟩
  · have hev : s.event (Ev.silence .valley) = s.silenced .valley := by
      rw [State.event, silence_valley]
      exact finish_quiet _ setIds_replicate_false rfl
    have hself := silenced_get .valley .valley s
    refine ⟨_, exec_linkSilenceExpiry (l := .valley) ht, ?_⟩
    rw [hev]
    refine ⟨silenced_keeps .valley s, hself.2.2.2.1, hself.2.2.2.2, fun m => ?_⟩
    obtain ⟨h1, h2, h3, h4, h5⟩ := silenced_get .valley m s
    refine ⟨h1, h2, h3, fun hm => ⟨?_, ?_⟩⟩
    · rw [h4]; simp [Ne.symm hm]
    · rw [h5, if_neg (Ne.symm hm)]
  · have hfin := event_ends s (Ev.silence .avalanche)
    have hlost := foldl_lose_spec (List.finRange 6) (List.nodup_finRange 6) (Ev.start (s.silenced .avalanche))
    rw [← silence_avalanche s, start_st] at hlost
    refine ⟨_, exec_linkSilenceExpiry (l := .avalanche) ht, ?_⟩
    generalize s.event (Ev.silence .avalanche) = t at hfin ⊢
    generalize (Ev.silence .avalanche (Ev.start s)).st = u at hfin hlost
    obtain ⟨h1, h2, h3, h4, h5, h6, hzone, h7⟩ := avalancheLost hlost hfin
    refine ⟨h1, h2, h3, h4, h5, h6, fun z => (hzone z).trans ?_, h7⟩
    cases hs : (s.zoneUnit.zones.get z).status with
    | unknown => exact lose_unknown hs
    | set => exact lose_set hs

end

section
/-! ZONE_LEVEL (R102 to R106) with the automatic start-up release that it can bring (R25). -/

namespace Sys2Proof.Machine

/-- The automatic start-up release where it is due takes STARTUP from every segment, and changes no other entry (R25). -/
theorem judgeRelease_spec (e : Ev) : EntryStep .startup e.st e.judgeRelease.st ∧ ∀ j,
    heldEntry e.judgeRelease.st.road j .startup = if e.releaseDue then none else heldEntry e.st.road j .startup := by
  unfold Ev.judgeRelease
  split
  · obtain ⟨h1, h2⟩ := e.remove_spec .startup e.segs
    refine ⟨h1, fun j => ?_⟩
    rw [h2]
    split
    · rfl
    · next hj => exact heldEntry_unconfigured fun hc => hj ((configuredIds_mem _ _).2 hc)
  · exact ⟨.rfl' _ _, fun _ => rfl⟩

/-- A zone record as ZONE_LEVEL leaves it (R102, R103). -/
theorem setTo_eq (level : Nat) (z : Zone) : Zone.setTo level z = { z with
    setLevel := min 5 level, status := .set, setSinceReset := true, effective := min 5 level,
    warning := decide (z.warnThreshold ≤ min 5 level), closure := decide (z.closeThreshold ≤ min 5 level) } := rfl

theorem includes_zoneFlags_setTo (level : Nat) (z : Zone) :
    Includes Attn.zone (zoneFlags z (Zone.setTo level z)) ↔ z.effective ≠ min 5 level ∨ z.status = .unknown := by
  rw [includes_zone_iff, zoneFlags, setTo_eq, FlagSet.when]
  dsimp only
  by_cases he : z.effective = min 5 level
  · cases hs : z.status with
    | set => simp [he]
    | unknown =>
      simp [he]
      decide
  · simp [he]
    decide

/-- What an accepted ZONE_LEVEL leaves, from the zone's change and the release to the end of its event. -/
structure ZoneSet (z : ZoneId) (level : Nat) (h t : State) : Prop where
  zoneUnit : t.zoneUnit = { h.zoneUnit with
    zones := put h.zoneUnit.zones z (Zone.setTo level (h.zoneUnit.zones.get z)) }
  keeps : KeepsBut [.zoneUnit, .links, .road, .board] h t
  gains : ∃ f, Gains f h t ∧
    (Includes Attn.zone f ↔ (h.zoneUnit.zones.get z).effective ≠ min 5 level ∨ (h.zoneUnit.zones.get z).status = .unknown)
  configured : ∀ i, t.road.configured i = h.road.configured i
  others : ∀ i k, k ≠ .zone → k ≠ .startup → heldEntry t.road i k = heldEntry h.road i k
  startup : ∀ i, heldEntry t.road i .startup = if h.commissioned = true ∧ h.valleyHeard = true ∧ h.avalancheHeard = true ∧
    (∀ y, (t.zoneUnit.zones.get y).setSinceReset = true) then none else heldEntry h.road i .startup
  sources : ∀ j m, Sourced t.road j .zone m ↔
    zoneSources (h.zoneUnit.zones.get z) (Zone.setTo level (h.zoneUnit.zones.get z)) z.val h.road j m

theorem zoneLevel_event (z : ZoneId) (level : Nat) (e : Ev) :
    ZoneSet z level e.st ((e.onZone z (Zone.setTo level)).judgeRelease).finish := by
  have h1 := onZone_spec z (Zone.setTo level) e
  obtain ⟨h2, hst⟩ := judgeRelease_spec (e.onZone z (Zone.setTo level))
  have h3 := finish_ends (e.onZone z (Zone.setTo level)).judgeRelease
  have hzu : ((e.onZone z (Zone.setTo level)).judgeRelease).finish.zoneUnit = (e.onZone z (Zone.setTo level)).st.zoneUnit :=
    (h3.keeps .zoneUnit (by simp)).trans (h2.keeps .zoneUnit (by simp))
  obtain ⟨f1, hg1, hw1⟩ := h1.gains
  obtain ⟨f2, hg2, hw2⟩ := h2.gains
  refine ⟨hzu.trans h1.zoneUnit, (h1.keeps.mono (by simp)).trans' ((h2.keeps.mono (by simp)).trans' (h3.keeps.mono (by simp))),
    ⟨_, (hg1.trans' hg2).trans' h3.gains, ?_⟩, fun i => ?_, fun i k h4 h5 => ?_, fun i => ?_, fun j m => ?_⟩
  · rw [includes_zone_or (within_zero _), includes_zone_or hw2, includes_zone_or hw1]
    exact includes_zoneFlags_setTo level _
  · rw [h3.configured, h2.configured, h1.configured]
  · rw [h3.entries, h2.others i k h5, h1.others i k h4]
  · have hdue : (e.onZone z (Zone.setTo level)).releaseDue = true ↔ e.st.commissioned = true ∧ e.st.valleyHeard = true ∧
        e.st.avalancheHeard = true ∧
        ∀ y, (((e.onZone z (Zone.setTo level)).judgeRelease).finish.zoneUnit.zones.get y).setSinceReset = true := by
      have hm := h1.keeps .marks (by simp)
      unfold Ev.releaseDue
      rw [hzu, Bool.and_eq_true, Bool.and_eq_true, Bool.and_eq_true, allIds_iff, h1.keeps .commissioned (by simp), hm.1, hm.2]
      simp only [and_assoc]
    rw [h3.entries, hst, h1.others i .startup (by decide)]
    exact if_congr hdue rfl rfl
  · rw [sourced_congr (h3.entries j .zone), sourced_congr (h2.others j .zone (by decide))]
    exact h1.sources j m

end Sys2Proof.Machine

open Sys2Proof Sys2Proof.Machine

/-- Settles O40: the checks of R103 in their order, then the zone record with its sources, and the release where it is due. -/
theorem zoneLevelSetsTheZone : Obligations.ZoneLevelSetsTheZone := by
  intro l zone level s hr
  have hcom := needCommissioned_heard l s
  refine ⟨_, rfl, fun h => ?_, fun h1 h2 => ?_, fun h1 h2 h3 => ?_, fun z h1 h2 h3 => ?_⟩
  · exact refused_of_deny hr (check_of_failure (by simp [h]))
  · exact refused_of_deny hr (check_of_failure (by rw [hearing_st, hcom]; simp [h1, h2]))
  · refine refused_of_deny hr ((check_of_pass (by rw [hearing_st, hcom]; simp [h1, h2])).trans ?_)
    have hnone : idOf 6 zone = none := dif_neg (by omega)
    rw [hnone]
  · have hacc : judgeZoneLevel l zone level (hearing l s) =
        .accept (((hearing l s).onZone z (Zone.setTo level.toNat)).judgeRelease) fun t =>
          [Result.ok.code, zone] ++ byte1 (t.zoneUnit.zones.get z).setLevel ++ byte1 (t.zoneUnit.zones.get z).effective := by
      refine (check_of_pass (by rw [hearing_st, hcom]; simp [h1, h2])).trans ?_
      rw [idOf_eq_some.2 h3]
    have hset := zoneLevel_event z level.toNat (hearing l s)
    rw [takeRequest_accepted hr hacc]
    generalize (((hearing l s).onZone z (Zone.setTo level.toNat)).judgeRelease).finish = u at hset
    have hz : (hearing l s).st.zoneUnit = s.zoneUnit := heardState_zoneUnit l s
    have hself : u.zoneUnit.zones.get z = Zone.setTo level.toNat (s.zoneUnit.zones.get z) := by
      rw [hset.zoneUnit, hz]
      simp
    obtain ⟨f, hg, hf⟩ := hset.gains
    rw [hz] at hf
    have hbody : ([Result.ok.code, zone] ++ byte1 (u.zoneUnit.zones.get z).setLevel ++
        byte1 (u.zoneUnit.zones.get z).effective) =
        [0x00, zone] ++ byte1 (min 5 level.toNat) ++ byte1 (min 5 level.toNat) := by
      rw [hself]
      rfl
    rw [hbody]
    refine ⟨?_, hset.keeps.trans' ((startReply_answered _ _ _ _).2.mono (by simp)), ⟨f, hg.answered l 0x0D _, hf⟩,
      fun hb ha i hi => hasSource_of_sourced fun hc => (hset.sources i _).2 ?_, ?_⟩
    · rw [State.startReply_zoneUnit, hset.zoneUnit, hz]
      rfl
    · rw [hz, zoneSources, hb, show (Zone.setTo level.toNat (s.zoneUnit.zones.get z)).closure = true from ha]
      exact Or.inr ⟨hi, rfl, (hset.configured i).symm.trans hc⟩
    · refine segmentBecomes_of_entries hset.configured fun i sg sg' _ _ he he' => ⟨fun k hk1 hk2 => ?_, ?_, fun hb ha hi x hx hm => ?_⟩
      · rw [← he', ← he]
        exact hset.others i k hk1 hk2
      · rw [← he', ← he]
        refine (hset.startup i).trans (if_congr ?_ rfl rfl)
        rw [hearing_st, heardState_commissioned, h2]
        simp
      · have hs := (hset.sources i z.val).1 ⟨x, (he' .zone).trans hx, hm⟩
        rw [hz, zoneSources, hb, show (Zone.setTo level.toNat (s.zoneUnit.zones.get z)).closure = false from ha] at hs
        exact hs.2 ⟨hi, rfl⟩

end

section
/-! What a step of the sign line leaves (R158 to R172): the line that the arbiter makes of it, the one sign that it hands to the
segment table, and the ways in which a frame ends. -/

namespace Sys2Proof.Machine

-- ---------------------------------------------------------------- the one sign handed on

theorem finRange_filter_eq {n : Nat} (i : Fin n) : (List.finRange n).filter (fun j => decide (j = i)) = [i] := by
  refine List.perm_singleton.1 ((List.perm_ext_iff_of_nodup ((List.nodup_finRange n).filter _) (List.nodup_singleton i)).2 ?_)
  intro j
  simp

theorem setIds_put_replicate {n : Nat} (i : Fin n) : setIds (put (Vector.replicate n false) i true) = [i] := by
  unfold setIds idsWhere
  rw [← finRange_filter_eq i]
  refine List.filter_congr fun j _ => ?_
  rw [get_put, get_replicate]
  by_cases h : i = j
  · simp [h]
  · simp [h, Ne.symm h]

-- ---------------------------------------------------------------- warning confirmation (R11)

theorem mem_closureClasses (c : PageClass) : c ∈ closureClasses ↔ c.urgent = true := by cases c <;> decide

/-- The boards agree on what warning confirmation reads. -/
def SameShown (b b' : Board) : Prop := b'.line.records = b.line.records ∧ ∀ j, (b'.signs.get j).segment = (b.signs.get j).segment ∧
  (b'.signs.get j).role = (b.signs.get j).role ∧ (b'.signs.get j).desired = (b.signs.get j).desired

theorem SameShown.confirmsWarning {b b' : Board} (h : SameShown b b') (sg : Segment) :
    ConfirmsWarning b' sg ↔ ConfirmsWarning b sg := by
  obtain ⟨hr, hs⟩ := h
  unfold ConfirmsWarning
  simp only [hr, (hs _).2.2]

/-- Warning confirmation is judged alike on boards that agree on what it reads, between states with the same roads. -/
theorem JudgesWarning.congr {i : SignId} {b b' : Board} {s s' t t' : State} (h : JudgesWarning i b s t) (hb : SameShown b b')
    (hs : s'.road = s.road) (ht : t'.road = t.road) : JudgesWarning i b' s' t' := by
  unfold JudgesWarning at *
  rw [hs, ht, (hb.2 i).1, (hb.2 i).2.1]
  simp only [hb.confirmsWarning]
  exact h

/-- Conditions 1 and 2 of R11 as the road's chain reads them. -/
theorem roadCtx_confirmed {s : State} {j : SegId} {sg : Segment} (h : s.road.segs.get j = some sg) :
    s.roadCtx.confirmed.get j = true ↔ ConfirmsWarning s.board sg := by
  unfold State.roadCtx ConfirmsWarning
  dsimp only
  rw [get_mapIds, h]
  simp only [Bool.or_eq_true, List.any_eq_true, List.all_eq_true, List.mem_map, List.mem_filter, beq_iff_eq]
  refine or_congr ⟨?_, ?_⟩ ⟨?_, ?_⟩
  · rintro ⟨i, ⟨p, ⟨hp, hrole⟩, rfl⟩, hshow⟩
    refine ⟨p, hp, hrole, ?_⟩
    revert hshow
    cases hd : (s.board.signs.get p.1).desired with
    | none => simp
    | some d =>
      cases hc : (s.board.line.records.get p.1).confirmed with
      | none => simp
      | some c =>
        simp only [Bool.and_eq_true, beq_iff_eq, Option.some.injEq, exists_eq_left', Option.map_some, mem_closureClasses]
        rintro ⟨⟨hcur, href⟩, hurgent⟩
        exact ⟨hcur, hurgent, href⟩
  · rintro ⟨p, hp, hrole, hcur, d, hd, hcls, hconf⟩
    obtain ⟨c, hc, hr⟩ := Option.map_eq_some_iff.1 hconf
    refine ⟨p.1, ⟨p, ⟨hp, hrole⟩, rfl⟩, ?_⟩
    rw [hd, hc]
    simp [hcur, hr, (mem_closureClasses _).1 hcls]
  · intro hall p hp hrole
    exact hall p.1 ⟨p, ⟨hp, hrole⟩, rfl⟩
  · rintro hall i ⟨p, ⟨hp, hrole⟩, rfl⟩
    exact hall p hp hrole

/-- Handing one sign on has warning confirmation judged for the segment that it serves as APPROACH (R11, R171). -/
theorem judgeSigns_single (i : SignId) (s : State) : JudgesWarning i s.board s (s.judgeSigns [i]) := by
  show JudgesWarning i s.board s (match (s.board.signs.get i).role with
    | .approach => s.judgeWarning (s.board.signs.get i).segment
    | .info => s)
  cases hrole : (s.board.signs.get i).role with
  | info =>
    refine ⟨rfl, fun j => ?_⟩
    dsimp only
    cases hj : s.road.segs.get j with
    | none => rfl
    | some sg => exact ⟨fun h => by simp [hrole] at h, fun _ => rfl⟩
  | approach =>
    refine ⟨rfl, fun j => ?_⟩
    have hget : (s.judgeWarning (s.board.signs.get i).segment).road.segs.get j = _ :=
      RoadEv.setSeg_get { road := s.road, flags := 0, touched := Vector.replicate 8 false } (s.board.signs.get i).segment j
        fun sg => if sg.state == .warning && sg.warningTimer.isNone && s.roadCtx.confirmed.get (s.board.signs.get i).segment
          then RoadEv.startWarning sg else sg
    dsimp only at hget ⊢
    rw [hget, hrole]
    by_cases hij : (s.board.signs.get i).segment = j
    · subst hij
      cases hj : s.road.segs.get (s.board.signs.get i).segment with
      | none => simp
      | some sg =>
        have hc : (sg.state == .warning && sg.warningTimer.isNone &&
            s.roadCtx.confirmed.get (s.board.signs.get i).segment) = true ↔
            sg.state = .warning ∧ sg.warningTimer = none ∧ ConfirmsWarning s.board sg := by
          simp [roadCtx_confirmed hj, and_assoc]
        rw [if_pos rfl, Option.map_some]
        refine ⟨fun _ h1 h2 h3 => ?_, fun hn => ?_⟩
        · rw [if_pos (hc.2 ⟨h1, h2, h3⟩)]
          rfl
        · rw [if_neg fun h => hn ⟨⟨rfl, rfl⟩, hc.1 h⟩]
    · rw [if_neg hij]
      cases hj : s.road.segs.get j with
      | none => rfl
      | some sg => exact ⟨fun h => absurd h.1 hij, fun _ => rfl⟩

-- ---------------------------------------------------------------- what the arbiter leaves (R162, R163)

namespace Board

/-- The board once a transfer of a page to a sign has begun (R164). -/
def begun (b : Board) (i : SignId) (d : Desired) : Board :=
  { b with line := { b.line with
      records := put b.line.records i { b.line.records.get i with state := .sending }, lastServed := i,
      transfer := some (Transfer.new i d), sent := some ⟨selectFrame i false, none⟩ } }

theorem begin_eq {b : Board} {i : SignId} {d : Desired} (h : (b.signs.get i).desired = some d) : b.begin i = b.begun i d := by
  unfold begin
  rw [h]
  rfl

/-- The arbiter leaves the board, begins a transfer on a free line, or sends a due probe on one. -/
theorem arbitrate_cases (b : Board) : b.arbitrate = b ∨
    (∃ i d, b.isFree = true ∧ b.eligible i = true ∧ (b.signs.get i).desired = some d ∧ b.arbitrate = b.begun i d) ∨
    ∃ i, b.isFree = true ∧ b.probeDue i = true ∧ b.arbitrate = b.sendProbe i := by
  rcases b.arbitrate_spec with h | ⟨hf, i, he, h⟩ | ⟨hf, _, i, hp, h⟩
  · exact Or.inl h
  · have hd : (b.signs.get i).desired.isSome = true := by
      simp only [eligible, Bool.and_eq_true] at he
      exact he.1.2
    obtain ⟨d, hd⟩ := Option.isSome_iff_exists.1 hd
    exact Or.inr (Or.inl ⟨i, d, hf, he, hd, h.trans (begin_eq hd)⟩)
  · exact Or.inr (Or.inr ⟨i, hf, hp, h⟩)

theorem eligible_iff (b : Board) (i : SignId) : b.eligible i = true ↔ (b.signs.get i).needs = true ∧
    (b.signs.get i).desired.isSome = true ∧
    ((b.line.records.get i).state = .stale ∨ (b.line.records.get i).state = .current) := by
  simp [eligible, and_assoc]

theorem probeDue_iff (b : Board) (i : SignId) : b.probeDue i = true ↔
    (b.line.records.get i).state = .fault ∧ (b.line.records.get i).probe = .expired := by
  simp [probeDue]

theorem isFree_iff (b : Board) : b.isFree = true ↔ b.line.transfer = none ∧ b.line.probing = none := by
  simp [isFree]

/-- What the arbiter makes of one line record. -/
theorem arbitrate_record (b : Board) (i : SignId) : b.arbitrate.line.records.get i = b.line.records.get i ∨
    (b.eligible i = true ∧ b.arbitrate.line.records.get i = { b.line.records.get i with state := .sending } ∧
      ∃ d, b.arbitrate.line.transfer = some (Transfer.new i d)) ∨
    (b.probeDue i = true ∧ b.arbitrate.line.records.get i = { b.line.records.get i with probe := .stopped }) := by
  rcases b.arbitrate_cases with h | ⟨j, d, _, he, _, h⟩ | ⟨j, _, hp, h⟩
  · exact Or.inl (by rw [h])
  · rw [h]
    by_cases hij : j = i
    · subst hij
      exact Or.inr (Or.inl ⟨he, get_put_same .., d, rfl⟩)
    · exact Or.inl (get_put_other _ _ hij)
  · rw [h]
    by_cases hij : j = i
    · subst hij
      exact Or.inr (Or.inr ⟨hp, get_alter_same ..⟩)
    · exact Or.inl (get_alter_other _ _ hij)

/-- The arbiter leaves the record of a sign that neither is eligible nor has its probe due. -/
theorem arbitrate_record_eq {b : Board} {i : SignId} (he : b.eligible i = false) (hp : b.probeDue i = false) :
    b.arbitrate.line.records.get i = b.line.records.get i := by
  rcases b.arbitrate_record i with h | ⟨h, _⟩ | ⟨h, _⟩
  · exact h
  · rw [he] at h
    cases h
  · rw [hp] at h
    cases h

/-- A transfer found after the arbiter has acted on a free line is a new one. -/
theorem arbitrate_transfer {b : Board} {t : Transfer} (hb : b.line.transfer = none) (h : b.arbitrate.line.transfer = some t) :
    ∃ i d, t = Transfer.new i d := by
  rcases b.arbitrate_cases with e | ⟨j, d, _, _, _, e⟩ | ⟨j, _, _, e⟩ <;> rw [e] at h
  · rw [hb] at h
    cases h
  · exact ⟨j, d, (Option.some.inj h).symm⟩
  · exact absurd (hb.symm.trans h) nofun

end Board

-- ---------------------------------------------------------------- a step of the line that hands a sign on, or none

theorem KeepsBut.of_road {s t : State} (h : KeepsBut [.links, .road, .board] s t) (hr : t.road = s.road) :
    KeepsBut [.links, .board] s t := by
  intro b hb
  by_cases hroad : b = .road
  · subst hroad
    exact hr
  · exact h b (by simp_all)

theorem lineStep_keeps (f : BoardEv → BoardEv) (s : State) :
    KeepsBut [.links, .board, .road] s (s.lineStep f) ∧ SameRoad s (s.lineStep f) :=
  ⟨(lineStep_spec f s).1.mono (by simp), (lineStep_spec f s).2.1⟩

theorem lineStep_quiet {f : BoardEv → BoardEv} {s : State}
    (h : (f (BoardEv.start s.board)).handed = Vector.replicate 12 false) : (s.lineStep f).road = s.road := by
  unfold State.lineStep State.onBoard
  dsimp only
  rw [h, setIds_replicate_false]
  rfl

theorem lineStep_handed {f : BoardEv → BoardEv} {s : State} {i : SignId}
    (h : (f (BoardEv.start s.board)).handed = put (Vector.replicate 12 false) i true) :
    JudgesWarning i (f (BoardEv.start s.board)).board s (s.lineStep f) := by
  have hj := judgeSigns_single i
    (({ s with board := (f (BoardEv.start s.board)).board } : State).attend (f (BoardEv.start s.board)).flags)
  refine hj.congr ⟨rfl, fun _ => ⟨rfl, rfl, rfl⟩⟩ rfl ?_
  unfold State.lineStep State.onBoard
  dsimp only
  rw [h, setIds_put_replicate]
  rfl

-- ---------------------------------------------------------------- the ways in which a frame ends

/-- The line goes on with a transfer: its frame has been sent, and nothing else has changed (R159). -/
theorem lineStep_send {f : BoardEv → BoardEv} {s : State} {b : Board} {tr : Transfer}
    (hf : f (BoardEv.start s.board) = (BoardEv.start b).on fun b => b.send tr) :
    KeepsBut [.links, .board] s (s.lineStep f) ∧ Gains 0 s (s.lineStep f) ∧ (s.lineStep f).board = { b with line :=
      { b.line with transfer := some tr, sent := some ⟨tr.frame, none⟩ } } := by
  obtain ⟨hk, _, hb, hg⟩ := lineStep_spec f s
  rw [hf] at hb hg
  exact ⟨hk.of_road (lineStep_quiet (by rw [hf]; rfl)), hg, hb.trans (Board.arbitrate_busy rfl)⟩

/-- The line record of a sign whose transfer has ended in FAULT (R169). -/
def LineRecord.failed (r : LineRecord) (c : SignFault) : LineRecord :=
  { r with state := .fault, cause := some c, probe := .running 60000 }

/-- The board with a line record of one sign written. -/
def Board.recorded (b : Board) (i : SignId) (r : LineRecord) : Board :=
  { b with line := { b.line with records := put b.line.records i r } }

/-- A transfer ends in FAULT (R169, R171). -/
theorem lineStep_fail {f : BoardEv → BoardEv} {s : State} {i : SignId} {c : SignFault}
    (hf : f (BoardEv.start s.board) = (BoardEv.start s.board).fail i c) :
    let t := s.lineStep f
    KeepsBut [.links, .board, .road] s t ∧ SameRoad s t ∧ Gains Attn.sign s t ∧ t.board.signs = s.board.signs ∧
      t.board.line.records.get i = (s.board.line.records.get i).failed c ∧
      JudgesWarning i (s.board.recorded i ((s.board.line.records.get i).failed c)) s t := by
  obtain ⟨_, _, hb, hg⟩ := lineStep_spec f s
  have hj := lineStep_handed (f := f) (s := s) (i := i) (by rw [hf]; rfl)
  rw [hf] at hb hg hj
  have hflags : ((BoardEv.start s.board).fail i c).flags = Attn.sign := BitVec.zero_or
  have hrec : ((BoardEv.start s.board).fail i c).board.line.records.get i = (s.board.line.records.get i).failed c :=
    get_alter_same ..
  refine ⟨(lineStep_keeps f s).1, (lineStep_keeps f s).2, hflags ▸ hg, ?_, ?_,
    hj.congr ⟨rfl, fun _ => ⟨rfl, rfl, rfl⟩⟩ rfl rfl⟩
  · rw [hb, Board.arbitrate_signs]
    rfl
  · rw [hb, Board.arbitrate_record_eq, hrec]
    · rw [Bool.eq_false_iff, Ne, Board.eligible_iff, hrec]
      simp [LineRecord.failed]
    · rw [Bool.eq_false_iff, Ne, Board.probeDue_iff, hrec]
      simp [LineRecord.failed]

/-- What an abandoned transfer leaves of its sign and of the line, where `b` is the board that it was abandoned on (R170). -/
structure Abandons (b : Board) (i : SignId) (b' : Board) : Prop where
  needs : (b'.signs.get i).needs = true
  contentMark : (b'.signs.get i).contentMark = (b.signs.get i).contentMark
  state : (b'.line.records.get i).state = .stale ∨ (b'.line.records.get i).state = .sending
  confirmed : (b'.line.records.get i).confirmed = (b.line.records.get i).confirmed
  width : (b'.line.records.get i).width = (b.line.records.get i).width
  transfer : ∀ t, b'.line.transfer = some t → ∃ j d, t = Transfer.new j d

theorem lineStep_abandon {f : BoardEv → BoardEv} {s : State} {b : Board} {i : SignId}
    (hf : f (BoardEv.start s.board) = (BoardEv.start b).abandon i) :
    KeepsBut [.links, .board] s (s.lineStep f) ∧ Gains 0 s (s.lineStep f) ∧ Abandons b i (s.lineStep f).board := by
  obtain ⟨hk, _, hb, hg⟩ := lineStep_spec f s
  have hq := lineStep_quiet (f := f) (s := s) (by rw [hf]; rfl)
  rw [hf] at hb hg
  have hrec : ((BoardEv.start b).abandon i).board.line.records.get i = { b.line.records.get i with state := .stale } :=
    get_alter_same ..
  have hsign : ((BoardEv.start b).abandon i).board.signs.get i = { b.signs.get i with needs := true } := get_alter_same ..
  have hsigns : (s.lineStep f).board.signs = ((BoardEv.start b).abandon i).board.signs := by
    rw [hb, Board.arbitrate_signs]
  have hafter : (s.lineStep f).board.line.records.get i = { b.line.records.get i with state := .stale } ∨
      (s.lineStep f).board.line.records.get i = { b.line.records.get i with state := .sending } := by
    rw [hb]
    rcases Board.arbitrate_record ((BoardEv.start b).abandon i).board i with h | ⟨_, h, _⟩ | ⟨h, _⟩
    · exact Or.inl (h.trans hrec)
    · exact Or.inr (by rw [h, hrec])
    · rw [Board.probeDue_iff, hrec] at h
      exact absurd h.1 nofun
  refine ⟨hk.of_road hq, hg, ⟨by rw [hsigns, hsign], by rw [hsigns, hsign], ?_, ?_, ?_, fun t ht => ?_⟩⟩
  · rcases hafter with h | h <;> simp [h]
  · rcases hafter with h | h <;> simp [h]
  · rcases hafter with h | h <;> simp [h]
  · rw [hb] at ht
    exact Board.arbitrate_transfer rfl ht

/-- The line record of a sign that shows a page (R168). -/
def LineRecord.shows (r : LineRecord) (page : Confirmed) : LineRecord := { r with state := .current, confirmed := some page }

/-- A transfer ends with its page shown; with a change pending the sign may be sent to again at once (R168, R170). -/
theorem lineStep_confirm {f : BoardEv → BoardEv} {s : State} {tr : Transfer}
    (hf : f (BoardEv.start s.board) = (BoardEv.start s.board).confirm tr) :
    let t := s.lineStep f
    let shown := (s.board.line.records.get tr.target).shows tr.page
    KeepsBut [.links, .board, .road] s t ∧ SameRoad s t ∧ Gains 0 s t ∧
      t.board.signs = put s.board.signs tr.target
        { s.board.signs.get tr.target with contentMark := false, needs := tr.changePending } ∧
      (t.board.line.records.get tr.target = shown ∨
        (tr.changePending = true ∧ t.board.line.records.get tr.target = { shown with state := .sending } ∧
          ∃ d, t.board.line.transfer = some (Transfer.new tr.target d))) ∧
      JudgesWarning tr.target (s.board.recorded tr.target shown) s t := by
  obtain ⟨_, _, hb, hg⟩ := lineStep_spec f s
  have hj := lineStep_handed (f := f) (s := s) (i := tr.target) (by rw [hf]; rfl)
  rw [hf] at hb hg hj
  have hrec : ((BoardEv.start s.board).confirm tr).board.line.records.get tr.target =
      (s.board.line.records.get tr.target).shows tr.page := get_alter_same ..
  have hsign : ((BoardEv.start s.board).confirm tr).board.signs.get tr.target =
      { s.board.signs.get tr.target with contentMark := false, needs := tr.changePending } := get_alter_same ..
  refine ⟨(lineStep_keeps f s).1, (lineStep_keeps f s).2, hg, ?_, ?_, hj.congr ⟨rfl, fun j => ?_⟩ rfl rfl⟩
  · rw [hb, Board.arbitrate_signs]
    rfl
  · rw [hb]
    rcases Board.arbitrate_record ((BoardEv.start s.board).confirm tr).board tr.target with h | ⟨he, h, ht⟩ | ⟨h, _⟩
    · exact Or.inl (h.trans hrec)
    · rw [Board.eligible_iff, hsign] at he
      exact Or.inr ⟨he.1, by rw [h, hrec], ht⟩
    · rw [Board.probeDue_iff, hrec] at h
      exact absurd h.1 nofun
  · have hget : ((BoardEv.start s.board).confirm tr).board.signs.get j = if tr.target = j then
        { s.board.signs.get tr.target with contentMark := false, needs := tr.changePending } else s.board.signs.get j :=
      get_alter ..
    rw [hget]
    split
    · next h => subst h; exact ⟨rfl, rfl, rfl⟩
    · exact ⟨rfl, rfl, rfl⟩

/-- A probe without READY: its timer restarts, and the sign stays in FAULT (R163, R172). -/
theorem lineStep_failProbe {f : BoardEv → BoardEv} {s : State} {i : SignId}
    (hf : f (BoardEv.start s.board) = (BoardEv.start s.board).failProbe i)
    (hi : (s.board.line.records.get i).state = .fault) :
    let t := s.lineStep f
    KeepsBut [.links, .board] s t ∧ Gains 0 s t ∧ t.board.signs = s.board.signs ∧
      t.board.line.records.get i = { s.board.line.records.get i with probe := .running 60000 } := by
  obtain ⟨hk, _, hb, hg⟩ := lineStep_spec f s
  have hq := lineStep_quiet (f := f) (s := s) (by rw [hf]; rfl)
  rw [hf] at hb hg
  have hrec : ((BoardEv.start s.board).failProbe i).board.line.records.get i =
      { s.board.line.records.get i with probe := .running 60000 } := get_alter_same ..
  refine ⟨hk.of_road hq, hg, by rw [hb, Board.arbitrate_signs]; rfl, ?_⟩
  rw [hb, Board.arbitrate_record_eq, hrec]
  · rw [Bool.eq_false_iff, Ne, Board.eligible_iff, hrec]
    simp [hi]
  · rw [Bool.eq_false_iff, Ne, Board.probeDue_iff, hrec]
    simp

/-- The line record of a sign whose probe was answered with READY (R172). -/
def LineRecord.recovered (r : LineRecord) (width : Width) : LineRecord :=
  { r with state := .stale, cause := none, probe := .stopped, width := width }

/-- A probe answered with READY: the sign leaves FAULT and needs service (R171, R172). -/
theorem lineStep_recover {f : BoardEv → BoardEv} {s : State} {i : SignId} {width : Width}
    (hf : f (BoardEv.start s.board) = (BoardEv.start s.board).recover i width) :
    let t := s.lineStep f
    KeepsBut [.links, .board, .road] s t ∧ SameRoad s t ∧ Gains Attn.sign s t ∧ (t.board.signs.get i).needs = true ∧
      (t.board.line.records.get i).state ≠ .fault ∧ (t.board.line.records.get i).cause = none ∧
      (t.board.line.records.get i).width = width ∧
      JudgesWarning i (s.board.recorded i ((s.board.line.records.get i).recovered width)) s t := by
  obtain ⟨_, _, hb, hg⟩ := lineStep_spec f s
  have hj := lineStep_handed (f := f) (s := s) (i := i) (by rw [hf]; rfl)
  rw [hf] at hb hg hj
  have hflags : ((BoardEv.start s.board).recover i width).flags = Attn.sign := BitVec.zero_or
  have hrec : ((BoardEv.start s.board).recover i width).board.line.records.get i =
      (s.board.line.records.get i).recovered width := get_alter_same ..
  have hsigns : ∀ j, ((BoardEv.start s.board).recover i width).board.signs.get j = if i = j then
      { s.board.signs.get i with needs := true } else s.board.signs.get j := fun j => get_alter ..
  have hafter : (s.lineStep f).board.line.records.get i = (s.board.line.records.get i).recovered width ∨
      (s.lineStep f).board.line.records.get i =
        { (s.board.line.records.get i).recovered width with state := .sending } := by
    rw [hb]
    rcases Board.arbitrate_record ((BoardEv.start s.board).recover i width).board i with h | ⟨_, h, _⟩ | ⟨h, _⟩
    · exact Or.inl (h.trans hrec)
    · exact Or.inr (by rw [h, hrec])
    · rw [Board.probeDue_iff, hrec] at h
      exact absurd h.1 nofun
  refine ⟨(lineStep_keeps f s).1, (lineStep_keeps f s).2, hflags ▸ hg,
    ?_, ?_, ?_, ?_, hj.congr ⟨rfl, fun j => ?_⟩ rfl rfl⟩
  · rw [hb, Board.arbitrate_signs, hsigns, if_pos rfl]
  · rcases hafter with h | h <;> simp [h, LineRecord.recovered]
  · rcases hafter with h | h <;> simp [h, LineRecord.recovered]
  · rcases hafter with h | h <;> simp [h, LineRecord.recovered]
  · rw [hsigns]
    split
    · next h => subst h; exact ⟨rfl, rfl, rfl⟩
    · exact ⟨rfl, rfl, rfl⟩

end Sys2Proof.Machine
end

section
/-! The replies to the frames of a transfer (R158, R159, R164 to R169) and the order of its units (R165). -/

namespace Sys2Proof.Machine

-- ---------------------------------------------------------------- the unit order

theorem finRange_four : List.finRange 4 = [0, 1, 2, 3] := by decide

theorem idsWhere_four (p : Fin 4 → Bool) : idsWhere p = [0, 1, 2, 3].filter p := by
  rw [idsWhere, finRange_four]

/-- The blocks that pass a test begin with the first one that does. -/
theorem idsWhere_eq_cons {p : Fin 4 → Bool} {lead : Fin 4} (hl : p lead = true) (hb : ∀ k, k < lead → p k = false) :
    ∃ rest, idsWhere p = lead :: rest := by
  rw [idsWhere_four]
  fin_cases lead
  · exact ⟨_, List.filter_cons_of_pos hl⟩
  · exact ⟨_, by rw [List.filter_cons_of_neg (by simp [hb 0])]; exact List.filter_cons_of_pos hl⟩
  · exact ⟨_, by
      rw [List.filter_cons_of_neg (by simp [hb 0]), List.filter_cons_of_neg (by simp [hb 1])]
      exact List.filter_cons_of_pos hl⟩
  · exact ⟨_, by
      rw [List.filter_cons_of_neg (by simp [hb 0]), List.filter_cons_of_neg (by simp [hb 1]),
        List.filter_cons_of_neg (by simp [hb 2])]
      exact List.filter_cons_of_pos hl⟩

/-- The order of the blocks as exclusive-ors of block numbers (R165). -/
theorem blockOrder_eq (lead : Fin 4) : blockOrder lead = [lead, lead ^^^ 2, lead ^^^ 1, lead ^^^ 3] := by
  fin_cases lead <;> rfl

theorem blockUnits_eq (width : Width) (k : Fin 4) :
    blockUnits width k = if width = .full then [⟨k, .whole⟩] else [⟨k, .first⟩, ⟨k, .second⟩] := by
  cases width <;> rfl

theorem blockUnits_ne_nil (width : Width) (k : Fin 4) : blockUnits width k ≠ [] := by
  cases width <;> exact List.cons_ne_nil _ _

/-- Without a changed block there is no unit. -/
theorem unitOrder_none {p : Fin 4 → Bool} (width : Width) (h : ∀ k, p k = false) : unitOrder width (idsWhere p) = [] := by
  rw [show idsWhere p = [] from List.filter_eq_nil_iff.2 fun k _ => by simp [h k]]
  rfl

/-- The units of the changed blocks, in the order that the first of them leads (R165). -/
theorem unitOrder_lead {p : Fin 4 → Bool} (width : Width) {lead : Fin 4} (hl : p lead = true)
    (hb : ∀ k, k < lead → p k = false) : unitOrder width (idsWhere p) =
      (([lead, lead ^^^ 2, lead ^^^ 1, lead ^^^ 3].filter p).flatMap (blockUnits width)) ∧
    unitOrder width (idsWhere p) ≠ [] := by
  obtain ⟨rest, hr⟩ := idsWhere_eq_cons hl hb
  have hc : ((blockOrder lead).filter (lead :: rest).contains) = [lead, lead ^^^ 2, lead ^^^ 1, lead ^^^ 3].filter p := by
    rw [← hr, blockOrder_eq]
    refine List.filter_congr fun k _ => ?_
    rw [Bool.eq_iff_iff, List.contains_iff_mem, mem_idsWhere]
  have he : unitOrder width (idsWhere p) =
      (([lead, lead ^^^ 2, lead ^^^ 1, lead ^^^ 3].filter p).flatMap (blockUnits width)) := by
    rw [← hc, hr]
    rfl
  refine ⟨he, ?_⟩
  rw [he, List.filter_cons_of_pos hl, List.flatMap_cons]
  exact List.append_ne_nil_of_left_ne_nil (blockUnits_ne_nil width lead) _

/-- A block counts as changed at the READY of a SELECT (R164, R168). -/
def blockChanged (t : Transfer) (r : LineRecord) (width : Width) (sum : Nat) (k : Fin 4) : Bool :=
  r.confirmed.all fun c => t.mismatchUsed || sum != c.sum || width != r.width || blockOf t.page.codes k != blockOf c.codes k

theorem changedBlocks_eq (t : Transfer) (r : LineRecord) (width : Width) (sum : Nat) :
    changedBlocks t r width sum = idsWhere (blockChanged t r width sum) := by
  unfold changedBlocks blockChanged
  split
  · next h => simp [h, idsWhere]
  · next c h =>
    split
    · next hall =>
      rw [h, eq_comm]
      refine List.filter_eq_self.2 fun k _ => ?_
      simp only [Option.all_some, bne]
      rw [hall, Bool.true_or]
    · next hall =>
      rw [h]
      refine List.filter_congr fun k _ => ?_
      simp only [Option.all_some, bne]
      rw [Bool.not_eq_true] at hall
      rw [hall, Bool.false_or]

-- ---------------------------------------------------------------- which replies are taken, and how

/-- A reply fits the phase of a transfer (R159, R164, R166 to R168). -/
def Fits : Phase → SignReply → Prop
  | .selecting, .ready _ _ => True
  | .resuming, .ready _ _ => True
  | .sendingUnits, .take => True
  | .sendingUnits, .pause => True
  | .showing, .shown _ => True
  | _, _ => False

theorem fits_ready (p : Phase) (width : Width) (sum : Nat) : Fits p (.ready width sum) ↔ p = .selecting ∨ p = .resuming := by
  cases p <;> simp [Fits]
theorem fits_take (p : Phase) : Fits p .take ↔ p = .sendingUnits := by cases p <;> simp [Fits]
theorem fits_pause (p : Phase) : Fits p .pause ↔ p = .sendingUnits := by cases p <;> simp [Fits]
theorem fits_shown (p : Phase) (sum : Nat) : Fits p (.shown sum) ↔ p = .showing := by cases p <;> simp [Fits]
theorem not_fits_refuse (p : Phase) : ¬ Fits p .refuse := by cases p <;> exact id

theorem BoardEv.start_board (b : Board) : (BoardEv.start b).board = b := rfl

section replies

variable {b : Board} {tr : Transfer}

/-- A reply that does not fit counts as a REFUSE of the frame sent (R159). -/
theorem reply_unfit (ht : b.line.transfer = some tr) (hp : b.line.probing = none) {r : SignReply} (h : ¬ Fits tr.phase r) :
    (BoardEv.start b).reply r = (BoardEv.start b).failFrame tr .refused := by
  unfold BoardEv.reply
  rw [BoardEv.start_board, hp, ht]
  dsimp only
  revert h
  cases tr.phase <;> cases r <;> intro h <;> first | exact absurd trivial h | rfl

theorem reply_ready (ht : b.line.transfer = some tr) (hp : b.line.probing = none) (width : Width) (sum : Nat)
    (h : tr.phase = .selecting ∨ tr.phase = .resuming) :
    (BoardEv.start b).reply (.ready width sum) = (BoardEv.start b).ready tr width sum := by
  unfold BoardEv.reply
  rw [BoardEv.start_board, hp, ht]
  rcases h with h | h <;> simp [h]

theorem reply_take (ht : b.line.transfer = some tr) (hp : b.line.probing = none) (h : tr.phase = .sendingUnits) :
    (BoardEv.start b).reply .take = (BoardEv.start b).takeUnit tr := by
  unfold BoardEv.reply
  rw [BoardEv.start_board, hp, ht]
  simp [h]

theorem reply_pause (ht : b.line.transfer = some tr) (hp : b.line.probing = none) (h : tr.phase = .sendingUnits) :
    (BoardEv.start b).reply .pause = (BoardEv.start b).pauseUnit tr := by
  unfold BoardEv.reply
  rw [BoardEv.start_board, hp, ht]
  simp [h]

theorem reply_shown (ht : b.line.transfer = some tr) (hp : b.line.probing = none) (sum : Nat) (h : tr.phase = .showing) :
    (BoardEv.start b).reply (.shown sum) = (BoardEv.start b).shown tr sum := by
  unfold BoardEv.reply
  rw [BoardEv.start_board, hp, ht]
  simp [h]

/-- A reply of the sign that the frame last sent addressed is taken while its window is open (R158, R159). -/
theorem takeReply_open {s : State} {f : List Byte} {w : Nat} {i : SignId} (hs : s.board.line.sent = some ⟨f, some w⟩)
    (ha : s.board.line.addressed = some i) (r : SignReply) : s.takeReply i r = s.lineStep fun e => e.reply r := by
  unfold State.takeReply
  rw [if_pos]
  simp [SignLine.takes, SignLine.windowOpen, hs, ha]

theorem addressed_transfer (ht : b.line.transfer = some tr) (hp : b.line.probing = none) :
    b.line.addressed = some tr.target := by
  simp [SignLine.addressed, ht, hp]

end replies

/-- The READY of a SELECT with no change pending: the blocks counted as changed, in their order (R164, R165). -/
theorem ready_selecting {b : Board} {tr : Transfer} (hph : tr.phase = .selecting) (hc : tr.changePending = false)
    (width : Width) (sum : Nat) : (BoardEv.start b).ready tr width sum =
      (BoardEv.start (b.recorded tr.target { b.line.records.get tr.target with width := width })).on fun b' =>
        b'.send (tr.goOn (unitOrder width (idsWhere (blockChanged tr (b.line.records.get tr.target) width sum))) 0) := by
  unfold BoardEv.ready
  dsimp only
  rw [hc, hph, ← changedBlocks_eq]
  rfl

/-- The READY of a SELECT that resumes the units (R167). -/
theorem ready_resuming {b : Board} {tr : Transfer} (hph : tr.phase = .resuming) (hc : tr.changePending = false)
    (width : Width) (sum : Nat) : (BoardEv.start b).ready tr width sum =
      (BoardEv.start (b.recorded tr.target { b.line.records.get tr.target with width := width })).on fun b' =>
        b'.send (tr.goOn tr.units tr.next) := by
  unfold BoardEv.ready
  dsimp only
  rw [hc, hph]
  rfl

/-- A REFUSE or an unfitting reply with no change pending: the frame goes out again, or the transfer fails (R166, R169). -/
theorem failFrame_refused {e : BoardEv} {tr : Transfer} (hc : tr.changePending = false) : e.failFrame tr .refused =
    if tr.retryUsed then e.fail tr.target .rejected else e.on fun b => b.send { tr with retryUsed := true } := by
  unfold BoardEv.failFrame
  dsimp only
  rw [hc]
  rfl

end Sys2Proof.Machine

open Sys2Proof Sys2Proof.Machine

/-- Settles O50: each reply by the phase of the transfer that it meets. -/
theorem signRepliesMoveTheTransfer : Obligations.SignRepliesMoveTheTransfer := by
  intro s tr f w ht hp hs hc i goesOn failed fails widened resends codesOf changed unitsOf
  have hopen := takeReply_open hs (addressed_transfer ht hp)
  have hgo : ∀ {c : Instr} {r : SignReply} {b : Board} {tr' : Transfer}, exec c s = .next (s.takeReply i r) →
      (BoardEv.start s.board).reply r = (BoardEv.start b).on (fun b => b.send tr') →
      ∃ t, exec c s = .next t ∧ goesOn t b tr' := fun he hr => ⟨_, he, by
    rw [hopen]
    exact lineStep_send hr⟩
  have hfail : ∀ {c : Instr} {r : SignReply} {cause : SignFault}, exec c s = .next (s.takeReply i r) →
      (BoardEv.start s.board).reply r = (BoardEv.start s.board).fail i cause →
      ∃ t, exec c s = .next t ∧ fails t cause := fun he hr => ⟨_, he, by
    rw [hopen]
    exact lineStep_fail hr⟩
  have hunfit : ∀ {c : Instr} {r : SignReply}, exec c s = .next (s.takeReply i r) → ¬ Fits tr.phase r → resends c := by
    intro c r he hr
    have hrep := (reply_unfit ht hp hr).trans (failFrame_refused hc)
    show if tr.retryUsed then _ else _
    split
    · next hu => exact hfail he (hrep.trans (if_pos hu))
    · next hu => exact hgo he (hrep.trans (if_neg hu))
  have hchanged : ∀ width sum, changed width sum = blockChanged tr (s.board.line.records.get i) width sum := by
    intro width sum
    funext k
    show (match (s.board.line.records.get i).confirmed with | none => _ | some c => _) = _
    unfold blockChanged
    cases (s.board.line.records.get i).confirmed <;> rfl
  have hunits : ∀ width, unitsOf width = blockUnits width := fun width => funext fun k => (blockUnits_eq width k).symm
  refine ⟨hunfit rfl (not_fits_refuse _), fun hph width sum => ?_, fun hph hlt width sum => ?_, fun hph => ⟨?_, ?_, ?_⟩,
    fun hph => ⟨hunfit rfl (mt (fits_take _).1 hph), hunfit rfl (mt (fits_pause _).1 hph)⟩,
    fun h1 h2 width sum => hunfit rfl (mt (fits_ready _ _ _).1 (not_or.2 ⟨h1, h2⟩)),
    fun hph sum => hunfit rfl (mt (fits_shown _ _).1 hph),
    fun hph sum => ⟨fun hsum => ?_, fun hsum hm => ?_, fun hsum hm => ?_⟩⟩
  · have hrep := (reply_ready ht hp width sum.toNat (Or.inl hph)).trans (ready_selecting hph hc width sum.toNat)
    obtain ⟨t, he, hg⟩ := hgo (c := .ready i width sum) rfl hrep
    refine ⟨t, he, fun h0 => ?_, fun lead hl hb => ?_⟩
    · rw [hchanged] at h0
      rw [unitOrder_none width h0] at hg
      exact hg
    · rw [hchanged] at hl hb
      obtain ⟨hu, hne⟩ := unitOrder_lead width hl hb
      rw [hchanged, hunits, ← hu]
      have hphase : tr.goOn (unitOrder width (idsWhere (blockChanged tr (s.board.line.records.get i) width sum.toNat))) 0 =
          { tr with
            units := unitOrder width (idsWhere (blockChanged tr (s.board.line.records.get i) width sum.toNat)), next := 0,
            retryUsed := false, silentOnce := false,
            phase := if unitOrder width (idsWhere (blockChanged tr (s.board.line.records.get i) width sum.toNat)) = []
              then .showing else .sendingUnits } := by
        rw [if_neg hne, Transfer.goOn, if_pos (List.length_pos_iff.2 hne)]
      rw [← hphase]
      exact hg
  · have hrep := (reply_ready ht hp width sum.toNat (Or.inr hph)).trans (ready_resuming hph hc width sum.toNat)
    rw [Transfer.goOn, if_pos hlt] at hrep
    exact hgo rfl hrep
  · refine hgo rfl ((reply_take ht hp hph).trans ?_)
    rw [BoardEv.takeUnit, if_neg (by simp [hc])]
    rfl
  · intro hlt
    refine hgo rfl ((reply_pause ht hp hph).trans ?_)
    rw [BoardEv.pauseUnit, if_neg (by simp [hc]), if_neg (by omega)]
  · intro hle
    refine hfail rfl ((reply_pause ht hp hph).trans ?_)
    rw [BoardEv.pauseUnit, if_neg (by simp [hc]), if_pos hle]
  · refine ⟨_, rfl, ?_⟩
    have hrep : (BoardEv.start s.board).reply (.shown sum.toNat) = (BoardEv.start s.board).confirm tr := by
      rw [reply_shown ht hp _ hph, BoardEv.shown, if_pos hsum]
    have hl := lineStep_confirm (f := fun e => e.reply (.shown sum.toNat)) hrep
    rw [hopen]
    obtain ⟨h1, h2, h3, h4, h5, h6⟩ := hl
    rw [hc] at h4 h5
    exact ⟨h1, h2, h3, h4, h5.resolve_right (fun h => by cases h.1), h6⟩
  · refine hgo rfl ((reply_shown ht hp _ hph).trans ?_)
    rw [BoardEv.shown, if_neg hsum, if_neg (by simp [hc]), if_neg (by simp [hm])]
  · refine hfail rfl ((reply_shown ht hp _ hph).trans ?_)
    rw [BoardEv.shown, if_neg hsum, if_neg (by simp [hc]), if_pos hm]

end

section
/-! Silence, a change that is pending, and the replies to a probe (R159, R163, R166, R169, R170, R172). -/

namespace Sys2Proof.Machine

section silence

variable {b : Board}

theorem silence_transfer {tr : Transfer} (ht : b.line.transfer = some tr) (hp : b.line.probing = none) :
    (BoardEv.start b).silence = (BoardEv.start b).failFrame tr .silent := by
  unfold BoardEv.silence
  rw [BoardEv.start_board, hp, ht]

theorem silence_probe {i : SignId} (hp : b.line.probing = some i) :
    (BoardEv.start b).silence = (BoardEv.start b).failProbe i := by
  unfold BoardEv.silence
  rw [BoardEv.start_board, hp]

theorem reply_probe_ready {i : SignId} (hp : b.line.probing = some i) (width : Width) (sum : Nat) :
    (BoardEv.start b).reply (.ready width sum) = (BoardEv.start b).recover i width := by
  unfold BoardEv.reply
  rw [BoardEv.start_board, hp]

theorem reply_probe_other {i : SignId} (hp : b.line.probing = some i) {r : SignReply} (h : ∀ width sum, r ≠ .ready width sum) :
    (BoardEv.start b).reply r = (BoardEv.start b).failProbe i := by
  unfold BoardEv.reply
  rw [BoardEv.start_board, hp]
  cases r with
  | ready width sum => exact absurd rfl (h width sum)
  | take | pause | refuse | shown => rfl

theorem addressed_probe {i : SignId} (hp : b.line.probing = some i) : b.line.addressed = some i := by
  simp [SignLine.addressed, hp]

end silence

/-- The end of the reply window takes the silence of the frame (R159). -/
theorem exec_replyWindowExpiry {s : State} {f : List Byte} (hs : s.board.line.sent = some ⟨f, some 0⟩) :
    exec .replyWindowExpiry s = .next (s.lineStep BoardEv.silence) := by
  have hd : s.board.line.windowDue = true := by
    unfold SignLine.windowDue
    rw [hs]
    rfl
  show Host.Outcome.next (if s.board.line.windowDue then s.lineStep BoardEv.silence else s) = _
  rw [if_pos hd]

-- ---------------------------------------------------------------- a change that is pending (R170)

section pending

variable {b : Board} {tr : Transfer}

theorem reply_unfit_pending (ht : b.line.transfer = some tr) (hp : b.line.probing = none) (hc : tr.changePending = true)
    {r : SignReply} (h : ¬ Fits tr.phase r) : (BoardEv.start b).reply r = (BoardEv.start b).abandon tr.target := by
  rw [reply_unfit ht hp h, BoardEv.failFrame, if_pos hc]

theorem reply_unit_pending (ht : b.line.transfer = some tr) (hp : b.line.probing = none) (hc : tr.changePending = true)
    {r : SignReply} (hr : r = .take ∨ r = .pause ∨ r = .refuse) :
    (BoardEv.start b).reply r = (BoardEv.start b).abandon tr.target := by
  by_cases hf : Fits tr.phase r
  · rcases hr with rfl | rfl | rfl
    · rw [reply_take ht hp ((fits_take _).1 hf), BoardEv.takeUnit, if_pos hc]
    · rw [reply_pause ht hp ((fits_pause _).1 hf), BoardEv.pauseUnit, if_pos hc]
    · exact absurd hf (not_fits_refuse _)
  · exact reply_unfit_pending ht hp hc hf

/-- A READY with a change pending records its width, and the transfer is abandoned (R170, log 23). -/
theorem reply_ready_pending (ht : b.line.transfer = some tr) (hp : b.line.probing = none) (hc : tr.changePending = true)
    (width : Width) (sum : Nat) (h : tr.phase = .selecting ∨ tr.phase = .resuming) :
    (BoardEv.start b).reply (.ready width sum) = (BoardEv.start
      (b.recorded tr.target { b.line.records.get tr.target with width := width })).abandon tr.target := by
  rw [reply_ready ht hp width sum h, BoardEv.ready, if_pos hc]
  rfl

theorem reply_shown_pending (ht : b.line.transfer = some tr) (hp : b.line.probing = none) (hc : tr.changePending = true)
    {sum : Nat} (h : tr.phase ≠ .showing ∨ sum ≠ tr.page.sum) :
    (BoardEv.start b).reply (.shown sum) = (BoardEv.start b).abandon tr.target := by
  by_cases hph : tr.phase = .showing
  · rw [reply_shown ht hp sum hph, BoardEv.shown, if_neg (h.resolve_left fun hn => hn hph), if_pos hc]
  · exact reply_unfit_pending ht hp hc (mt (fits_shown _ _).1 hph)

end pending

/-- What an abandoned transfer leaves, as R170 states it. -/
theorem Abandons.spec {b b' : Board} {i : SignId} (h : Abandons b i b') : (b'.signs.get i).needs = true ∧
    (b'.line.records.get i).state ≠ .current ∧ (b'.line.records.get i).state ≠ .fault ∧
    (b'.line.records.get i).confirmed = (b.line.records.get i).confirmed ∧
    (b'.signs.get i).contentMark = (b.signs.get i).contentMark ∧
    ∀ tr', b'.line.transfer = some tr' → tr'.changePending = false ∧ tr'.phase = .selecting ∧ tr'.retryUsed = false ∧
      tr'.breaks = 0 ∧ tr'.mismatchUsed = false := by
  refine ⟨h.needs, ?_, ?_, h.confirmed, h.contentMark, fun tr' ht => ?_⟩
  · rcases h.state with hs | hs <;> simp [hs]
  · rcases h.state with hs | hs <;> simp [hs]
  · obtain ⟨j, d, rfl⟩ := h.transfer tr' ht
    exact ⟨rfl, rfl, rfl, rfl, rfl⟩

end Sys2Proof.Machine

open Sys2Proof Sys2Proof.Machine

/-- Settles O51: the silence and each reply, with a change pending or none, and then the probe. -/
theorem silenceAndPendingChangesEndTheFrame : Obligations.SilenceAndPendingChangesEndTheFrame := by
  intro s f w hs recorded abandoned
  refine ⟨?_, ?_⟩
  · intro tr ht hp i failed shows
    have hopen := takeReply_open hs (addressed_transfer ht hp)
    have hwin : w = 0 → exec .replyWindowExpiry s = .next (s.lineStep BoardEv.silence) := by
      rintro rfl
      exact exec_replyWindowExpiry hs
    have hab : ∀ {g : BoardEv → BoardEv}, g (BoardEv.start s.board) = (BoardEv.start s.board).abandon i →
        abandoned (s.lineStep g) i := fun hg => by
      obtain ⟨h1, h2, h3⟩ := lineStep_abandon hg
      exact ⟨h1, h2, h3.spec⟩
    have hreply : ∀ {c : Instr} {r : SignReply}, exec c s = .next (s.takeReply i r) →
        (BoardEv.start s.board).reply r = (BoardEv.start s.board).abandon i → ∃ t, exec c s = .next t ∧ abandoned t i :=
      fun he hr => ⟨_, he, by
        rw [hopen]
        exact hab hr⟩
    refine ⟨fun h0 hc hu => ?_, fun h0 hcase => ?_, fun h0 hc hq => ?_,
      fun hc => ⟨fun width sum => ?_, hreply rfl (reply_unit_pending ht hp hc (by simp)),
        hreply rfl (reply_unit_pending ht hp hc (by simp)), hreply rfl (reply_unit_pending ht hp hc (by simp)),
        fun sum => ⟨fun hsh => ?_, fun hsh => hreply rfl (reply_shown_pending ht hp hc hsh)⟩⟩⟩
    · refine ⟨_, hwin h0, lineStep_send (b := s.board) ((silence_transfer ht hp).trans ?_)⟩
      rw [BoardEv.failFrame]
      simp [hc, hu]
    · have hend : (BoardEv.start s.board).failFrame tr .silent = (BoardEv.start s.board).fail tr.target .noReply := by
        rw [BoardEv.failFrame]
        rcases hcase with ⟨hc, hu⟩ | ⟨hc, hq⟩
        · simp [hc, hu]
        · simp [hc, hq]
      obtain ⟨h1, h2, h3, _, h5, h6⟩ := lineStep_fail ((silence_transfer ht hp).trans hend)
      exact ⟨_, hwin h0, h1, h2, h3, h5, h6⟩
    · have hend : (BoardEv.start s.board).failFrame tr .silent = (BoardEv.start s.board).abandon tr.target := by
        rw [BoardEv.failFrame]
        simp [hc, hq]
      exact ⟨_, hwin h0, hab ((silence_transfer ht hp).trans hend)⟩
    · refine ⟨_, rfl, ?_⟩
      rw [hopen]
      by_cases hph : tr.phase = .selecting ∨ tr.phase = .resuming
      · obtain ⟨h1, h2, h3⟩ := lineStep_abandon (f := fun e => e.reply (.ready width sum.toNat))
          (reply_ready_pending ht hp hc width sum.toNat hph)
        have hrec : (s.board.recorded i { s.board.line.records.get i with width := width }).line.records.get i =
            { s.board.line.records.get i with width := width } := get_put_same ..
        obtain ⟨k1, k2, k3, k4, k5, k6⟩ := h3.spec
        exact ⟨⟨h1, h2, k1, k2, k3, k4.trans (by rw [hrec]), k5, k6⟩, fun _ => h3.width.trans (by rw [hrec])⟩
      · exact ⟨hab (reply_unfit_pending ht hp hc (mt (fits_ready _ _ _).1 hph)), fun h => absurd h hph⟩
    · obtain ⟨hph, hsum⟩ := hsh
      refine ⟨_, rfl, ?_⟩
      rw [hopen]
      have hrep : (BoardEv.start s.board).reply (.shown sum.toNat) = (BoardEv.start s.board).confirm tr := by
        rw [reply_shown ht hp _ hph, BoardEv.shown, if_pos hsum]
      obtain ⟨h1, h2, h3, h4, h5, h6⟩ := lineStep_confirm (f := fun e => e.reply (.shown sum.toNat)) hrep
      rw [hc] at h4
      refine ⟨h1, h2, h3, h4, ?_, h6⟩
      rcases h5 with h | ⟨_, h, d, hd⟩
      · exact Or.inl h
      · exact Or.inr ⟨h, _, hd, rfl, rfl⟩
  · intro i hp ht hi unanswered
    have hopen := takeReply_open hs (addressed_probe hp)
    have hun : ∀ {c : Instr} {r : SignReply}, exec c s = .next (s.takeReply i r) → (∀ width sum, r ≠ .ready width sum) →
        unanswered c := fun he hr => ⟨_, he, by
      rw [hopen]
      exact lineStep_failProbe (reply_probe_other hp hr) hi⟩
    refine ⟨fun h0 => ?_, hun rfl nofun, hun rfl nofun, hun rfl nofun, fun sum => hun rfl nofun, fun width sum => ?_⟩
    · subst h0
      exact ⟨_, exec_replyWindowExpiry hs, lineStep_failProbe (silence_probe hp) hi⟩
    · refine ⟨_, rfl, ?_⟩
      rw [hopen]
      exact lineStep_recover (reply_probe_ready hp width sum.toNat)

end

section
/-! What a re-selection of signs leaves of the board (R152, R153), and the end of an event on the board (R162). -/

namespace Sys2Proof.Machine

namespace BoardEv

/-- A new reference of a sign is recorded, judged for service and handed on (R152, R153). -/
def newPage (s : State) (i : SignId) (c : PageClass) (ref : PageRef) (e : BoardEv) : BoardEv :=
  ((e.setSign i fun sg => { sg with
    desired := some (s.desiredOf c ref), urgent := c.urgent,
    needs := judgeNeeds (s.desiredOf c ref) sg.contentMark (e.board.line.records.get i) sg.needs }).changePage i).hand i

variable {s : State} {i : SignId} {e : BoardEv}

theorem select_none (h : s.choose (e.board.signs.get i) = none) : select s i e = e := by
  unfold select
  dsimp only
  rw [h]

theorem select_same {c : PageClass} {d : Desired} (h : s.choose (e.board.signs.get i) = some (c, d.ref))
    (hd : (e.board.signs.get i).desired = some d) : select s i e =
      if matchesConfirmed d (e.board.signs.get i).contentMark (e.board.line.records.get i) = true ∧
        (e.board.line.records.get i).state = .current
      then e.setSign i fun sg => { sg with needs := false } else e := by
  unfold select
  dsimp only
  rw [h, hd]
  simp

theorem select_new {c : PageClass} {ref : PageRef} (h : s.choose (e.board.signs.get i) = some (c, ref))
    (hd : (e.board.signs.get i).desired.map (·.ref) ≠ some ref) : select s i e = newPage s i c ref e := by
  unfold select
  dsimp only
  rw [h]
  cases hq : (e.board.signs.get i).desired with
  | none => rfl
  | some d =>
    rw [hq] at hd
    dsimp only
    rw [if_neg fun hr => hd (congrArg some hr)]
    rfl

/-- The three things that a re-selection of a sign can do. -/
theorem select_cases (s : State) (i : SignId) (e : BoardEv) : select s i e = e ∨
    ((e.board.line.records.get i).state = .current ∧ select s i e = e.setSign i fun sg => { sg with needs := false }) ∨
    ∃ c ref, select s i e = newPage s i c ref e := by
  cases hc : s.choose (e.board.signs.get i) with
  | none => exact Or.inl (select_none hc)
  | some p =>
    obtain ⟨c, ref⟩ := p
    by_cases hd : (e.board.signs.get i).desired.map (·.ref) = some ref
    · obtain ⟨d, hsome, rfl⟩ := Option.map_eq_some_iff.1 hd
      have h := select_same hc hsome
      split at h
      · next hcur => exact Or.inr (Or.inl ⟨hcur.2, h⟩)
      · exact Or.inl h
    · exact Or.inr (Or.inr ⟨c, ref, select_new hc hd⟩)

theorem setSign_get (e : BoardEv) (i j : SignId) (f : Sign → Sign) :
    (e.setSign i f).board.signs.get j = if i = j then f (e.board.signs.get i) else e.board.signs.get j := get_alter ..

theorem newPage_get (s : State) (i j : SignId) (c : PageClass) (ref : PageRef) (e : BoardEv) :
    (newPage s i c ref e).board.signs.get j = if i = j then { e.board.signs.get i with
        desired := some (s.desiredOf c ref), urgent := c.urgent,
        needs := judgeNeeds (s.desiredOf c ref) (e.board.signs.get i).contentMark (e.board.line.records.get i)
          (e.board.signs.get i).needs }
      else e.board.signs.get j := get_alter ..

theorem judgeNeeds_of_not_current {d : Desired} {mark : Bool} {r : LineRecord} (h : r.state ≠ .current) :
    judgeNeeds d mark r true = true := by
  unfold judgeNeeds
  split
  · rw [if_neg (by simpa using h)]
  · rfl

/-- What every re-selection keeps: the line but for a change pending, and of each sign all but its page and its flags. -/
structure Reselects (b b' : Board) : Prop where
  records : b'.line.records = b.line.records
  line : b.line.transfer = none → b'.line = b.line
  needs : ∀ j, (b.line.records.get j).state ≠ .current → (b.signs.get j).needs = true → (b'.signs.get j).needs = true
  sign : ∀ j, (b'.signs.get j).segment = (b.signs.get j).segment ∧ (b'.signs.get j).role = (b.signs.get j).role ∧
    (b'.signs.get j).override = (b.signs.get j).override ∧ (b'.signs.get j).contentMark = (b.signs.get j).contentMark

theorem Reselects.rfl' (b : Board) : Reselects b b :=
  ⟨rfl, fun _ => rfl, fun _ _ h => h, fun _ => ⟨rfl, rfl, rfl, rfl⟩⟩

theorem Reselects.trans' {a b c : Board} (h : Reselects a b) (k : Reselects b c) : Reselects a c := by
  refine ⟨k.records.trans h.records, fun ht => ?_, fun j hr hn => ?_, fun j => ?_⟩
  · have hb := h.line ht
    exact (k.line (by rw [hb]; exact ht)).trans hb
  · exact k.needs j (by rw [h.records]; exact hr) (h.needs j hr hn)
  · obtain ⟨h1, h2, h3, h4⟩ := h.sign j
    obtain ⟨k1, k2, k3, k4⟩ := k.sign j
    exact ⟨k1.trans h1, k2.trans h2, k3.trans h3, k4.trans h4⟩

theorem newPage_reselects (s : State) (i : SignId) (c : PageClass) (ref : PageRef) (e : BoardEv) :
    Reselects e.board (newPage s i c ref e).board := by
  refine ⟨rfl, fun ht => ?_, fun j hr hn => ?_, fun j => ?_⟩
  · have hl : (newPage s i c ref e).board.line = { e.board.line with
        transfer := e.board.line.transfer.map fun t => if t.target = i then { t with changePending := true } else t } := rfl
    rw [hl, ht, Option.map_none, ← ht]
  · rw [newPage_get]
    split
    · next h =>
      subst h
      rw [hn]
      exact judgeNeeds_of_not_current hr
    · exact hn
  · rw [newPage_get]
    split
    · next h => subst h; exact ⟨rfl, rfl, rfl, rfl⟩
    · exact ⟨rfl, rfl, rfl, rfl⟩

theorem select_reselects (s : State) (i : SignId) (e : BoardEv) : Reselects e.board (select s i e).board := by
  rcases select_cases s i e with h | ⟨hcur, h⟩ | ⟨c, ref, h⟩ <;> rw [h]
  · exact .rfl' _
  · refine ⟨rfl, fun _ => rfl, fun j hr hn => ?_, fun j => ?_⟩
    · rw [setSign_get]
      split
      · next hij => subst hij; exact absurd hcur hr
      · exact hn
    · rw [setSign_get]
      split
      · next hij => subst hij; exact ⟨rfl, rfl, rfl, rfl⟩
      · exact ⟨rfl, rfl, rfl, rfl⟩
  · exact newPage_reselects s i c ref e

theorem selectAll_reselects (s : State) : ∀ (l : List SignId) (e : BoardEv), Reselects e.board (selectAll s l e).board
  | [], e => .rfl' e.board
  | i :: l, e => (select_reselects s i e).trans' (selectAll_reselects s l _)

end BoardEv

-- ---------------------------------------------------------------- the end of an event on the board (R162)

/-- The board at the end of an event in which the arbiter acts. -/
theorem finish_board {e : Ev} (h : e.acts = true ∨ setIds e.raised ≠ []) : e.finish.board =
    (BoardEv.selectAll e.st (setIds e.raised) (BoardEv.start e.st.board)).board.arbitrate := by
  unfold Ev.finish
  split
  · next hr =>
    rw [if_pos (h.resolve_right fun hn => hn hr), hr]
    rfl
  · next hr =>
    exact (lineStep_spec (BoardEv.selectAll e.st (setIds e.raised)) e.st).2.2.1

theorem finish_road_of_none {e : Ev} (h : setIds e.raised = []) : e.finish.road = e.st.road := by
  unfold Ev.finish
  rw [h]
  dsimp only
  split <;> rfl

end Sys2Proof.Machine
end

section
/-! FIELD_RESTART (R77, R120, R174, R191). -/

namespace Sys2Proof.Machine

-- ---------------------------------------------------------------- the qualification records (R120)

/-- A field restart of some channels: their qualification records, and no hold or sign (R120). -/
structure QualsRestarted (l : List ChanId) (e e' : Ev) : Prop where
  quals : ∀ c, e'.st.zoneUnit.quals.get c =
    if c ∈ l then (e.st.zoneUnit.quals.get c).map Qualification.restart else e.st.zoneUnit.quals.get c
  zones : e'.st.zoneUnit.zones = e.st.zoneUnit.zones
  keeps : KeepsBut [.zoneUnit, .links] e.st e'.st
  gains : ∃ f, Gains f e.st e'.st ∧ Within Attn.detector f
  raised : e'.raised = e.raised

theorem restart_closes (q : Qualification) : q.restart.state.closes = q.state.closes := by
  unfold Qualification.restart
  cases h : q.state <;> rfl

theorem when_within (b : Bool) (m : FlagSet) : Within m (FlagSet.when b m) := by
  unfold FlagSet.when
  split
  · exact within_self _
  · exact within_zero _

theorem detectorFlags_within (q q' : Qualification) : Within Attn.detector (detectorFlags q q') := when_within _ _

theorem onQual_none {c : ChanId} {e : Ev} (f : Qualification → Qualification) (h : e.st.zoneUnit.quals.get c = none) :
    e.onQual c f = e := by
  unfold Ev.onQual
  rw [h]

/-- A change of a qualification record that neither begins nor ends a hold (R112, R113). -/
theorem onQual_some {c : ChanId} {e : Ev} {f : Qualification → Qualification} {q : Qualification}
    (h : e.st.zoneUnit.quals.get c = some q) (hf : (f q).state.closes = q.state.closes) : e.onQual c f =
      (e.on fun s => { s with zoneUnit := { s.zoneUnit with quals := put s.zoneUnit.quals c (some (f q)) } }).attend
        (detectorFlags q (f q)) := by
  unfold Ev.onQual
  rw [h]
  dsimp only
  rw [hf]
  cases q.state.closes <;> rfl

theorem onQual_restart (c : ChanId) (e : Ev) : QualsRestarted [c] e (e.onQual c Qualification.restart) := by
  cases hq : e.st.zoneUnit.quals.get c with
  | none =>
    rw [onQual_none _ hq]
    refine ⟨fun j => ?_, rfl, KeepsBut.rfl' _ _, ⟨0, Gains.of_eq rfl, within_zero _⟩, rfl⟩
    split
    · next hj =>
      obtain rfl := List.mem_singleton.1 hj
      rw [hq]
      rfl
    · rfl
  | some q =>
    rw [onQual_some hq (restart_closes q)]
    refine ⟨fun j => ?_, rfl, fun b hb => ?_, ⟨_, attend_gains (detectorFlags q q.restart) ({ e.st with zoneUnit :=
      { e.st.zoneUnit with quals := put e.st.zoneUnit.quals c (some q.restart) } } : State), detectorFlags_within _ _⟩, rfl⟩
    · show (put e.st.zoneUnit.quals c (some q.restart)).get j = _
      rw [get_put]
      by_cases h : c = j
      · subst h
        simp [hq]
      · rw [if_neg h, if_neg (by simpa using Ne.symm h)]
    · cases b <;> simp_all [Block.same]

theorem foldl_restart : ∀ (l : List ChanId), l.Nodup → ∀ e : Ev,
    QualsRestarted l e (l.foldl (fun e c => e.onQual c Qualification.restart) e)
  | [], _, e => ⟨fun _ => by simp, rfl, KeepsBut.rfl' _ _, ⟨0, Gains.of_eq rfl, within_zero _⟩, rfl⟩
  | c :: l, hn, e => by
    obtain ⟨hc, hn⟩ := List.nodup_cons.1 hn
    have h1 := onQual_restart c e
    have h2 := foldl_restart l hn (e.onQual c Qualification.restart)
    obtain ⟨f, hf, hwf⟩ := h1.gains
    obtain ⟨g, hg, hwg⟩ := h2.gains
    refine ⟨fun j => ?_, h2.zones.trans h1.zones, h1.keeps.trans' h2.keeps, ⟨_, hf.trans' hg, hwf.or hwg⟩,
      h2.raised.trans h1.raised⟩
    rw [List.foldl_cons, h2.quals, h1.quals]
    by_cases hj : j = c
    · subst hj
      simp [hc]
    · simp [hj]

-- ---------------------------------------------------------------- the sign line (R174)

namespace Board

/-- The line record that a field restart leaves: STALE where it was not in FAULT, and a fresh timer for a probe in flight. -/
theorem restart_record (b : Board) (j : SignId) : b.restart.line.records.get j = { b.line.records.get j with
    state := if (b.line.records.get j).state = .fault then .fault else .stale,
    probe := if b.line.probing = some j then .running 60000 else (b.line.records.get j).probe } := by
  have hfree : b.freeAtRestart.line.records.get j = { b.line.records.get j with
      probe := if b.line.probing = some j then .running 60000 else (b.line.records.get j).probe } := by
    unfold freeAtRestart
    split
    · next i hi =>
      refine (get_alter ..).trans ?_
      rw [hi]
      by_cases h : i = j
      · subst h
        rw [if_pos rfl, if_pos rfl]
        rfl
      · rw [if_neg h, if_neg fun e => h (Option.some.inj e)]
        rfl
    · next hi =>
      rw [hi, if_neg nofun]
      rfl
  unfold restart
  dsimp only
  simp only [get_mapIds, hfree]
  by_cases h : (b.line.records.get j).state = .fault <;> simp [h]

theorem freeAtRestart_signs (b : Board) : b.freeAtRestart.signs = b.signs := by
  unfold freeAtRestart
  split <;> rfl

theorem freeAtRestart_fault (b : Board) (j : SignId) :
    (b.freeAtRestart.line.records.get j).state = (b.line.records.get j).state := by
  unfold freeAtRestart
  split
  · next i hi =>
    refine (congrArg LineRecord.state (get_alter ..)).trans ?_
    split
    · next h => subst h; rfl
    · rfl
  · rfl

theorem restart_sign (b : Board) (j : SignId) : b.restart.signs.get j = { b.signs.get j with
    needs := if (b.line.records.get j).state = .fault then (b.signs.get j).needs else true } := by
  unfold restart
  dsimp only
  simp only [get_mapIds, freeAtRestart_signs, freeAtRestart_fault]
  by_cases h : (b.line.records.get j).state = .fault <;> simp [h]

theorem restart_line (b : Board) :
    b.restart.line.transfer = none ∧ b.restart.line.probing = none ∧ b.restart.line.sent = none := by
  unfold restart freeAtRestart
  dsimp only
  split <;> exact ⟨rfl, rfl, rfl⟩

end Board

/-- What a field restart leaves of one sign on the line, from the board `b` before it. -/
structure SignRestarted (b : Board) (j : SignId) (b' : Board) : Prop where
  confirmed : (b'.line.records.get j).confirmed = (b.line.records.get j).confirmed
  width : (b'.line.records.get j).width = (b.line.records.get j).width
  cause : (b'.line.records.get j).cause = (b.line.records.get j).cause
  state : if (b.line.records.get j).state = .fault then (b'.line.records.get j).state = .fault
    else (b'.signs.get j).needs = true ∧ ((b'.line.records.get j).state = .stale ∨
      ((b'.line.records.get j).state = .sending ∧ b'.line.transfer.map (·.target) = some j))
  probed : b'.line.probing = some j → (b'.line.records.get j).probe = .stopped
  probe : b'.line.probing ≠ some j → (b'.line.records.get j).probe =
    if b.line.probing = some j then .running 60000 else (b.line.records.get j).probe

/-- What a field restart leaves of the line: at most one new transfer or one probe that was due before (R162, R163, R174). -/
structure LineRestarted (b b' : Board) : Prop where
  transfer : ∀ tr, b'.line.transfer = some tr → b'.line.probing = none ∧ b'.line.lastServed = tr.target ∧
    b'.line.sent = some ⟨selectFrame tr.target false, none⟩ ∧ ∃ i d, tr = Transfer.new i d
  probing : ∀ j, b'.line.probing = some j → b'.line.transfer = none ∧ (b.line.records.get j).state = .fault ∧
    (b.line.records.get j).probe = .expired ∧ b'.line.sent = some ⟨probeFrame j, none⟩
  sent : b'.line.transfer = none → b'.line.probing = none → b'.line.sent = none

section arbiter

variable {b m : Board} (hline : m.line = b.restart.line)
  (hneeds : ∀ j, (b.line.records.get j).state ≠ .fault → (m.signs.get j).needs = true)

include hline

/-- A probe that is due after a field restart was due before it. -/
theorem probeDue_restart {j : SignId} (h : m.probeDue j = true) :
    (b.line.records.get j).state = .fault ∧ (b.line.records.get j).probe = .expired := by
  rw [Board.probeDue_iff, hline, Board.restart_record] at h
  obtain ⟨hs, hp⟩ := h
  dsimp only at hs hp
  by_cases hf : (b.line.records.get j).state = .fault
  · by_cases hb : b.line.probing = some j
    · rw [if_pos hb] at hp
      cases hp
    · rw [if_neg hb] at hp
      exact ⟨hf, hp⟩
  · rw [if_neg hf] at hs
    cases hs

/-- The arbiter on the line that a field restart has freed. -/
theorem arbitrate_lineRestarted : LineRestarted b m.arbitrate := by
  obtain ⟨h1, h2, h3⟩ := b.restart_line
  rw [← hline] at h1 h2 h3
  rcases m.arbitrate_cases with h | ⟨i, d, _, _, _, h⟩ | ⟨i, _, hp, h⟩ <;> rw [h]
  · exact ⟨fun tr ht => absurd (h1.symm.trans ht) nofun, fun j hj => absurd (h2.symm.trans hj) nofun, fun _ _ => h3⟩
  · refine ⟨fun tr ht => ?_, fun j hj => absurd (h2.symm.trans hj) nofun, fun ht => absurd ht nofun⟩
    obtain rfl : Transfer.new i d = tr := Option.some.inj ht
    exact ⟨h2, rfl, rfl, i, d, rfl⟩
  · refine ⟨fun tr ht => absurd (h1.symm.trans ht) nofun, fun j hj => ?_, fun _ hn => absurd hn nofun⟩
    obtain rfl : i = j := Option.some.inj hj
    obtain ⟨hf, he⟩ := probeDue_restart hline hp
    exact ⟨h1, hf, he, rfl⟩

include hneeds

theorem arbitrate_signRestarted (j : SignId) : SignRestarted b j m.arbitrate := by
  have hrec := b.restart_record j
  rw [← hline] at hrec
  have hfree := b.restart_line
  rw [← hline] at hfree
  have hstart : SignRestarted b j m := by
    refine ⟨by rw [hrec], by rw [hrec], by rw [hrec], ?_, fun hj => absurd (hfree.2.1.symm.trans hj) nofun, fun _ => by rw [hrec]⟩
    rw [hrec]
    split
    · next hf => rfl
    · next hf => exact ⟨hneeds j hf, Or.inl rfl⟩
  rcases m.arbitrate_cases with h | ⟨i, d, _, he, _, h⟩ | ⟨i, _, hp, h⟩ <;> rw [h]
  · exact hstart
  · by_cases hij : i = j
    · subst hij
      have hget : (m.begun i d).line.records.get i = { m.line.records.get i with state := .sending } := get_put_same ..
      have hf : (b.line.records.get i).state ≠ .fault := fun hf => by
        rw [Board.eligible_iff, hrec] at he
        simp [hf] at he
      have hprobe : (m.begun i d).line.probing ≠ some i := fun hj => absurd (hfree.2.1.symm.trans hj) nofun
      refine ⟨by rw [hget, hrec], by rw [hget, hrec], by rw [hget, hrec], ?_, fun hj => absurd hj hprobe, fun _ => by rw [hget, hrec]⟩
      rw [if_neg hf, hget]
      exact ⟨hneeds i hf, Or.inr ⟨rfl, rfl⟩⟩
    · have hget : (m.begun i d).line.records.get j = m.line.records.get j := get_put_other _ _ hij
      refine ⟨by rw [hget, hrec], by rw [hget, hrec], by rw [hget, hrec], ?_,
        fun hj => absurd (hfree.2.1.symm.trans hj) nofun, fun _ => by rw [hget, hrec]⟩
      rw [hget, hrec]
      split
      · next hf => rfl
      · next hf => exact ⟨hneeds j hf, Or.inl rfl⟩
  · obtain ⟨hf, _⟩ := probeDue_restart hline hp
    by_cases hij : i = j
    · subst hij
      have hget : (m.sendProbe i).line.records.get i = { m.line.records.get i with probe := .stopped } := get_alter_same ..
      refine ⟨by rw [hget, hrec], by rw [hget, hrec], by rw [hget, hrec], ?_, fun _ => by rw [hget], fun hn => absurd rfl hn⟩
      rw [if_pos hf, hget, hrec, if_pos hf]
    · have hget : (m.sendProbe i).line.records.get j = m.line.records.get j := get_alter_other _ _ hij
      refine ⟨by rw [hget, hrec], by rw [hget, hrec], by rw [hget, hrec], ?_,
        fun hj => absurd (Option.some.inj hj) hij, fun _ => by rw [hget, hrec]⟩
      rw [hget, hrec]
      split
      · next hf => rfl
      · next hf => exact ⟨hneeds j hf, Or.inl rfl⟩

end arbiter

-- ---------------------------------------------------------------- the event (R191)

/-- The field unit and the sites at a field restart (R77, R98). -/
def Ev.restartFields (e : Ev) : Ev := e.on fun s =>
  { s with field := s.field.restart, sites := mapIds (fun _ t => if t.inUse then t.restart else t) s.sites }

/-- A field restart, block by block. -/
theorem fieldRestart_eq (e : Ev) : ∃ q, QualsRestarted (List.finRange 16) e.restartFields q ∧
    e.fieldRestart = (q.on fun s => { s with board := s.board.restart }).thenArbitrate :=
  ⟨_, foldl_restart _ (List.nodup_finRange 16) _, rfl⟩

/-- The board that a field restart leaves: its signs and its line, and, where nothing was raised, no sign selected again. -/
theorem fieldRestart_board (e : Ev) : let b := e.st.board
    let b' := e.fieldRestart.finish.board
    (∀ j, SignRestarted b j b') ∧ LineRestarted b b' ∧ (setIds e.raised = [] → b'.signs = b.restart.signs) := by
  obtain ⟨q, hq, heq⟩ := fieldRestart_eq e
  have hb : q.st.board.restart = e.st.board.restart := congrArg Board.restart (hq.keeps .board (by simp))
  have hr : q.raised = e.raised := hq.raised
  have hsel := BoardEv.selectAll_reselects e.fieldRestart.st (setIds e.raised) (BoardEv.start e.st.board.restart)
  have hfin : e.fieldRestart.finish.board =
      (BoardEv.selectAll e.fieldRestart.st (setIds e.raised) (BoardEv.start e.st.board.restart)).board.arbitrate := by
    rw [heq, finish_board (Or.inl rfl), ← hb, ← hr]
    rfl
  have hline := hsel.line e.st.board.restart_line.1
  dsimp only
  rw [hfin]
  refine ⟨arbitrate_signRestarted hline fun j hf => hsel.needs j ?_ ?_, arbitrate_lineRestarted hline, fun h0 => ?_⟩
  · show (e.st.board.restart.line.records.get j).state ≠ .current
    rw [Board.restart_record, if_neg hf]
    exact nofun
  · show (e.st.board.restart.signs.get j).needs = true
    rw [Board.restart_sign, if_neg hf]
  · rw [Board.arbitrate_signs, h0]
    rfl

/-- What a field restart leaves beside the board: the field unit, the sites, the detectors, and no new hold (R77, R98, R120). -/
theorem fieldRestart_rest (e : Ev) : let s := e.st
    let t := e.fieldRestart.finish
    KeepsBut [.road, .board, .field, .sites, .zoneUnit, .links] s t ∧ SameRoad s t ∧
      (∃ f, Gains f s t ∧ Within Attn.detector f) ∧ t.field = s.field.restart ∧
      t.sites = mapIds (fun _ t => if t.inUse then t.restart else t) s.sites ∧ t.zoneUnit.zones = s.zoneUnit.zones ∧
      (∀ c, t.zoneUnit.quals.get c = (s.zoneUnit.quals.get c).map Qualification.restart) ∧
      (setIds e.raised = [] → t.road = s.road) := by
  obtain ⟨q, hq, heq⟩ := fieldRestart_eq e
  obtain ⟨f, hf, hw⟩ := hq.gains
  obtain ⟨hk, hroad, hg⟩ := finish_spec e.fieldRestart
  have hfields : KeepsBut [.field, .sites] e.st e.restartFields.st := by
    intro b hb
    cases b <;> simp_all [Block.same, Ev.restartFields]
  have hboard : KeepsBut [.board] q.st e.fieldRestart.st := by
    rw [heq]
    intro b hb
    cases b <;> simp_all [Block.same]
  have hst : KeepsBut [.board, .field, .sites, .zoneUnit, .links] e.st e.fieldRestart.st :=
    ((hfields.mono (by simp)).trans' (hq.keeps.mono (by simp))).trans' (hboard.mono (by simp))
  have hfr : e.fieldRestart.st.road = e.st.road := hst .road (by simp)
  have hlinks : Gains f e.st e.fieldRestart.st := fun m => by
    rw [show e.fieldRestart.st.links = q.st.links from hboard .links (by simp)]
    exact hf m
  have hzone : e.fieldRestart.finish.zoneUnit = q.st.zoneUnit :=
    (hk .zoneUnit (by simp)).trans (hboard .zoneUnit (by simp))
  refine ⟨(hst.mono (by simp)).trans' (hk.mono (by simp)), (SameRoad.of_eq hfr).trans' hroad,
    ⟨f, by simpa using hlinks.trans' hg, hw⟩, ?_, ?_, ?_, fun c => ?_, fun h0 => ?_⟩
  · exact (hk .field (by simp)).trans ((hboard .field (by simp)).trans (hq.keeps .field (by simp)))
  · exact (hk .sites (by simp)).trans ((hboard .sites (by simp)).trans (hq.keeps .sites (by simp)))
  · rw [hzone]
    exact hq.zones
  · rw [hzone]
    exact (hq.quals c).trans (if_pos (List.mem_finRange c))
  · rw [← hfr, heq]
    exact finish_road_of_none ((congrArg setIds hq.raised).trans h0)

/-- The key decides on the panel link (R191). -/
theorem needPanel_restart (s : State) :
    (heardState .panel s).needValleyOrPanelService .panel = if s.key = .service then none else some .key := by
  show need (heardState .panel s).keyService .key = _
  rw [keyService_eq, heardState_key]
  by_cases hk : s.key = .service <;> simp [hk]

theorem needValleyOrPanelService_entitled {l : Link} {s : State} (h : l = .valley ∨ (l = .panel ∧ s.key = .service)) :
    (heardState l s).needValleyOrPanelService l = none := by
  rcases h with rfl | ⟨rfl, hk⟩
  · rfl
  · rw [needPanel_restart, if_pos hk]

/-- A frame that releases no STARTUP entry raises no sign. -/
theorem hearing_raised_none {l : Link} {s : State} (h : ¬ Releases l s) : setIds (hearing l s).raised = [] := by
  rw [hearing_of_not_releases h]
  exact setIds_replicate_false

theorem Qualification.restart_eq (q : Qualification) : q.restart =
    if q.state = .confirmed ∨ q.state = .failed then { q with count := 0 }
    else { q with state := .quiet, count := 0, test := false } := by
  unfold Qualification.restart
  cases h : q.state <;> simp [DetectorState.closes]

end Sys2Proof.Machine

open Sys2Proof Sys2Proof.Machine

/-- Settles O52: each block's record after the restart, the arbiter's act on the freed line last. -/
theorem fieldRestartRealigns : Obligations.FieldRestartRealigns := by
  intro l s hr
  have hcom := needCommissioned_heard l s
  refine ⟨_, rfl, fun h => ?_, fun h hk => ?_, fun h hc => ?_, fun h hc => ?_⟩
  · subst h
    exact refused_of_deny hr (check_of_failure rfl)
  · subst h
    exact refused_of_deny hr (check_of_failure (by rw [hearing_st, needPanel_restart, if_neg hk]; rfl))
  · exact refused_of_deny hr (check_of_failure (by
      rw [hearing_st, needValleyOrPanelService_entitled h, hcom]
      simp [hc]))
  · have hacc : judgeFieldRestart l (hearing l s) = .accept (hearing l s).fieldRestart fun _ => [Result.ok.code] :=
      check_of_pass (by
        rw [hearing_st, needValleyOrPanelService_entitled h, hcom]
        simp [hc])
    obtain ⟨hsigns, hline, hquiet⟩ := fieldRestart_board (hearing l s)
    obtain ⟨hk, hroad, ⟨f, hg, hw⟩, hfield, hsites, hzones, hquals, hstill⟩ := fieldRestart_rest (hearing l s)
    rw [takeRequest_accepted hr hacc]
    rw [hearing_st] at hsigns hline hquiet hk hroad hg hfield hsites hzones hquals hstill
    rw [heardState_board] at hsigns hline hquiet
    rw [heardState_field'] at hfield
    rw [heardState_sites] at hsites
    rw [heardState_zoneUnit] at hzones hquals
    generalize (hearing l s).fieldRestart.finish = u at *
    have hreply := (startReply_answered l 0x14 [Result.ok.code] u).2
    refine ⟨⟨(hk.mono (by simp)).trans' (hreply.mono (by simp)), hroad.trans' (SameRoad.of_eq rfl), fun hn => ?_⟩,
      ⟨f, hg.answered l 0x14 _, hw⟩, ?_, ?_, ?_, fun c => ?_, fun i => ?_, hzones, fun c => ?_, fun j => ?_, fun tr ht => ?_,
      hline.probing, hline.sent, fun hn => ⟨?_, fun j => ?_⟩⟩
    · intro b hb
      by_cases hroad : b = .road
      · subst hroad
        exact hstill (hearing_raised_none hn)
      · exact ((hk.mono (by simp)).trans' (hreply.mono (by simp)) : KeepsBut (.road ::
          [.field, .sites, .zoneUnit, .board, .links]) (heardState l s) _) b (by simp_all)
    · rw [State.startReply_field, hfield]
      rfl
    · rw [State.startReply_field, hfield]
      rfl
    · rw [State.startReply_field, hfield]
      rfl
    · rw [State.startReply_field, hfield]
      exact get_mapIds ..
    · rw [State.startReply_sites, hsites]
      exact get_mapIds ..
    · rw [State.startReply_zoneUnit, hquals]
      refine congrArg (Option.map · _) (funext fun q => ?_)
      rw [Qualification.restart_eq]
      cases hq : q.state <;> simp
    · obtain ⟨h1, h2, h3, h4, h5, h6⟩ := hsigns j
      exact ⟨h1, h2, h3, h4, h5, h6⟩
    · obtain ⟨h1, h2, h3, i, d, rfl⟩ := hline.transfer tr ht
      exact ⟨h1, h2, h3, rfl, rfl, rfl, rfl, rfl, rfl, rfl, rfl⟩
    · exact hstill (hearing_raised_none hn)
    · rw [State.startReply_board, hquiet (hearing_raised_none hn), Board.restart_sign]
      exact ⟨rfl, rfl, rfl, fun hf => if_pos hf⟩

end

section
/-! The composition of pages (R142) and the rendering of field values (R143). -/

namespace Sys2Proof.Machine

-- ---------------------------------------------------------------- composition

/-- A run that has begun takes what the block has left of it, and the scan goes on behind it (R142). -/
theorem composeBlock_run (a b : List Byte) : ∀ (run codes : List Byte), composeBlock a b run codes =
    run.take codes.length ++ composeBlock a b [] (codes.drop run.length)
  | [], codes => by simp
  | r :: run, [] => by simp [composeBlock]
  | r :: run, c :: codes => by
    simp only [composeBlock, List.length_cons, List.take_succ_cons, List.drop_succ_cons, List.cons_append]
    rw [composeBlock_run a b run codes]

/-- A marker's run of five characters, cut at the block's end. -/
theorem composeBlock_marker (a b : List Byte) {f : List Byte} (hf : f.length = 5) (rest : List Byte) :
    (match f with
      | [] => []
      | r :: run => r :: composeBlock a b run rest) = f.take (rest.length + 1) ++ composeBlock a b [] (rest.drop 4) := by
  cases f with
  | nil => cases hf
  | cons r run =>
    have h4 : run.length = 4 := by simpa using hf
    simp only [List.take_succ_cons, List.cons_append]
    rw [composeBlock_run, h4]

theorem composeBlock_composes {a b : List Byte} (ha : a.length = 5) (hb : b.length = 5) :
    Composes a b (composeBlock a b []) := by
  refine ⟨rfl, fun c rest => ?_⟩
  rw [composeBlock]
  by_cases h1 : c = 1
  · rw [if_pos h1, if_pos h1, ← composeBlock_marker a b ha]
    cases a with
    | nil => cases ha
    | cons r run => rfl
  · rw [if_neg h1, if_neg h1]
    by_cases h2 : c = 2
    · rw [if_pos h2, if_pos h2, ← composeBlock_marker a b hb]
      cases b with
      | nil => cases hb
      | cons r run => rfl
    · rw [if_neg h2, if_neg h2]

/-- A composed page is its four blocks of twenty codes, each composed (R142, R144). -/
theorem compose_eq (page : List Byte) (ref : PageRef) :
    let F := composeBlock (renderOpt ref.fieldA) (renderOpt ref.fieldB) []
    compose page ref = F (page.take 20) ++ F ((page.drop 20).take 20) ++ F ((page.drop 40).take 20) ++
      F ((page.drop 60).take 20) := by
  dsimp only
  unfold compose
  rw [finRange_four]
  simp [blockOf]

-- ---------------------------------------------------------------- decimal digits

theorem digits_small (fuel : Nat) {n : Nat} (h : n < 10) : digits (fuel + 1) n = [BitVec.ofNat 8 (48 + n)] := if_pos h

theorem digits_large (fuel : Nat) {n : Nat} (h : ¬ n < 10) :
    digits (fuel + 1) n = digits fuel (n / 10) ++ [BitVec.ofNat 8 (48 + n % 10)] := if_neg h

/-- A number below a power of ten has no more digits than its exponent. -/
theorem digits_length_le : ∀ (k fuel n : Nat), n < 10 ^ (k + 1) → (digits fuel n).length ≤ k + 1
  | _, 0, _, _ => by simp [digits]
  | 0, fuel + 1, n, h => by
    rw [digits_small fuel (by simpa using h)]
    rfl
  | k + 1, fuel + 1, n, h => by
    by_cases hn : n < 10
    · rw [digits_small fuel hn]
      simp
    · have hd : n / 10 < 10 ^ (k + 1) := Nat.div_lt_of_lt_mul (by rw [pow_succ] at h; omega)
      have ih := digits_length_le k fuel (n / 10) hd
      rw [digits_large fuel hn, List.length_append]
      exact Nat.succ_le_succ ih

/-- The digits of a number are its decimal digits, without leading zeros (R143). -/
theorem digits_decimal : ∀ (fuel n : Nat), n < 10 ^ (fuel + 1) → Decimal n (digits (fuel + 1) n)
  | fuel, n, h => by
    by_cases hn : n < 10
    · rw [digits_small fuel hn]
      exact ⟨[n], by simp, by simpa using hn, fun h0 => by simpa using h0, by simp, rfl⟩
    · cases fuel with
      | zero => exact absurd (by simpa using h) hn
      | succ fuel =>
        obtain ⟨ds, hne, hlt, hhead, hsum, htext⟩ := digits_decimal fuel (n / 10)
          (Nat.div_lt_of_lt_mul (by rw [pow_succ] at h; omega))
        rw [digits_large (fuel + 1) hn]
        refine ⟨ds ++ [n % 10], by simp, fun d hd => ?_, fun h0 => ?_, ?_, ?_⟩
        · rcases List.mem_append.1 hd with hd | hd
          · exact hlt d hd
          · rw [List.mem_singleton.1 hd]
            exact Nat.mod_lt _ (by decide)
        · rw [List.head?_append_of_ne_nil _ hne] at h0
          rw [hhead h0] at hsum
          simp at hsum
          omega
        · rw [List.foldl_append, hsum]
          simp
          omega
        · rw [htext]
          simp

-- ---------------------------------------------------------------- field values (R143)

theorem clampInt_eq {lo hi : Int} (h : lo ≤ hi) (v : Int) : clampInt lo hi v = max lo (min hi v) := by
  unfold clampInt
  split
  · omega
  · split <;> omega

theorem padFive_length {l : List Byte} (h : l.length ≤ 5) : (padFive l).length = 5 := by
  unfold padFive
  rw [List.length_append, List.length_replicate]
  omega

/-- The characters of an integer field fit in five. -/
theorem integer_length {v : Int} (h1 : -9999 ≤ v) (h2 : v ≤ 99999) :
    (minusSign v ++ digits 5 v.natAbs).length ≤ 5 := by
  rw [List.length_append]
  unfold minusSign
  split
  · have := digits_length_le 3 5 v.natAbs (by norm_num; omega)
    rw [List.length_singleton]
    omega
  · have := digits_length_le 4 5 v.natAbs (by norm_num; omega)
    rw [List.length_nil]
    omega

/-- The characters of a field in tenths fit in five. -/
theorem tenths_length {v : Int} (h1 : -999 ≤ v) (h2 : v ≤ 9999) :
    (minusSign v ++ digits 3 (v.natAbs / 10) ++ [46] ++ digits 1 (v.natAbs % 10)).length ≤ 5 := by
  rw [digits_small 0 (Nat.mod_lt _ (by decide))]
  simp only [List.length_append, List.length_singleton]
  unfold minusSign
  split
  · have := digits_length_le 1 3 (v.natAbs / 10) (by norm_num; omega)
    rw [List.length_singleton]
    omega
  · have := digits_length_le 2 3 (v.natAbs / 10) (by norm_num; omega)
    rw [List.length_nil]
    omega

theorem renderOpt_length (f : Option Field) : (renderOpt f).length = 5 := by
  cases f with
  | none => rfl
  | some f =>
    obtain ⟨format, v⟩ := f
    cases format with
    | integer =>
      refine padFive_length (integer_length ?_ ?_) <;> rw [clampInt_eq (by decide)] <;> omega
    | tenths =>
      refine padFive_length (tenths_length ?_ ?_) <;> rw [clampInt_eq (by decide)] <;> omega
    | time => rfl

/-- Each field renders as R143 says. -/
theorem renderOpt_renders (f : Option Field) : Renders f (renderOpt f) := by
  cases f with
  | none => rfl
  | some f =>
    obtain ⟨format, v⟩ := f
    cases format with
    | integer =>
      refine ⟨_, digits_decimal 4 _ ?_, ?_⟩
      · norm_num
        omega
      · show padFive _ = _
        rw [clampInt_eq (by decide)]
        rfl
    | tenths =>
      refine ⟨_, digits_decimal 2 _ ?_, ?_⟩
      · norm_num
        omega
      · show padFive _ = _
        rw [clampInt_eq (by decide), digits_small 0 (Nat.mod_lt _ (by decide))]
        simp only [List.append_assoc, List.singleton_append]
        rfl
    | time => rfl

end Sys2Proof.Machine
end

section
/-! The choice of a page (R146 to R153): the desired class, its reference and the re-selection of one sign. -/

namespace Sys2Proof.Machine

-- ---------------------------------------------------------------- the desired class (R148, R149)

section classes

variable {u : State} {sign : Sign} {i : SegId} {sg : Segment}

/-- The leading hold kind is the first that is present, in the order of their places (R149). -/
theorem leading_some {h : HoldSet} {k : HoldKind} (hl : h.leading = some k) : Leads h k := by
  obtain ⟨hk, before, after, hsplit, hnone⟩ := List.find?_eq_some_iff_append.1 hl
  refine ⟨hk, fun j hj => ?_⟩
  have hsorted : leadingOrder.Pairwise fun a b => leadPlace a < leadPlace b := by decide
  have hmem : j ∈ leadingOrder := by cases j <;> decide
  rw [hsplit] at hsorted hmem
  rcases List.mem_append.1 hmem with hb | ha
  · simpa using hnone j hb
  · rcases List.mem_cons.1 ha with rfl | ha
    · exact absurd hj (lt_irrefl _)
    · exact absurd hj (List.rel_of_pairwise_cons (List.pairwise_append.1 hsorted).2.1 ha).asymm

theorem leading_none {h : HoldSet} (hl : h.leading = none) (k : HoldKind) : h.has k = false := by
  have := List.find?_eq_none.1 hl k (by cases k <;> decide)
  simpa using this

theorem closedClassOf_applies {k : HoldKind} (hs : sg.state.shut = true) (hk : Leads sg.holds k) :
    ClassApplies u sign i sg (closedClassOf k) := by
  cases k with
  | detector | zone | avalanche | weather | notice => exact ⟨hs, _, by simp, hk⟩
  | full | valley | panel | startup => exact Or.inr (Or.inr ⟨hs, _, by simp, hk⟩)

/-- The class of priority 2 applies (R149). -/
theorem closureClass_applies {c : PageClass} (h : sg.closureClass = some c) :
    ClassApplies u sign i sg c ∧ priority c = 2 := by
  have hshut : ∀ hs : sg.state.shut = true, (match sg.holds.leading with
      | none => some PageClass.closedGeneral
      | some k => some (closedClassOf k)) = some c → ClassApplies u sign i sg c ∧ priority c = 2 := by
    intro hs hc
    cases hl : sg.holds.leading with
    | none =>
      rw [hl] at hc
      cases hc
      exact ⟨Or.inr (Or.inl ⟨hs, leading_none hl⟩), rfl⟩
    | some k =>
      rw [hl] at hc
      cases hc
      exact ⟨closedClassOf_applies hs (leading_some hl), by cases k <;> rfl⟩
  unfold Segment.closureClass at h
  cases hst : sg.state with
  | opened => rw [hst] at h; cases h
  | warning => rw [hst] at h; cases h; exact ⟨hst, rfl⟩
  | opening => rw [hst] at h; cases h; exact ⟨Or.inl hst, rfl⟩
  | closing => rw [hst] at h; exact hshut (by rw [hst]; rfl) h
  | closed => rw [hst] at h; exact hshut (by rw [hst]; rfl) h

theorem closureClass_none (h : sg.closureClass = none) : sg.state = .opened := by
  unfold Segment.closureClass at h
  cases hst : sg.state with
  | opened => rfl
  | warning | opening => rw [hst] at h; cases h
  | closing | closed => rw [hst] at h; dsimp only at h; split at h <;> cases h

/-- No class of a priority before `n` applies. -/
def NoneBefore (u : State) (sign : Sign) (i : SegId) (sg : Segment) (n : Nat) : Prop :=
  ∀ d, ClassApplies u sign i sg d → n ≤ priority d

theorem NoneBefore.next {n : Nat} (h : NoneBefore u sign i sg n)
    (hn : ∀ d, priority d = n → ¬ ClassApplies u sign i sg d) : NoneBefore u sign i sg (n + 1) := fun d hd =>
  Nat.lt_of_le_of_ne (h d hd) fun e => hn d e.symm hd

theorem noneBefore_one : NoneBefore u sign i sg 1 := fun d _ => by cases d <;> decide

/-- In OPEN no closure class applies (R149). -/
theorem not_closure_of_opened (ho : sg.state = .opened) {d : PageClass} (hd : priority d = 2) :
    ¬ ClassApplies u sign i sg d := by
  cases d <;> simp [priority] at hd <;> simp [ClassApplies, ClosedBy, ho, SegState.shut]

theorem noticeAhead_isSome : (u.noticeAhead i).isSome = true ↔ ∃ n ∈ u.notices.list, n.state = .announced ∧ i ∈ n.segs := by
  unfold State.noticeAhead
  rw [List.find?_isSome]
  simp

theorem chooseClass_desired (u : State) (sign : Sign) (i : SegId) (sg : Segment) :
    DesiredClass u sign i sg (u.chooseClass sign i sg) := by
  unfold State.chooseClass
  split
  · next h => exact ⟨by simpa [ClassApplies] using h, noneBefore_one⟩
  next hlatch =>
  have h2 : NoneBefore u sign i sg 2 := noneBefore_one.next fun d hd => by
    cases d <;> simp [priority] at hd
    simpa [ClassApplies] using hlatch
  split
  · next c hc =>
    obtain ⟨ha, hp⟩ := closureClass_applies (u := u) (sign := sign) (i := i) hc
    exact ⟨ha, fun d hd => by rw [hp]; exact h2 d hd⟩
  next hc =>
  have h3 := h2.next fun d => not_closure_of_opened (closureClass_none hc)
  split
  · next h => exact ⟨h, h3⟩
  next hover =>
  have h4 := h3.next fun d hd => by
    cases d <;> simp [priority] at hd
    simpa [ClassApplies] using hover
  split
  · next h => exact ⟨by simpa [ClassApplies] using h, h4⟩
  next hwarn =>
  have h5 := h4.next fun d hd => by
    cases d <;> simp [priority] at hd
    simpa [ClassApplies] using hwarn
  split
  · next h => exact ⟨h, h5⟩
  next hban =>
  have h6 := h5.next fun d hd => by
    cases d <;> simp [priority] at hd
    simpa [ClassApplies] using hban
  split
  · next h => exact ⟨h, h6⟩
  next hchains =>
  have h7 := h6.next fun d hd => by
    cases d <;> simp [priority] at hd
    simpa [ClassApplies] using hchains
  split
  · next h => exact ⟨noticeAhead_isSome.1 h, h7⟩
  next hnotice =>
  have h8 := h7.next fun d hd => by
    cases d <;> simp [priority] at hd
    exact fun h => hnotice (noticeAhead_isSome.2 h)
  split
  · next h => exact ⟨h, h8⟩
  next hadv =>
  have h9 := h8.next fun d hd => by
    cases d <;> simp [priority] at hd
    exact hadv
  exact ⟨trivial, h9⟩

end classes

-- ---------------------------------------------------------------- the reference of a class (R146, R147, R150)

section values

variable (u : State) (i : SegId) (sg : Segment)

theorem highest_eq (l : List Nat) : highest l = l.max? := by cases l <;> rfl
theorem lowest_eq (l : List Nat) : lowest l = l.min? := by cases l <;> rfl

theorem tempValue_eq (t : Temp) : t.toOption = tempValue t := by cases t <;> rfl

theorem earliestEnd_eq : u.earliestEnd sg = (noticeEnds u sg).min? := by
  unfold State.earliestEnd noticeEnds
  cases h : sg.holds.entry .notice with
  | none => simp
  | some e => simp [lowest_eq]

theorem classValue_eq (c : PageClass) : u.classValue c i sg = valueOfClass u i sg c := by
  cases c with
  | closedNotice => simp only [State.classValue, valueOfClass, earliestEnd_eq]
  | avalancheWarning => simp only [State.classValue, valueOfClass, highest_eq]; rfl
  | advisory => simp only [State.classValue, valueOfClass, tempValue_eq]; rfl
  | _ => rfl

theorem sourceValue_eq (src : Source) (c : PageClass) : u.sourceValue src c i sg = valueOfSource u c i sg src := by
  cases src with
  | classValue => exact classValue_eq u i sg c
  | surfaceTemp | airTemp => simp only [State.sourceValue, valueOfSource, tempValue_eq]; rfl
  | zoneLevel => simp [State.sourceValue, valueOfSource, highest_eq, State.zoneLevels]
  | _ => rfl

theorem buildField_eq (format : Option Format) (src : Source) (c : PageClass) : u.buildField format src c i sg =
    format.bind fun f => (valueOfSource u c i sg src).map fun v => ⟨f, v⟩ := by
  unfold State.buildField
  rw [sourceValue_eq]
  cases format with
  | none => rfl
  | some f => cases valueOfSource u c i sg src <;> rfl

/-- The reference of a class is the one that R150 gives, where a class of OVERRIDE has an override. -/
theorem buildRef_refOf (sign : Sign) {c : PageClass} (hc : c = .override → sign.override.isSome = true) :
    RefOf u sign c i sg (u.buildRef sign c i sg) := by
  by_cases hov : c = .override
  · subst hov
    obtain ⟨o, ho⟩ := Option.isSome_iff_exists.1 (hc rfl)
    refine ⟨fun _ => ?_, fun k hk => absurd k.isLt (by rw [hk]; decide)⟩
    unfold State.buildRef
    rw [ho]
  · refine ⟨fun h => absurd h hov, fun k hk => ?_⟩
    have hentry : u.mapEntry c = u.board.pageMap.get k := by
      unfold State.mapEntry
      rw [dif_pos (hk ▸ k.isLt)]
      exact congrArg _ (Fin.ext hk.symm)
    dsimp only
    rw [← hentry, ← buildField_eq, ← buildField_eq]
    cases c <;> first | exact absurd rfl hov | rfl

end values

-- ---------------------------------------------------------------- the page of a reference (R141)

theorem readPage_reads (st : Store) (page : Nat) : PageReads st page (st.readPage page) := by
  unfold Store.readPage Store.pageCodes
  refine ⟨fun n l hn hl => ?_, fun hno => ?_⟩
  · subst hn
    rw [dif_pos n.isLt, hl]
    rfl
  · split
    · next h =>
      cases hr : st.library.get ⟨page, h⟩ with
      | valid l => exact absurd hr (hno ⟨page, h⟩ l rfl)
      | blank | failing => rfl
    · rfl

-- ---------------------------------------------------------------- the re-selection of one sign (R152, R153)

theorem matchesConfirmed_iff (b : Board) (i : SignId) (d : Desired) :
    matchesConfirmed d (b.signs.get i).contentMark (b.line.records.get i) = true ↔ MatchesConfirmed b i d.ref d.sum := by
  unfold matchesConfirmed MatchesConfirmed
  cases (b.line.records.get i).confirmed with
  | none => simp
  | some c => simp

theorem choose_none {u : State} {sign : Sign} (h : u.road.segs.get sign.segment = none) : u.choose sign = none := by
  unfold State.choose
  rw [h]
  rfl

theorem choose_some {u : State} {sign : Sign} {sg : Segment} (h : u.road.segs.get sign.segment = some sg) :
    u.choose sign = some (u.chooseClass sign sign.segment sg,
      u.buildRef sign (u.chooseClass sign sign.segment sg) sign.segment sg) := by
  unfold State.choose
  rw [h]
  rfl

/-- A re-selection does what R148 to R153 say, and hands the sign on exactly where its desired page changed. -/
theorem select_selects (u : State) (i : SignId) : ∃ changed : Bool,
    Selects u i (BoardEv.select u i (BoardEv.start u.board)).board (changed = true) ∧
    (BoardEv.select u i (BoardEv.start u.board)).handed =
      if changed then put (Vector.replicate 12 false) i true else Vector.replicate 12 false := by
  cases hseg : u.road.segs.get (u.board.signs.get i).segment with
  | none =>
    rw [BoardEv.select_none (choose_none hseg)]
    exact ⟨false, ⟨fun sg h => absurd (hseg.symm.trans h) nofun, fun _ => ⟨nofun, rfl⟩⟩, rfl⟩
  | some sg =>
    have hchoose := choose_some hseg
    have hclass := chooseClass_desired u (u.board.signs.get i) (u.board.signs.get i).segment sg
    generalize hc : u.chooseClass (u.board.signs.get i) (u.board.signs.get i).segment sg = c at hchoose hclass
    have href := buildRef_refOf u (u.board.signs.get i).segment sg (u.board.signs.get i) (c := c)
      (fun h => by subst h; exact hclass.1)
    generalize u.buildRef (u.board.signs.get i) c (u.board.signs.get i).segment sg = ref at hchoose href
    by_cases hd : (u.board.signs.get i).desired.map (·.ref) = some ref
    · obtain ⟨d, hsome, rfl⟩ := Option.map_eq_some_iff.1 hd
      have hsel := BoardEv.select_same (e := BoardEv.start u.board) hchoose hsome
      have hm := matchesConfirmed_iff u.board i d
      refine ⟨false, ⟨fun sg' h => ?_, fun h => absurd (hseg.symm.trans h) nofun⟩, ?_⟩
      · obtain rfl : sg = sg' := Option.some.inj (hseg.symm.trans h)
        refine ⟨c, d.ref, _, hclass, href, readPage_reads _ _, fun old hold _ => ⟨nofun, fun hcur => ?_, fun hcur => ?_⟩,
          fun hne => absurd hd hne⟩
        · obtain rfl : d = old := Option.some.inj (hsome.symm.trans hold)
          rw [hsel, if_pos ⟨hm.2 hcur.1, hcur.2⟩]
          rfl
        · obtain rfl : d = old := Option.some.inj (hsome.symm.trans hold)
          rw [hsel, if_neg fun h => hcur ⟨hm.1 h.1, h.2⟩]
          rfl
      · rw [hsel]
        split <;> rfl
    · have hsel := BoardEv.select_new (e := BoardEv.start u.board) hchoose hd
      have hm := matchesConfirmed_iff u.board i (u.desiredOf c ref)
      rw [hsel]
      refine ⟨true, ⟨fun sg' h => ?_, fun h => absurd (hseg.symm.trans h) nofun⟩, rfl⟩
      obtain rfl : sg = sg' := Option.some.inj (hseg.symm.trans h)
      refine ⟨c, ref, _, hclass, href, readPage_reads _ _, fun old hold hr => absurd (by rw [hold, ← hr]; rfl) hd,
        fun _ => ⟨rfl, judgeNeeds (u.desiredOf c ref) (u.board.signs.get i).contentMark (u.board.line.records.get i)
          (u.board.signs.get i).needs, fun hn => ?_, fun hs hcur => ?_, fun hs hcur => ?_, ?_⟩⟩
      · rw [judgeNeeds, if_neg fun h => hn (hm.1 h)]
      · rw [judgeNeeds, if_pos (hm.2 hs), hcur]
        rfl
      · rw [judgeNeeds, if_pos (hm.2 hs), if_neg (by simpa using hcur)]
      · have hurgent : c.urgent = decide (c ∈ closureClasses) := by cases c <;> decide
        rw [← hurgent]
        rfl

end Sys2Proof.Machine
end

section
/-! SIGN_OVERRIDE (R155). -/

namespace Sys2Proof.Machine

-- ---------------------------------------------------------------- the override that a request carries

/-- A field of an override, as sent (R150, R155). -/
def carriedField (f : OverrideField) : Option Field :=
  if f.format = 0 then none
  else some {
    format := if f.format = 1 then .integer else if f.format = 2 then .tenths else .time,
    value := f.value.toInt }

/-- The reference of an override, as sent (R150, R155). -/
def carriedRef (b : OverrideBody) : PageRef :=
  { page := b.page.toNat, fieldA := carriedField b.fieldA, fieldB := carriedField b.fieldB, flash := b.flash }

/-- An override passes check 4 of R155. -/
def BodyFits (b : OverrideBody) : Prop := b.page.toNat ≤ 127 ∧ b.fieldA.format.toNat ≤ 3 ∧ b.fieldB.format.toNat ≤ 3

theorem overrideField_of_le {f : OverrideField} (h : f.format.toNat ≤ 3) : overrideField f = some (carriedField f) := by
  unfold overrideField carriedField
  by_cases h0 : f.format = 0
  · rw [if_pos h0, if_pos h0]
  by_cases h1 : f.format = 1
  · rw [if_neg h0, if_neg h0, if_pos h1, if_pos h1]
  by_cases h2 : f.format = 2
  · rw [if_neg h0, if_neg h0, if_neg h1, if_neg h1, if_pos h2, if_pos h2]
  have h3 : f.format = 3 := by
    apply BitVec.eq_of_toNat_eq
    have n0 : f.format.toNat ≠ 0 := fun h => h0 (BitVec.eq_of_toNat_eq h)
    have n1 : f.format.toNat ≠ 1 := fun h => h1 (BitVec.eq_of_toNat_eq h)
    have n2 : f.format.toNat ≠ 2 := fun h => h2 (BitVec.eq_of_toNat_eq h)
    show f.format.toNat = 3
    omega
  rw [if_neg h0, if_neg h0, if_neg h1, if_neg h1, if_neg h2, if_neg h2, if_pos h3]

theorem overrideField_of_gt {f : OverrideField} (h : ¬ f.format.toNat ≤ 3) : overrideField f = none := by
  unfold overrideField
  have hne : ∀ n : Byte, n.toNat ≤ 3 → f.format ≠ n := fun n hn he => h (he ▸ hn)
  rw [if_neg (hne 0 (by decide)), if_neg (hne 1 (by decide)), if_neg (hne 2 (by decide)), if_neg (hne 3 (by decide))]

theorem overrideRef_of_fits {b : OverrideBody} (h : BodyFits b) : overrideRef b = some (carriedRef b) := by
  obtain ⟨hp, ha, hb⟩ := h
  unfold overrideRef
  rw [overrideField_of_le ha, overrideField_of_le hb]
  exact if_pos hp

theorem overrideRef_of_not_fits {b : OverrideBody} (h : ¬ BodyFits b) : overrideRef b = none := by
  unfold overrideRef
  by_cases ha : b.fieldA.format.toNat ≤ 3
  · by_cases hb : b.fieldB.format.toNat ≤ 3
    · rw [overrideField_of_le ha, overrideField_of_le hb]
      exact if_neg fun hp => h ⟨hp, ha, hb⟩
    · rw [overrideField_of_gt hb]
      cases overrideField b.fieldA <;> rfl
  · rw [overrideField_of_gt ha]

theorem carriedOverride_of_fits {o : Option OverrideBody} (h : ∀ b, o = some b → BodyFits b) :
    carriedOverride o = some (o.map carriedRef) := by
  cases o with
  | none => rfl
  | some b => exact congrArg (Option.map some) (overrideRef_of_fits (h b rfl))

theorem carriedOverride_of_not_fits {o : Option OverrideBody} (h : ¬ ∀ b, o = some b → BodyFits b) :
    carriedOverride o = none := by
  cases o with
  | none => exact absurd nofun h
  | some b =>
    have hb : ¬ BodyFits b := fun hf => h fun b' e => by
      cases e
      exact hf
    exact congrArg (Option.map some) (overrideRef_of_not_fits hb)

/-- The answer to an accepted SIGN_OVERRIDE: the sign, and the class of its desired page (R155). -/
def overrideAnswer (sign : Byte) (i : SignId) (s : State) : List Byte :=
  [Result.ok.code, sign] ++
    (match (s.board.signs.get i).desired with | some d => byte1 d.cls.idx.val | none => [])

-- ---------------------------------------------------------------- the selected sign

namespace BoardEv

variable {s : State} {i j : SignId} {e : BoardEv}

/-- A re-selection of one sign leaves the records of the others. -/
theorem select_other (h : i ≠ j) : (select s i e).board.signs.get j = e.board.signs.get j := by
  rcases select_cases s i e with k | ⟨_, k⟩ | ⟨c, ref, k⟩ <;> rw [k]
  · rw [setSign_get, if_neg h]
  · rw [newPage_get, if_neg h]

/-- A sign that was selected has the reference that was chosen. -/
theorem select_desired {c : PageClass} {ref : PageRef} (h : s.choose (e.board.signs.get i) = some (c, ref)) :
    ((select s i e).board.signs.get i).desired.map (·.ref) = some ref := by
  by_cases hd : (e.board.signs.get i).desired.map (·.ref) = some ref
  · obtain ⟨d, hsome, rfl⟩ := Option.map_eq_some_iff.1 hd
    rw [select_same h hsome]
    split
    · rw [setSign_get, if_pos rfl]
      exact hd
    · exact hd
  · rw [select_new h hd, newPage_get, if_pos rfl]
    rfl

theorem selectAll_other {l : List SignId} : ∀ {e : BoardEv}, j ∉ l → (selectAll s l e).board.signs.get j = e.board.signs.get j := by
  induction l with
  | nil => exact fun _ => rfl
  | cons i l ih =>
    intro e h
    obtain ⟨hi, hl⟩ := not_or.1 (mt List.mem_cons.2 h)
    exact (ih hl).trans (select_other (Ne.symm hi))

/-- A sign among several that are selected, each once, has the reference that was chosen. -/
theorem selectAll_desired {c : PageClass} {ref : PageRef} {l : List SignId} : ∀ {e : BoardEv}, l.Nodup → i ∈ l →
    s.choose (e.board.signs.get i) = some (c, ref) →
    ((selectAll s l e).board.signs.get i).desired.map (·.ref) = some ref := by
  induction l with
  | nil => exact fun _ h => absurd h (List.not_mem_nil)
  | cons j l ih =>
    intro e hn hi hc
    obtain ⟨hj, hn⟩ := List.nodup_cons.1 hn
    show ((selectAll s l (select s j e)).board.signs.get i).desired.map (·.ref) = some ref
    by_cases hij : j = i
    · subst hij
      rw [selectAll_other hj]
      exact select_desired hc
    · refine ih hn ((List.mem_cons.1 hi).resolve_left (Ne.symm hij)) ?_
      rw [select_other hij]
      exact hc

end BoardEv

/-- In OPEN, with the latch CLEAR, an override is the choice of its sign (R148, R150). -/
theorem choose_override {u : State} {sign : Sign} {sg : Segment} {ref : PageRef}
    (hseg : u.road.segs.get sign.segment = some sg) (ho : sg.state = .opened) (hl : u.latch.state = .clear)
    (hs : sign.override = some ref) : u.choose sign = some (.override, ref) := by
  have hc : u.chooseClass sign sign.segment sg = .override := by
    unfold State.chooseClass Segment.closureClass
    rw [hl, ho, hs]
    rfl
  rw [choose_some hseg, hc]
  unfold State.buildRef
  rw [hs]

-- ---------------------------------------------------------------- the event (R155)

theorem nodup_setIds {n : Nat} (v : Vector Bool n) : (setIds v).Nodup := nodup_idsWhere _

/-- The override of a sign is recorded, and at the end of the event the raised signs have been selected (R152, R155). -/
theorem setOverride_finish (i : SignId) (o : Option PageRef) (e : Ev) :
    let u := (e.setOverride i o).st
    let t := (e.setOverride i o).finish
    KeepsBut [.links, .road, .board] e.st t ∧ SameRoad e.st t ∧ Gains 0 e.st t ∧
      (∀ j, (t.board.signs.get j).override = if j = i then o else (e.st.board.signs.get j).override) ∧
      ∀ c ref, u.choose (u.board.signs.get i) = some (c, ref) → (t.board.signs.get i).desired.map (·.ref) = some ref := by
  dsimp only
  obtain ⟨hk, hroad, hg⟩ := finish_spec (e.setOverride i o)
  have hst : KeepsBut [.board] e.st (e.setOverride i o).st := by
    intro b hb
    cases b <;> simp_all [Block.same, Ev.setOverride]
  have hmem : i ∈ setIds (e.setOverride i o).raised := by
    rw [mem_setIds]
    exact get_put_same ..
  have hboard := finish_board (e := e.setOverride i o) (Or.inr (List.ne_nil_of_mem hmem))
  refine ⟨(hst.mono (by simp)).trans' hk, (SameRoad.of_eq (hst .road (by simp))).trans' hroad, fun m => ?_, fun j => ?_,
    fun c ref hc => ?_⟩
  · rw [hg m, show (e.setOverride i o).st.links = e.st.links from hst .links (by simp)]
  · have hget : ((e.setOverride i o).st.board.signs.get j).override =
        if j = i then o else (e.st.board.signs.get j).override := by
      show ((alter e.st.board.signs i fun g => { g with override := o }).get j).override = _
      rw [get_alter]
      by_cases h : i = j
      · rw [if_pos h, if_pos h.symm]
      · rw [if_neg h, if_neg (Ne.symm h)]
    rw [hboard, Board.arbitrate_signs, ((BoardEv.selectAll_reselects _ _ _).sign j).2.2.1]
    exact hget
  · rw [hboard, Board.arbitrate_signs]
    exact BoardEv.selectAll_desired (nodup_setIds _) hmem hc

/-- Where nothing else is raised, the one sign is selected, and handed on where its page changed (R152, R155). -/
theorem setOverride_single (i : SignId) (o : Option PageRef) (s : State) :
    let u := ((Ev.start s).setOverride i o).st
    let t := ((Ev.start s).setOverride i o).finish
    ∃ (board : Board) (changed : Bool), Selects u i board (changed = true) ∧ t.board = board.arbitrate ∧
      (changed = false → t.road = s.road) ∧ (changed = true → JudgesWarning i board s t) := by
  dsimp only
  have hr : setIds ((Ev.start s).setOverride i o).raised = [i] := setIds_put_replicate i
  have hfin : ((Ev.start s).setOverride i o).finish =
      ((Ev.start s).setOverride i o).st.lineStep (BoardEv.select ((Ev.start s).setOverride i o).st i) := by
    unfold Ev.finish
    rw [hr]
    rfl
  rw [hfin]
  obtain ⟨changed, hsel, hhand⟩ := select_selects ((Ev.start s).setOverride i o).st i
  refine ⟨_, changed, hsel, (lineStep_spec _ _).2.2.1, fun hc => ?_, fun hc => ?_⟩
  · rw [hc, if_neg (by decide)] at hhand
    exact lineStep_quiet hhand
  · rw [hc, if_pos rfl] at hhand
    exact (lineStep_handed hhand).congr ⟨rfl, fun _ => ⟨rfl, rfl, rfl⟩⟩ rfl rfl

end Sys2Proof.Machine

open Sys2Proof Sys2Proof.Machine

/-- Settles O47: the checks of R155 in their order and the event of an accepted override; then composition and rendering. -/
theorem signOverrideIsRecorded : Obligations.SignOverrideIsRecorded := by
  refine ⟨fun l sign o s hr => ?_, fun page ref => ⟨_, composeBlock_composes (renderOpt_length _) (renderOpt_length _),
    compose_eq page ref⟩, renderOpt_renders⟩
  have hcom := needCommissioned_heard l s
  have hvalley : need (l == .valley) .authority = if l = .valley then none else some .authority := by
    rw [link_beq]
    by_cases h : l = .valley <;> simp [h]
  have hpass : l = .valley → s.commissioned = true → firstFailure [need (l == .valley) .authority,
      (hearing l s).st.needCommissioned] = none := fun h hc => by
    rw [hvalley, hearing_st, hcom, if_pos h, if_pos hc]
    rfl
  refine ⟨_, rfl, fun h => ?_, fun h hc => ?_, fun h hc hbad => ?_, fun i h hc hi hfits => ?_⟩
  · exact refused_of_deny hr (check_of_failure (by rw [hvalley, if_neg h]; rfl))
  · exact refused_of_deny hr (check_of_failure (by rw [hvalley, hearing_st, hcom, if_pos h]; simp [hc]))
  · refine refused_of_deny hr ((check_of_pass (hpass h hc)).trans ?_)
    by_cases hs : 12 ≤ sign.toNat
    · rw [show idOf 12 sign = none from dif_neg (by omega)]
    · rw [carriedOverride_of_not_fits (hbad.resolve_left hs)]
      cases idOf 12 sign <;> rfl
  · have hacc : judgeSignOverride l sign o (hearing l s) =
        .accept ((hearing l s).setOverride i (o.map carriedRef)) (overrideAnswer sign i) := by
      refine (check_of_pass (hpass h hc)).trans ?_
      rw [idOf_eq_some.2 hi, carriedOverride_of_fits hfits]
      rfl
    obtain ⟨hk, hroad, hg, hover, hdesired⟩ := setOverride_finish i (o.map carriedRef) (hearing l s)
    rw [hearing_st] at hk hroad hg hover
    rw [takeRequest_accepted hr hacc]
    refine ⟨hk.trans' ((startReply_answered _ _ _ _).2.mono (by simp)), hroad.trans' (SameRoad.of_eq rfl), hover,
      hg.answered l 0x0C _, fun hn => ?_, fun b sg hb hseg ho hl => ?_⟩
    · have hsingle := setOverride_single i (o.map carriedRef) (s.hear l)
      rw [← hearing_of_not_releases hn] at hsingle
      obtain ⟨board, changed, hsel, hboard, hsame, hjudged⟩ := hsingle
      rw [← heardState_of_not_releases hn] at hsame hjudged
      exact ⟨board, changed, hsel, hboard, hsame, fun hch => (hjudged hch).congr ⟨rfl, fun _ => ⟨rfl, rfl, rfl⟩⟩ rfl rfl⟩
    · subst hb
      have hget : ((hearing l s).setOverride i ((some b).map carriedRef)).st.board.signs.get i =
          { (heardState l s).board.signs.get i with override := some (carriedRef b) } := get_alter_same ..
      have hlatch : ((hearing l s).setOverride i ((some b).map carriedRef)).st.latch.state = .clear :=
        (congrArg Latch.state (heardState_latch l s)).trans hl
      have hchoose := hdesired .override (carriedRef b) (choose_override (sg := sg) (by
        rw [hget, heardState_board]
        exact hseg) ho hlatch (by rw [hget]))
      obtain ⟨d, hd, href⟩ := Option.map_eq_some_iff.1 hchoose
      exact ⟨d, hd, href⟩

end

section
/-! The chain of R42 on a road whose lists agree: what its tasks can still bring about is bounded, so that it is worked off to
its end, and there every demand is the one that the segments give (R31, R32, R42). -/

namespace Sys2Proof.Machine

open RoadEv (doTask enterSeg)

-- ---------------------------------------------------------------- the laws of a road

/-- The two laws of a road by which the raising law holds. -/
def Lawful (r : Road) : Prop := ListsAgree r ∧ DemandLaw r

/-- The chain on its way: the lists agree, a demand that its segments no longer give is to be judged, and a gate that rises
against its demand is to have it applied. -/
structure Settling (e : RoadEv) (tasks : List Task) : Prop where
  lists : ListsAgree e.road
  demand : ∀ g, (e.road.gates.get g).demand = e.road.demandOf (e.road.gates.get g) ∨ Task.demand g ∈ tasks
  drive : ∀ g, (e.road.gates.get g).raiseDrive = true → (e.road.gates.get g).state = .raising
  raising : ∀ g, (e.road.gates.get g).state = .raising → (e.road.gates.get g).demand = .raise ∨ Task.apply g ∈ tasks

theorem settling_nil_iff {e : RoadEv} : Settling e [] ↔ Lawful e.road := by
  refine ⟨fun ⟨hl, hd, hr, hs⟩ => ⟨hl, fun g => ⟨?_, hr g, fun h => ?_⟩⟩, fun ⟨hl, hd⟩ => ⟨hl, fun g => Or.inl (hd g).1,
    fun g => (hd g).2.1, fun g h => Or.inl ((hd g).2.2 h)⟩⟩
  · exact (hd g).resolve_right (by simp)
  · exact (hs g h).resolve_right (by simp)

/-- A travel toward a demand is in RAISING, its raising drive ON, exactly where the demand is RAISE (R31, R33). -/
theorem travel_drive (x : Gate) (d : Demand) (c : TravelCheck) :
    ((x.travel d c).raiseDrive = true → (x.travel d c).state = .raising) ∧ ((x.travel d c).state = .raising → d = .raise) := by
  cases d
  · exact ⟨fun _ => rfl, fun _ => rfl⟩
  · exact ⟨nofun, nofun⟩

/-- An arrival ends in a rest or in FAULT: the demand stands and no drive is ON (R31, R37). -/
theorem arrive_fields (x : Gate) : x.arrive.demand = x.demand ∧ x.arrive.raiseDrive = false ∧ x.arrive.state ≠ .raising := by
  unfold Gate.arrive
  dsimp only
  split
  · exact ⟨rfl, rfl, nofun⟩
  · split <;> exact ⟨rfl, rfl, nofun⟩

namespace RoadEv

/-- The tasks of an entry to a state: the demands of the gates, its own judgement, and those of its neighbours (R15, R19, R32). -/
theorem enterSeg_tasks (ctx : RoadCtx) {e : RoadEv} {i : SegId} {sg : Segment} (st : SegState) (hi : e.road.segs.get i = some sg) :
    (enterSeg ctx e i st).2 = sg.gates.map .demand ++ ownTasks i st ++ (neighbours e i sg.gates).map .done := by
  unfold enterSeg
  rw [hi]
  cases st <;> rfl

end RoadEv

namespace Settling

variable {e : RoadEv} {tasks rest : List Task} {t : Task}

theorem mono (h : Settling e tasks) (hsub : ∀ t ∈ tasks, t ∈ rest) : Settling e rest :=
  ⟨h.lists, fun g => (h.demand g).imp_right (hsub _), h.drive, fun g hs => (h.raising g hs).imp_right (hsub _)⟩

/-- A task that has nothing to do is done with. -/
theorem idle (h : Settling e (t :: rest))
    (hd : ∀ g, t = .demand g → (e.road.gates.get g).demand = e.road.demandOf (e.road.gates.get g))
    (ha : ∀ g, t = .apply g → (e.road.gates.get g).state = .raising → (e.road.gates.get g).demand = .raise) :
    Settling e rest := by
  refine ⟨h.lists, fun g => ?_, h.drive, fun g hs => ?_⟩
  · rcases h.demand g with hg | hg
    · exact Or.inl hg
    · rcases List.mem_cons.1 hg with hg | hg
      · exact Or.inl (hd g hg.symm)
      · exact Or.inr hg
  · rcases h.raising g hs with hg | hg
    · exact Or.inl hg
    · rcases List.mem_cons.1 hg with hg | hg
      · exact Or.inl (ha g hg.symm hs)
      · exact Or.inr hg

/-- A gate whose record is written anew is lawful again, or to be judged; the segments stand. -/
theorem setGate (h : Settling e tasks) {i : GateId} {f : Gate → Gate} {x : Gate} (hx : f (e.road.gates.get i) = x)
    (hframe : gateFrame x = gateFrame (e.road.gates.get i))
    (hdemand : x.demand = e.road.demandOf (e.road.gates.get i) ∨ Task.demand i ∈ rest)
    (hdrive : x.raiseDrive = true → x.state = .raising)
    (hraising : x.state = .raising → x.demand = .raise ∨ Task.apply i ∈ rest)
    (hsub : ∀ t ∈ tasks, t ≠ .demand i → t ≠ .apply i → t ∈ rest) : Settling (e.setGate i f) rest := by
  subst hx
  have hr := RoadEv.setGate_frame e i f hframe
  have hself : (e.setGate i f).road.gates.get i = f (e.road.gates.get i) := (RoadEv.setGate_get ..).trans (if_pos rfl)
  have hother : ∀ g, i ≠ g → (e.setGate i f).road.gates.get g = e.road.gates.get g := fun g hg =>
    (RoadEv.setGate_get ..).trans (if_neg hg)
  have hdem : ∀ g, (e.setGate i f).road.demandOf ((e.setGate i f).road.gates.get g) = e.road.demandOf (e.road.gates.get g) :=
    fun g => RoadEv.demandOf_congr (hr.listing g) fun _ => rfl
  refine ⟨hr.listsAgree h.lists, fun g => ?_, fun g => ?_, fun g hs => ?_⟩
  · rw [hdem g]
    by_cases hg : i = g
    · subst hg
      rwa [hself]
    · rw [hother g hg]
      exact (h.demand g).imp_right fun hm => hsub _ hm (fun he => hg (Task.demand.inj he).symm) nofun
  · by_cases hg : i = g
    · subst hg
      rwa [hself]
    · rw [hother g hg]
      exact h.drive g
  · by_cases hg : i = g
    · subst hg
      rw [hself] at hs ⊢
      exact hraising hs
    · rw [hother g hg] at hs ⊢
      exact (h.raising g hs).imp_right fun hm => hsub _ hm nofun fun he => hg (Task.apply.inj he).symm

/-- A gate enters a state other than RAISING against its demand. -/
theorem gateTo (h : Settling e tasks) {i : GateId} {x : Gate} {more : List Task}
    (hframe : gateFrame x = gateFrame (e.road.gates.get i)) (hdemand : x.demand = (e.road.gates.get i).demand)
    (hdrive : x.raiseDrive = true → x.state = .raising) (hraising : x.state = .raising → x.demand = .raise)
    (hsub : ∀ t ∈ tasks, t ≠ .apply i → t ∈ rest) :
    Settling (e.gateTo i x more).1 ((e.gateTo i x more).2 ++ rest) := by
  have hset : Settling (e.setGate i fun _ => x) (.handed i (x.state == .fault) :: more ++ rest) := by
    refine h.setGate rfl hframe ?_ hdrive (fun hs => Or.inl (hraising hs)) fun t ht _ ha => ?_
    · rw [hdemand]
      exact (h.demand i).imp_right fun hm => List.mem_append_right _ (hsub _ hm nofun)
    · exact List.mem_append_right _ (hsub t ht ha)
  exact ⟨hset.lists, hset.demand, hset.drive, hset.raising⟩

/-- A gate arrives. -/
theorem arrive (h : Settling e rest) (i : GateId) : Settling (e.arrival i).1 ((e.arrival i).2 ++ rest) := by
  obtain ⟨hd, hr, hs⟩ := arrive_fields (e.road.gates.get i)
  exact h.gateTo (RoadEv.arrive_frame _) hd (fun h => by rw [hr] at h; cases h) (fun h => absurd h hs) fun _ ht _ => ht

/-- A segment enters a state: the gates that it lists are to be judged. -/
theorem enter (h : Settling e tasks) (ctx : RoadCtx) (i : SegId) (st : SegState) :
    Settling (enterSeg ctx e i st).1 ((enterSeg ctx e i st).2 ++ tasks) := by
  cases hi : e.road.segs.get i with
  | none => rwa [RoadEv.enterSeg_get_none ctx st hi]
  | some sg =>
    have hgates := RoadEv.enterSeg_gates ctx e i st
    have hfr := RoadEv.enterSeg_frame ctx e i st
    refine ⟨hfr.listsAgree h.lists, fun g => ?_, fun g => ?_, fun g hs => ?_⟩
    · rw [hgates]
      by_cases hg : i ∈ (e.road.gates.get g).listing
      · refine Or.inr (List.mem_append_left _ ?_)
        have hm : g ∈ sg.gates := ((h.lists.2.1 i sg hi).2.2 g).2 hg
        rw [RoadEv.enterSeg_tasks ctx st hi]
        simp [hm]
      · have hd : (enterSeg ctx e i st).1.road.demandOf (e.road.gates.get g) = e.road.demandOf (e.road.gates.get g) := by
          unfold Road.demandOf
          have hany : (e.road.gates.get g).listing.any (enterSeg ctx e i st).1.road.holdsDown =
              (e.road.gates.get g).listing.any e.road.holdsDown := by
            rw [Bool.eq_iff_iff, List.any_eq_true, List.any_eq_true]
            refine exists_congr fun j => and_congr_right fun hj => ?_
            rw [RoadEv.enterSeg_holdsDown ctx j hi, if_neg (by rintro rfl; exact hg hj)]
          rw [hany]
        rw [hd]
        exact (h.demand g).imp_right (List.mem_append_right _)
    · rw [hgates]
      exact h.drive g
    · rw [hgates] at hs ⊢
      exact (h.raising g hs).imp_right (List.mem_append_right _)

/-- A segment record is written that keeps its state and its frame. -/
theorem setSeg (h : Settling e tasks) {i : SegId} {f : Segment → Segment}
    (hf : ∀ sg, segFrame (f sg) = segFrame sg ∧ (f sg).state = sg.state) : Settling (e.setSeg i f) tasks := by
  have hr := RoadEv.setSeg_frame e i f fun sg => (hf sg).1
  have hh : ∀ j, (e.setSeg i f).road.holdsDown j = e.road.holdsDown j := fun j => by
    rw [RoadEv.holdsDown_eq, RoadEv.holdsDown_eq, RoadEv.setSeg_segState]
    split
    · next hij => subst hij; simp [Road.segState, (hf _).2]
    · rfl
  refine ⟨hr.listsAgree h.lists, fun g => ?_, h.drive, h.raising⟩
  have hd : (e.setSeg i f).road.demandOf (e.road.gates.get g) = e.road.demandOf (e.road.gates.get g) :=
    RoadEv.demandOf_congr rfl hh
  rw [RoadEv.setSeg_gates, hd]
  exact h.demand g

theorem hand (h : Settling e tasks) (ctx : RoadCtx) (fault : Bool) (i : SegId) :
    Settling (RoadEv.handSeg ctx fault i e).1 ((RoadEv.handSeg ctx fault i e).2 ++ tasks) := by
  unfold RoadEv.handSeg
  split
  · exact h.mono fun _ ht => List.mem_append_right _ ht
  · split
    · exact h.enter ctx i .closing
    · exact h.mono fun _ ht => List.mem_append_right _ ht
  · exact h

theorem handAll (ctx : RoadCtx) (fault : Bool) : ∀ (l : List SegId) {e : RoadEv} {tasks : List Task}, Settling e tasks →
    Settling (RoadEv.handAll ctx fault l e).1 ((RoadEv.handAll ctx fault l e).2 ++ tasks)
  | [], _, _, h => h
  | i :: l, e, tasks, h => by
    refine (handAll ctx fault l (h.hand ctx fault i)).mono fun t ht => ?_
    show t ∈ ((RoadEv.handSeg ctx fault i e).2 ++ (RoadEv.handAll ctx fault l (RoadEv.handSeg ctx fault i e).1).2) ++ tasks
    simp only [List.mem_append] at ht ⊢
    tauto

/-- A task that judges no demand and applies none is done with. -/
theorem drop (h : Settling e (t :: rest)) (hd : ∀ g, t ≠ .demand g) (ha : ∀ g, t ≠ .apply g) : Settling e rest :=
  h.idle (fun g hg => absurd hg (hd g)) fun g hg => absurd hg (ha g)

/-- A demand that is applied leaves no gate that rises against it (R33). -/
theorem apply_task {i : GateId} (h : Settling e (.apply i :: rest)) (ctx : RoadCtx) :
    Settling (doTask ctx (.apply i) e).1 ((doTask ctx (.apply i) e).2 ++ rest) := by
  have hsub : ∀ t ∈ Task.apply i :: rest, t ≠ .apply i → t ∈ rest := fun t ht hne =>
    (List.mem_cons.1 ht).resolve_left hne
  simp only [doTask]
  split
  · exact h.gateTo rfl rfl nofun nofun hsub
  · exact h.gateTo rfl rfl nofun nofun hsub
  · next hd _ => exact h.gateTo rfl rfl (fun _ => rfl) (fun _ => hd) hsub
  · next hne _ =>
    refine h.idle nofun fun g hg hs => ?_
    obtain rfl := Task.apply.inj hg
    cases hd : (e.road.gates.get i).demand with
    | raise => rfl
    | lower => exact absurd hs (hne hd)

/-- Every task keeps what the chain is on its way to. -/
theorem step (h : Settling e (t :: rest)) (ctx : RoadCtx) :
    Settling (doTask ctx t e).1 ((doTask ctx t e).2 ++ rest) := by
  cases t with
  | demand i =>
    simp only [doTask]
    split
    · next hd =>
      exact h.idle (fun g hg => by obtain rfl := Task.demand.inj hg; exact hd.symm) nofun
    · refine h.setGate rfl rfl (Or.inl rfl) (h.drive i) (fun _ => Or.inr (by simp)) fun t' ht' hne _ => ?_
      exact List.mem_append_right _ ((List.mem_cons.1 ht').resolve_left hne)
  | apply i => exact h.apply_task ctx
  | settle i =>
    have h' := h.drop nofun nofun
    simp only [doTask]
    split
    · exact h'.gateTo rfl rfl nofun nofun fun _ ht _ => ht
    · exact h'.arrive i
    · exact h'.arrive i
    · exact h'
  | resolve i =>
    have h' := h.drop nofun nofun
    simp only [doTask]
    split
    · split
      · exact h'.gateTo rfl rfl nofun nofun fun _ ht _ => ht
      · exact h'.gateTo rfl rfl nofun nofun fun _ ht _ => ht
      · exact h'.gateTo rfl rfl nofun nofun fun _ ht _ => ht
      · exact h'.gateTo rfl rfl (travel_drive _ _ _).1 (travel_drive _ _ _).2 fun _ ht _ => ht
    · exact h'
  | handed i fault => exact (h.drop nofun nofun).handAll ctx fault _
  | complete i =>
    have h' := h.drop nofun nofun
    simp only [doTask]
    split
    · split
      · refine Settling.enter (h'.setSeg ?_) ctx i .closed
        exact fun _ => ⟨rfl, rfl⟩
      · exact h'
    · exact h'
  | done i =>
    have h' := h.drop nofun nofun
    simp only [doTask]
    split
    · split
      · exact h'.enter ctx i .opened
      · exact h'
    · exact h'

end Settling

-- ---------------------------------------------------------------- what the chain can still bring about

/-- The moves that a gate still has before it while its demand stands, at most. -/
def gateRank : Demand → GateState → Nat
  | _, .unknown => 4
  | .lower, .raising => 3
  | .lower, .raised => 2
  | .lower, .lowering => 1
  | .raise, .lowering => 3
  | .raise, .lowered => 2
  | .raise, .raising => 1
  | _, _ => 0

/-- The flips that a demand still has before it, when its segments now give `now`: the chain only ever shuts segments. -/
def flipRank : Demand → Demand → Nat
  | .raise, _ => 1
  | .lower, .raise => 2
  | .lower, .lower => 0

/-- The ends of its opening or closing that a segment still has before it (R15, R19, R20). -/
def segRank : Option SegState → Nat
  | some .opening => 2
  | some .closing => 1
  | _ => 0

/-- A task and the judgements that it hands out. -/
def taskCost : Task → Nat
  | .handed _ _ => 3
  | _ => 1

/-- A move brings about at most 4 tasks beyond its own, a flip at most three moves anew. -/
def gateCost (r : Road) (x : Gate) : Nat := 4 * gateRank x.demand x.state + 13 * flipRank x.demand (r.demandOf x)

/-- The cost of all segments: an entry brings about at most 11 tasks. -/
def segsCost (r : Road) : Nat := ∑ i : SegId, 11 * segRank (r.segState i)

/-- The cost of all gates. -/
def gatesCost (r : Road) : Nat := ∑ g : GateId, gateCost r (r.gates.get g)

/-- The steps that the chain still has before it, at most. -/
def chainCost (e : RoadEv) (tasks : List Task) : Nat := (tasks.map taskCost).sum + gatesCost e.road + segsCost e.road

theorem gateRank_le (d : Demand) (st : GateState) : gateRank d st ≤ 4 := by cases d <;> cases st <;> decide

theorem gateCost_le (r : Road) (x : Gate) : gateCost r x ≤ 42 := by
  have h1 := gateRank_le x.demand x.state
  have h2 : flipRank x.demand (r.demandOf x) ≤ 2 := by cases x.demand <;> cases r.demandOf x <;> decide
  unfold gateCost
  omega

/-- Whatever the road, the cost of its gates and segments is bounded. -/
theorem roadCost_le (r : Road) : gatesCost r + segsCost r ≤ 428 := by
  have h1 : gatesCost r ≤ ∑ _g : GateId, 42 := Finset.sum_le_sum fun g _ => gateCost_le r _
  have h2 : segsCost r ≤ ∑ _i : SegId, 22 := Finset.sum_le_sum fun i _ => by
    cases r.segState i with
    | none => simp [segRank]
    | some st => cases st <;> decide
  simp only [Finset.sum_const, Finset.card_univ, Fintype.card_fin, smul_eq_mul] at h1 h2
  omega

/-- A sum of which one term changes. -/
theorem sum_of_one {n : Nat} {f f' : Fin n → Nat} (i : Fin n) (h : ∀ j, i ≠ j → f' j = f j) :
    ∑ j, f' j + f i = ∑ j, f j + f' i := by
  have he : ∑ j ∈ Finset.univ.erase i, f' j = ∑ j ∈ Finset.univ.erase i, f j :=
    Finset.sum_congr rfl fun j hj => h j (Finset.ne_of_mem_erase hj).symm
  rw [← Finset.add_sum_erase _ f (Finset.mem_univ i), ← Finset.add_sum_erase _ f' (Finset.mem_univ i), he]
  omega

theorem gatesCost_of_one {r r' : Road} (i : GateId)
    (h : ∀ g, i ≠ g → gateCost r' (r'.gates.get g) = gateCost r (r.gates.get g)) :
    gatesCost r' + gateCost r (r.gates.get i) = gatesCost r + gateCost r' (r'.gates.get i) := sum_of_one i h

theorem segsCost_of_one {r r' : Road} (i : SegId) (h : ∀ j, i ≠ j → r'.segState j = r.segState j) :
    segsCost r' + 11 * segRank (r.segState i) = segsCost r + 11 * segRank (r'.segState i) :=
  sum_of_one (f := fun j => 11 * segRank (r.segState j)) (f' := fun j => 11 * segRank (r'.segState j)) i fun j hj =>
    congrArg (fun st => 11 * segRank st) (h j hj)

/-- Shutting segments leaves no demand more to flip. -/
theorem flipRank_mono {r r' : Road} {x : Gate} (h : ∀ j, r.holdsDown j = true → r'.holdsDown j = true) :
    flipRank x.demand (r'.demandOf x) ≤ flipRank x.demand (r.demandOf x) := by
  cases hr : r'.demandOf x with
  | lower => cases x.demand <;> cases r.demandOf x <;> decide
  | raise =>
    have hrr : r.demandOf x = .raise := by
      have hall := RoadEv.demandOf_eq_raise hr
      unfold Road.demandOf at hr ⊢
      split
      · next he => rw [if_pos he] at hr; cases hr
      · refine if_neg fun hany => ?_
        obtain ⟨j, hj, hd⟩ := List.any_eq_true.1 hany
        exact absurd (h j hd) (by simp [hall j hj])
    rw [hrr]

-- ---------------------------------------------------------------- the cost of one task

theorem chainCost_append (e : RoadEv) (a b : List Task) : chainCost e (a ++ b) = (a.map taskCost).sum + chainCost e b := by
  unfold chainCost
  rw [List.map_append, List.sum_append]
  omega

theorem taskCost_pos (t : Task) : 0 < taskCost t := by
  cases t <;> exact Nat.succ_pos _

theorem sum_map_unit {α : Type} (l : List α) (f : α → Task) (h : ∀ x, taskCost (f x) = 1) :
    ((l.map f).map taskCost).sum = l.length := by
  induction l with
  | nil => rfl
  | cons x l ih => rw [List.map_cons, List.map_cons, List.sum_cons, ih, h, List.length_cons, Nat.add_comm]

namespace RoadEv

/-- A move pays for the hand-over and the one task that follow it. -/
theorem gateTo_cost {e : RoadEv} {i : GateId} {x : Gate} {more rest : List Task} (hl : x.listing = (e.road.gates.get i).listing)
    (hd : x.demand = (e.road.gates.get i).demand)
    (hr : gateRank (e.road.gates.get i).demand x.state < gateRank (e.road.gates.get i).demand (e.road.gates.get i).state)
    (hm : (more.map taskCost).sum ≤ 1) : chainCost (e.gateTo i x more).1 ((e.gateTo i x more).2 ++ rest) ≤ chainCost e rest := by
  have hself : (e.gateTo i x more).1.road.gates.get i = x := (gateTo_get ..).trans (if_pos rfl)
  have hsum := gatesCost_of_one (r := e.road) (r' := (e.gateTo i x more).1.road) i fun g hg => by
    rw [gateTo_get, if_neg hg]
    rfl
  rw [hself] at hsum
  have hdem : (e.gateTo i x more).1.road.demandOf x = e.road.demandOf (e.road.gates.get i) := demandOf_congr hl fun _ => rfl
  have hcost : gateCost (e.gateTo i x more).1.road x + 4 ≤ gateCost e.road (e.road.gates.get i) := by
    unfold gateCost
    rw [hdem, hd] at *
    omega
  rw [chainCost_append]
  show (3 + (more.map taskCost).sum) + ((rest.map taskCost).sum + gatesCost (e.gateTo i x more).1.road + segsCost e.road) ≤ _
  unfold chainCost
  omega

/-- An arrival pays likewise. -/
theorem arrival_cost {e : RoadEv} {i : GateId} {rest : List Task}
    (hs : (e.road.gates.get i).state = .raising ∨ (e.road.gates.get i).state = .lowering) :
    chainCost (e.arrival i).1 ((e.arrival i).2 ++ rest) ≤ chainCost e rest := by
  have hl : (e.road.gates.get i).arrive.listing = (e.road.gates.get i).listing := by
    simpa [gateFrame] using congrArg Gate.listing (arrive_frame (e.road.gates.get i))
  refine gateTo_cost hl (arrive_fields _).1 ?_ (Nat.le_refl _)
  by_cases he : Early (e.road.gates.get i)
  · rw [arrive_early he]
    rcases hs with hs | hs <;> rw [hs] <;> cases (e.road.gates.get i).demand <;> exact Nat.succ_pos _
  · rcases hs with hs | hs
    · rw [arrive_raised he hs, hs]
      cases (e.road.gates.get i).demand
      · exact (by decide : 0 < 1)
      · exact (by decide : 2 < 3)
    · rw [arrive_lowered he hs, hs]
      cases (e.road.gates.get i).demand
      · exact (by decide : 2 < 3)
      · exact (by decide : 0 < 1)

/-- An entry to a state brings about at most eleven tasks. -/
theorem enterSeg_tasks_cost (ctx : RoadCtx) {e : RoadEv} (hl : ListsAgree e.road) (i : SegId) (st : SegState) :
    ((enterSeg ctx e i st).2.map taskCost).sum ≤ 11 := by
  cases hi : e.road.segs.get i with
  | none => simp [enterSeg_get_none ctx st hi]
  | some sg =>
    have hg := (hl.2.1 i sg hi).2.1
    have hn := neighbours_length e i sg.gates
    have hown : ((ownTasks i st).map taskCost).sum ≤ 1 := by cases st <;> simp [ownTasks, taskCost]
    rw [enterSeg_tasks ctx st hi, List.map_append, List.map_append, List.sum_append, List.sum_append,
      sum_map_unit sg.gates Task.demand fun _ => rfl, sum_map_unit _ Task.done fun _ => rfl]
    omega

/-- The end of an opening or of a closing pays for the tasks that it brings about. -/
theorem enterSeg_cost (ctx : RoadCtx) {e : RoadEv} {i : SegId} {st : SegState} {sg : Segment} (rest : List Task)
    (hi : e.road.segs.get i = some sg) (hl : ListsAgree e.road)
    (hr : segRank (some st) < segRank (some sg.state)) (hs : sg.state.shut = true → st.shut = true) :
    chainCost (enterSeg ctx e i st).1 ((enterSeg ctx e i st).2 ++ rest) ≤ chainCost e rest := by
  have hsegs := segsCost_of_one (r := e.road) (r' := (enterSeg ctx e i st).1.road) i fun j hj => by
    rw [enterSeg_segState, if_neg hj]
  rw [enterSeg_segState, if_pos rfl, hi, segState_some hi, Option.map_some] at hsegs
  have hgates : gatesCost (enterSeg ctx e i st).1.road ≤ gatesCost e.road := by
    unfold gatesCost
    rw [enterSeg_gates]
    refine Finset.sum_le_sum fun g _ => ?_
    have := flipRank_mono (r := e.road) (r' := (enterSeg ctx e i st).1.road) (x := e.road.gates.get g) fun j hj => by
      rw [enterSeg_holdsDown ctx j hi]
      split
      · next hij =>
        subst hij
        rw [holdsDown_eq, segState_some hi] at hj
        exact hs hj
      · exact hj
    unfold gateCost
    omega
  have htasks := enterSeg_tasks_cost ctx hl i st
  rw [chainCost_append]
  unfold chainCost
  omega

theorem handSeg_cost (ctx : RoadCtx) (fault : Bool) (i : SegId) {e : RoadEv} (rest : List Task) (hl : ListsAgree e.road) :
    chainCost (handSeg ctx fault i e).1 ((handSeg ctx fault i e).2 ++ rest) ≤ chainCost e rest + 1 := by
  unfold handSeg
  split
  · rw [chainCost_append, Nat.add_comm]
    rfl
  · next hs =>
    split
    · obtain ⟨sg, hi, hst⟩ := get_of_segState hs
      refine (enterSeg_cost ctx rest hi hl ?_ fun _ => rfl).trans (Nat.le_succ _)
      rw [hst]
      decide
    · rw [chainCost_append, Nat.add_comm]
      rfl
  · exact Nat.le_succ _

theorem handAll_cost (ctx : RoadCtx) (fault : Bool) : ∀ (l : List SegId) {e : RoadEv} (rest : List Task), ListsAgree e.road →
    chainCost (handAll ctx fault l e).1 ((handAll ctx fault l e).2 ++ rest) ≤ chainCost e rest + l.length
  | [], _, _, _ => Nat.le_refl _
  | i :: l, e, rest, h => by
    have h1 := handSeg_cost ctx fault i rest h
    have h2 := handAll_cost ctx fault l ((handSeg ctx fault i e).2 ++ rest) ((handSeg_frame ctx fault i e).listsAgree h)
    have hrun : handAll ctx fault (i :: l) e = ((handAll ctx fault l (handSeg ctx fault i e).1).1,
        (handSeg ctx fault i e).2 ++ (handAll ctx fault l (handSeg ctx fault i e).1).2) := rfl
    rw [hrun]
    simp only [chainCost_append, List.map_append, List.sum_append, List.length_cons] at h1 h2 ⊢
    omega

/-- A demand that flips pays for the moves that it brings about. -/
theorem flip_cost {e : RoadEv} {i : GateId} (rest : List Task)
    (hne : e.road.demandOf (e.road.gates.get i) ≠ (e.road.gates.get i).demand) :
    chainCost (e.setGate i fun x => { x with demand := e.road.demandOf (e.road.gates.get i) }) (.apply i :: rest) ≤
      chainCost e rest := by
  let e' := e.setGate i fun x => { x with demand := e.road.demandOf (e.road.gates.get i) }
  let x : Gate := { e.road.gates.get i with demand := e.road.demandOf (e.road.gates.get i) }
  have hself : e'.road.gates.get i = x := (setGate_get ..).trans (if_pos rfl)
  have hsum := gatesCost_of_one (r := e.road) (r' := e'.road) i fun g hg => by
    rw [setGate_get, if_neg hg]
    rfl
  rw [hself] at hsum
  have hcost : gateCost e'.road x + 1 ≤ gateCost e.road (e.road.gates.get i) := by
    show 4 * gateRank (e.road.demandOf (e.road.gates.get i)) (e.road.gates.get i).state +
      13 * flipRank (e.road.demandOf (e.road.gates.get i)) (e.road.demandOf (e.road.gates.get i)) + 1 ≤ _
    unfold gateCost
    revert hne
    cases e.road.demandOf (e.road.gates.get i) <;> cases (e.road.gates.get i).demand <;>
      cases (e.road.gates.get i).state <;> simp [gateRank, flipRank]
  show (1 + (rest.map taskCost).sum) + gatesCost e'.road + segsCost e.road ≤ _
  unfold chainCost
  omega

/-- A segment record that is written but keeps its state changes no cost. -/
theorem setSeg_cost {e : RoadEv} {i : SegId} {f : Segment → Segment} (rest : List Task) (hf : ∀ sg, (f sg).state = sg.state) :
    chainCost (e.setSeg i f) rest = chainCost e rest := by
  have hst : (e.setSeg i f).road.segState = e.road.segState := funext fun j => by
    rw [setSeg_segState]
    split
    · next hij => subst hij; simp [Road.segState, hf]
    · rfl
  have hh : (e.setSeg i f).road.holdsDown = e.road.holdsDown := funext fun j => by
    rw [holdsDown_eq, hst, ← holdsDown_eq]
  unfold chainCost gatesCost segsCost gateCost Road.demandOf
  rw [hst, hh]
  rfl

/-- A gate in a travel can still enter FAULT. -/
theorem gateRank_fault (d : Demand) {st : GateState} {sw : Switch} (h : st.target = some sw) :
    gateRank d .fault < gateRank d st := by
  cases st with
  | raising => cases d <;> decide
  | lowering => cases d <;> decide
  | _ => cases h

/-- UNKNOWN comes before every other state. -/
theorem gateRank_unknown (d : Demand) {st : GateState} (h : st ≠ .unknown) : gateRank d st < gateRank d .unknown := by
  cases st with
  | unknown => exact absurd rfl h
  | _ => cases d <;> decide

/-- Every task of a chain pays for what it brings about, and for itself. -/
theorem doTask_cost (ctx : RoadCtx) (t : Task) (rest : List Task) {e : RoadEv} (hl : ListsAgree e.road) :
    chainCost (doTask ctx t e).1 ((doTask ctx t e).2 ++ rest) < chainCost e (t :: rest) := by
  have hcons : chainCost e (t :: rest) = taskCost t + chainCost e rest := chainCost_append e [t] rest
  have idle : chainCost e rest < chainCost e (t :: rest) := by
    have := taskCost_pos t
    omega
  cases t with
  | demand i =>
    refine lt_of_le_of_lt ?_ idle
    simp only [doTask]
    split
    · exact Nat.le_refl _
    · next hne => exact flip_cost rest hne
  | apply i =>
    refine lt_of_le_of_lt ?_ idle
    simp only [doTask]
    split
    · next hd hs => exact gateTo_cost rfl rfl (by rw [hd, hs]; exact (by decide : 1 < 2)) (Nat.le_refl _)
    · next hd hs => exact gateTo_cost rfl rfl (by rw [hd, hs]; exact (by decide : 1 < 3)) (Nat.le_refl _)
    · next hd hs => exact gateTo_cost rfl rfl (by rw [hd, hs]; exact (by decide : 1 < 2)) (Nat.le_refl _)
    · exact Nat.le_refl _
  | settle i =>
    refine lt_of_le_of_lt ?_ idle
    simp only [doTask]
    split
    · next ht _ => exact gateTo_cost rfl rfl (gateRank_fault _ ht) (Nat.zero_le _)
    · next ht _ => exact arrival_cost (Or.inl (target_raised ht))
    · next ht _ => exact arrival_cost (Or.inr (target_lowered ht))
    · exact Nat.le_refl _
  | resolve i =>
    refine lt_of_le_of_lt ?_ idle
    simp only [doTask]
    split
    · next hs =>
      split
      · exact gateTo_cost rfl rfl (by rw [hs]; exact gateRank_unknown _ nofun) (Nat.le_refl _)
      · exact gateTo_cost rfl rfl (by rw [hs]; exact gateRank_unknown _ nofun) (Nat.le_refl _)
      · exact gateTo_cost rfl rfl (by rw [hs]; exact gateRank_unknown _ nofun) (Nat.zero_le _)
      · refine gateTo_cost rfl rfl ?_ (Nat.le_refl _)
        rw [hs]
        exact gateRank_unknown _ (by cases (e.road.gates.get i).demand <;> nofun)
    · exact Nat.le_refl _
  | handed i fault =>
    have h := handAll_cost ctx fault (e.road.gates.get i).listing rest hl
    have hlen := (hl.1 i).2
    rw [hcons]
    exact lt_of_le_of_lt h (by simp only [taskCost]; omega)
  | complete i =>
    refine lt_of_le_of_lt ?_ idle
    simp only [doTask]
    split
    · next sg hi =>
      split
      · next hc =>
        simp only [Bool.and_eq_true, beq_iff_eq] at hc
        refine (enterSeg_cost ctx (sg := { sg with incomplete := sg.gates.any fun g => (e.road.gates.get g).state == .fault })
          rest (by rw [setSeg_get, if_pos rfl, hi]; rfl) ((setSeg_frame e i _ (by exact fun _ => rfl)).listsAgree hl)
          (by rw [hc.1]; decide) fun _ => rfl).trans (Nat.le_of_eq (setSeg_cost rest fun _ => rfl))
      · exact Nat.le_refl _
    · exact Nat.le_refl _
  | done i =>
    refine lt_of_le_of_lt ?_ idle
    simp only [doTask]
    split
    · next sg hi =>
      split
      · next hc =>
        simp only [Bool.and_eq_true, beq_iff_eq] at hc
        refine enterSeg_cost ctx rest hi hl (by rw [hc.1]; decide) fun h => ?_
        rw [hc.1] at h
        cases h
      · exact Nat.le_refl _
    · exact Nat.le_refl _

/-- On a road whose lists agree the chain is worked off to its end, which is lawful. -/
theorem chain_lawful (ctx : RoadCtx) {e : RoadEv} {tasks : List Task} (h : Settling e tasks)
    (hc : (tasks.map taskCost).sum ≤ 500) : Lawful (chain ctx (e, tasks)).road := by
  have hroad := roadCost_le e.road
  refine settling_nil_iff.1 (run_complete ctx Settling chainCost
    (fun t rest _ h => ⟨h.step ctx, doTask_cost ctx t rest h.lists⟩) 1024 tasks e h ?_)
  unfold chainCost
  omega

end RoadEv

end Sys2Proof.Machine
end

section
/-! What any step of the part can make of the road, of the sites and of the zones: the road steps of its operations, one
relation for each, and the laws that each of them keeps (R29, R31, R32, R90, R91, R100, R102). -/

namespace Sys2Proof.Machine

open RoadEv (enterSeg chain)

-- ---------------------------------------------------------------- the steps of the road

/-- What the demands read of a segment record: its state and its gates (R2, R32). -/
def segShape (sg : Segment) : SegState × List GateId := (sg.state, sg.gates)

/-- A gate record that an event finds otherwise at most in its switches and in the time of its travel timer (R29, R30, R36). -/
def GateStill (x x' : Gate) : Prop :=
  ∃ raised lowered timer, x' = { x with raisedSwitch := raised, loweredSwitch := lowered, timer := timer } ∧
    (timer = x.timer ∨ timer = x.tick.timer)

/-- A road on which no segment enters a state and no gate moves. -/
def RoadStill (r r' : Road) : Prop :=
  (∀ i, (r'.segs.get i).map segShape = (r.segs.get i).map segShape) ∧ ∀ g, GateStill (r.gates.get g) (r'.gates.get g)

/-- The entries of a gate to a state that an event can begin with, and the task behind each: FAULT, an arrival, and UNKNOWN
(R37 to R41, R44). -/
inductive GateEntry (i : GateId) (x : Gate) : Gate → List Task → Prop where
  | fault (c : GateFault) : GateEntry i x (x.fail c) []
  | arrive : GateEntry i x x.arrive [.apply i]
  | clear : GateEntry i x (x.enter .unknown none none none) [.resolve i]

/-- One step of the road: it is still, or a segment or gate enters a state, or an UNKNOWN gate is resolved, and the chain
follows (R42). -/
inductive RoadStep : Road → Road → Prop where
  | still {r r' : Road} (h : RoadStill r r') : RoadStep r r'
  | enter (ctx : RoadCtx) (e : RoadEv) (i : SegId) (st : SegState) : RoadStep e.road (chain ctx (enterSeg ctx e i st)).road
  | gate (ctx : RoadCtx) (e : RoadEv) {i : GateId} {x : Gate} {tasks : List Task}
      (h : GateEntry i (e.road.gates.get i) x tasks) : RoadStep e.road (chain ctx (e.gateTo i x tasks)).road
  | resolve (ctx : RoadCtx) (e : RoadEv) (i : GateId) : RoadStep e.road (chain ctx (e, [.resolve i])).road

/-- The steps of the road within an event, one after the other. -/
abbrev RoadSteps : Road → Road → Prop := Relation.ReflTransGen RoadStep

theorem GateStill.rfl' (x : Gate) : GateStill x x := ⟨_, _, _, rfl, Or.inl rfl⟩

theorem RoadStill.of_shapes {r r' : Road} (hg : r'.gates = r.gates)
    (hs : ∀ i, (r'.segs.get i).map segShape = (r.segs.get i).map segShape) : RoadStill r r' :=
  ⟨hs, fun g => by rw [hg]; exact .rfl' _⟩

theorem RoadSteps.of_eq {r r' : Road} (h : r' = r) : RoadSteps r r' := h ▸ .refl

theorem RoadSteps.still {r r' : Road} (h : RoadStill r r') : RoadSteps r r' := .single (.still h)

-- ---------------------------------------------------------------- the operations of the road

/-- An operation of the road is a sequence of road steps. -/
def StepsRoad (f : RoadEv → RoadEv) : Prop := ∀ e, RoadSteps e.road (f e).road

theorem stepsRoad_foldl {α : Type} {f : RoadEv → α → RoadEv} (hf : ∀ x, StepsRoad fun e => f e x) :
    ∀ l : List α, StepsRoad fun e => l.foldl f e
  | [], _ => .refl
  | x :: l, e => (hf x e).trans (stepsRoad_foldl hf l (f e x))

namespace RoadEv

theorem setSeg_still (e : RoadEv) (i : SegId) {f : Segment → Segment} (hf : ∀ sg, segShape (f sg) = segShape sg) :
    RoadStill e.road (e.setSeg i f).road := by
  refine .of_shapes rfl fun j => ?_
  rw [setSeg_get]
  split
  · next hij => subst hij; cases e.road.segs.get i <;> simp [hf]
  · rfl

theorem writeEntry_steps (e : RoadEv) (i : SegId) (k : HoldKind) (o : Option HoldEntry) :
    RoadSteps e.road (e.writeEntry i k o).road := .still (setSeg_still e i fun _ => rfl)

theorem createEntry_steps (ctx : RoadCtx) (i : SegId) (k : HoldKind) (reason : Option Byte) (sources : List Nat) :
    StepsRoad (createEntry ctx i k reason sources) := by
  intro e
  unfold createEntry
  split
  · exact .refl
  · dsimp only
    split
    · exact (writeEntry_steps e i k _).tail (.enter ctx _ i _)
    · exact writeEntry_steps e i k _

theorem deleteEntry_steps (ctx : RoadCtx) (i : SegId) (k : HoldKind) : StepsRoad (deleteEntry ctx i k) := by
  intro e
  unfold deleteEntry
  split
  · exact .refl
  · split
    · dsimp only
      split
      · exact (writeEntry_steps e i k none).tail (.enter ctx _ i _)
      · exact writeEntry_steps e i k none
    · exact .refl

theorem place_steps (ctx : RoadCtx) (k : HoldKind) (reason : Option Byte) (i : SegId) : StepsRoad (place ctx k reason i) := by
  intro e
  unfold place
  split
  · exact .refl
  · split
    · exact createEntry_steps ctx i k reason [] e
    · split
      · exact .refl
      · exact writeEntry_steps e i k _

theorem addSource_steps (ctx : RoadCtx) (k : HoldKind) (source : Nat) (i : SegId) : StepsRoad (addSource ctx k source i) := by
  intro e
  unfold addSource
  split
  · exact .refl
  · split
    · exact createEntry_steps ctx i k none [source] e
    · split
      · exact .refl
      · exact writeEntry_steps e i k _

theorem removeSource_steps (ctx : RoadCtx) (k : HoldKind) (source : Nat) (i : SegId) :
    StepsRoad (removeSource ctx k source i) := by
  intro e
  unfold removeSource
  split
  · exact .refl
  · split
    · exact .refl
    · split
      · dsimp only
        split
        · exact deleteEntry_steps ctx i k e
        · exact writeEntry_steps e i k _
      · exact .refl

theorem each_steps {f : SegId → RoadEv → RoadEv} (hf : ∀ i, StepsRoad (f i)) (l : List SegId) : StepsRoad (each f l) :=
  stepsRoad_foldl (f := fun e i => f i e) hf l

theorem stall_steps (ctx : RoadCtx) (i : GateId) : StepsRoad (stall ctx i) := fun e => .single (.gate ctx e (.fault .stall))

theorem clearFault_steps (ctx : RoadCtx) (i : GateId) : StepsRoad (clearFault ctx i) := fun e => .single (.gate ctx e .clear)

theorem reopen_steps (ctx : RoadCtx) (i : SegId) : StepsRoad (reopen ctx i) := fun e => .single (.enter ctx e i .opening)

theorem warningExpiry_steps (ctx : RoadCtx) (i : SegId) : StepsRoad (warningExpiry ctx i) := fun e =>
  .single (.enter ctx e i .closing)

theorem resolveAll_steps (ctx : RoadCtx) : StepsRoad (resolveAll ctx) :=
  stepsRoad_foldl (f := fun e i => chain ctx (e, [.resolve i])) (fun i e => .single (.resolve ctx e i)) _

theorem setSwitch_still (i : GateId) (sw : Switch) (level : Bool) (e : RoadEv) :
    RoadStill e.road (e.setGate i (setSwitch sw level)).road := by
  refine ⟨fun _ => rfl, fun g => ?_⟩
  rw [setGate_get]
  split
  · next hg => subst hg; cases sw <;> exact ⟨_, _, _, rfl, Or.inl rfl⟩
  · exact .rfl' _

theorem switchChange_steps (ctx : RoadCtx) (i : GateId) (sw : Switch) (level : Bool) :
    StepsRoad (switchChange ctx i sw level) := by
  intro e
  refine (RoadSteps.still (setSwitch_still i sw level e)).trans ?_
  unfold switchChange
  rcases switchStep_cases i sw level (e.setGate i (setSwitch sw level)) with ⟨h, _⟩ | ⟨c, h, _⟩ | ⟨h, _⟩ <;> rw [h]
  · exact RoadSteps.of_eq (congrArg RoadEv.road (run_nil ctx 1024 _))
  · exact .single (.gate ctx _ (.fault c))
  · exact .single (.gate ctx _ .arrive)

end RoadEv

-- ---------------------------------------------------------------- the laws that the road steps keep

theorem RoadStill.frame_lawful {r r' : Road} (h : RoadStill r r') (hl : Lawful r) : Lawful r' := by
  obtain ⟨hs, hg⟩ := h
  obtain ⟨⟨h1, h2, h3⟩, hd⟩ := hl
  have hgate : ∀ g, (r'.gates.get g).listing = (r.gates.get g).listing ∧ (r'.gates.get g).demand = (r.gates.get g).demand ∧
      (r'.gates.get g).state = (r.gates.get g).state ∧ (r'.gates.get g).raiseDrive = (r.gates.get g).raiseDrive := fun g => by
    obtain ⟨_, _, _, hx, _⟩ := hg g
    rw [hx]
    exact ⟨rfl, rfl, rfl, rfl⟩
  have hst : ∀ i, r'.segState i = r.segState i := fun i => by
    have := congrArg (Option.map Prod.fst) (hs i)
    simpa [Road.segState, segShape, Option.map_map, Function.comp_def] using this
  have hh : ∀ j, r'.holdsDown j = r.holdsDown j := fun j => by rw [RoadEv.holdsDown_eq, hst, ← RoadEv.holdsDown_eq]
  refine ⟨⟨fun g => ?_, fun i sg' hi => ?_, fun g i hi => ?_⟩, fun g => ?_⟩
  · rw [(hgate g).1]
    exact h1 g
  · have hi' := hs i
    rw [hi] at hi'
    obtain ⟨sg, hsg, hsh⟩ := Option.map_eq_some_iff.1 hi'.symm
    have hgates : sg.gates = sg'.gates := congrArg Prod.snd hsh
    rw [← hgates]
    refine ⟨(h2 i sg hsg).1, (h2 i sg hsg).2.1, fun g => ?_⟩
    rw [(hgate g).1]
    exact (h2 i sg hsg).2.2 g
  · rw [(hgate g).1] at hi
    have := congrArg Option.isSome (hs i)
    rw [Option.isSome_map, Option.isSome_map] at this
    exact this.trans (h3 g i hi)
  · obtain ⟨hlist, hdem, hstate, hdrive⟩ := hgate g
    rw [RoadEv.demandOf_congr hlist hh, hdem, hstate, hdrive]
    exact hd g

/-- Every step of the road keeps a road lawful (R31, R32). -/
theorem RoadStep.lawful {r r' : Road} (h : RoadStep r r') (hl : Lawful r) : Lawful r' := by
  cases h with
  | still h => exact h.frame_lawful hl
  | enter ctx e i st =>
    have hset := (settling_nil_iff.2 hl).enter ctx i st
    rw [List.append_nil] at hset
    exact RoadEv.chain_lawful ctx hset ((RoadEv.enterSeg_tasks_cost ctx hl.1 i st).trans (by decide))
  | @gate ctx e i x tasks h =>
    have hset := settling_nil_iff.2 hl
    have hsettles : Settling (e.gateTo i x tasks).1 (e.gateTo i x tasks).2 := by
      rw [← List.append_nil (e.gateTo i x tasks).2]
      cases h with
      | fault c => exact hset.gateTo rfl rfl nofun nofun fun _ ht _ => ht
      | arrive => exact hset.arrive i
      | clear => exact hset.gateTo rfl rfl nofun nofun fun _ ht _ => ht
    refine RoadEv.chain_lawful ctx hsettles ?_
    cases h <;> simp [taskCost]
  | resolve ctx e i =>
    exact RoadEv.chain_lawful ctx ((settling_nil_iff.2 hl).mono nofun) (by simp [taskCost])

theorem RoadSteps.lawful {r r' : Road} (h : RoadSteps r r') (hl : Lawful r) : Lawful r' := by
  induction h with
  | refl => exact hl
  | tail _ hs ih => exact hs.lawful ih

-- ---------------------------------------------------------------- the gate law

/-- A state is entered with the cause, the check and the timer that R29 gives it. -/
theorem gateLaw_enter (x : Gate) {st : GateState} {cause : Option GateFault} {check : Option TravelCheck} {timer : Timer}
    (hcause : cause.isSome = (st == .fault)) (hcheck : check.isSome = st.target.isSome)
    (htimer : timer.isSome = st.target.isSome) (hmax : ∀ ms, timer = some ms → ms ≤ x.tMaxMs) :
    GateLaw (x.enter st cause check timer) := ⟨rfl, rfl, hcause, hcheck, htimer, hmax⟩

theorem gateLaw_travel (x : Gate) (d : Demand) (check : TravelCheck) : GateLaw (x.travel d check) := by
  cases d <;> exact gateLaw_enter x rfl rfl rfl fun ms h => by cases h; exact Nat.zero_le _

theorem gateLaw_fail (x : Gate) (c : GateFault) : GateLaw (x.fail c) := gateLaw_enter x rfl rfl rfl nofun

theorem gateLaw_arrive (x : Gate) : GateLaw x.arrive := by
  unfold Gate.arrive
  dsimp only
  split
  · exact gateLaw_fail x .early
  · split <;> exact gateLaw_enter x rfl rfl rfl nofun

/-- Every step of a chain keeps the gate law (R29, R31). -/
theorem gateLaw_step (x x' : Gate) (h : GateLaw x) (k : GateStep x x') : GateLaw x' := by
  cases k with
  | stay => exact h
  | demand d => exact h
  | lower _ _ => exact gateLaw_travel x _ _
  | reverse _ _ => exact gateLaw_travel x _ _
  | raise _ _ => exact gateLaw_travel x _ _
  | conflict _ _ => exact gateLaw_fail x _
  | arriveRaised _ _ => exact gateLaw_arrive x
  | arriveLowered _ _ => exact gateLaw_arrive x
  | resolve _ _ hx =>
    rcases hx with rfl | rfl | rfl
    · exact gateLaw_enter x rfl rfl rfl nofun
    · exact gateLaw_enter x rfl rfl rfl nofun
    · exact gateLaw_travel x _ _

theorem GateEntry.gateLaw {i : GateId} {x x' : Gate} {tasks : List Task} (h : GateEntry i x x' tasks) : GateLaw x' := by
  cases h with
  | fault c => exact gateLaw_fail x c
  | arrive => exact gateLaw_arrive x
  | clear => exact gateLaw_enter x rfl rfl rfl nofun

theorem GateStill.gateLaw {x x' : Gate} (h : GateStill x x') (hl : GateLaw x) : GateLaw x' := by
  obtain ⟨raised, lowered, timer, rfl, ht⟩ := h
  obtain ⟨hraise, hlower, hcause, hcheck, htimer, hmax⟩ := hl
  rcases ht with rfl | rfl
  · exact ⟨hraise, hlower, hcause, hcheck, htimer, hmax⟩
  · refine ⟨hraise, hlower, hcause, hcheck, ?_, fun ms hms => ?_⟩
    · show (x.timer.map _).isSome = _
      rw [Option.isSome_map]
      exact htimer
    · obtain ⟨_, _, rfl⟩ := Option.map_eq_some_iff.1 hms
      exact Nat.min_le_left _ _

/-- Every step of the road keeps the law of each gate (R29, R31). -/
theorem RoadStep.gateLaw {r r' : Road} (h : RoadStep r r') (hl : ∀ g, GateLaw (r.gates.get g)) (g : GateId) :
    GateLaw (r'.gates.get g) := by
  cases h with
  | still h => exact (h.2 g).gateLaw (hl g)
  | enter ctx e i st =>
    refine RoadEv.run_gate ctx gateLaw_step g _ _ ?_
    rw [RoadEv.enterSeg_gates]
    exact hl g
  | @gate ctx e i x tasks h =>
    refine RoadEv.run_gate ctx gateLaw_step g _ _ ?_
    rw [RoadEv.gateTo_get]
    split
    · exact h.gateLaw
    · exact hl g
  | resolve ctx e i => exact RoadEv.run_gate ctx gateLaw_step g _ _ (hl g)

theorem RoadSteps.gateLaw {r r' : Road} (h : RoadSteps r r') (hl : ∀ g, GateLaw (r.gates.get g)) :
    ∀ g, GateLaw (r'.gates.get g) := by
  induction h with
  | refl => exact hl
  | tail _ hs ih => exact hs.gateLaw ih

end Sys2Proof.Machine
end

section
/-! The tables of a load: a description that passes the checks gives sites, zones, gates and segments within their laws, and so
do the idle tables of an uncommissioned part (R97, R101, R118, R199, R200). -/

namespace Sys2Proof.Machine

-- ---------------------------------------------------------------- what the load checks give

/-- What the laws need of the load checks: the fields in their ranges, and the names of gates (R194, R200). -/
structure Described (st : Store) : Prop where
  fields : ∀ n < 53, FieldsInRange n (st.desc n)
  named : ∀ g i, i ∈ st.listing g → st.defined i = true
  listing : ∀ g, (st.listing g).length ≤ 2
  gates : ∀ i, (st.gatesOf i).length ≤ 2

theorem gateNames_length_le (l : List Byte) : (Store.gateNames l).length ≤ 2 := by
  unfold Store.gateNames
  split <;> simp

theorem idOf_ofNat (i : SegId) : idOf 8 (BitVec.ofNat 8 i.val) = some i := by
  revert i
  decide

theorem described_of_loadOk {st : Store} (h : st.loadOk = true) : Described st := by
  unfold Store.loadOk at h
  simp only [Bool.and_eq_true] at h
  obtain ⟨⟨⟨⟨⟨⟨⟨⟨⟨⟨_, hfields⟩, _⟩, hnames⟩, hgates⟩, _⟩, _⟩, _⟩, _⟩, _⟩, _⟩ := h
  have hgate := fun g => Bool.and_eq_true_iff.1 ((allIds_iff _).1 hnames g)
  refine ⟨fun n hn => (fieldsOk_iff n _).1 (List.all_eq_true.1 hfields n (List.mem_range.2 hn)), fun g i hi => ?_, fun g => ?_,
    fun i => by simpa using (allIds_iff _).1 hgates i⟩
  · have hn : i.val ∈ Store.gateNames (st.gateRec g) := by simpa [Store.listing] using hi
    simpa [idOf_ofNat] using List.all_eq_true.1 (hgate g).1 i.val hn
  · have hlen : (Store.gateNames (st.gateRec g)).length = (st.listing g).length := by simpa using (hgate g).2
    rw [← hlen]
    exact gateNames_length_le _

theorem Described.siteFields {st : Store} (h : Described st) (i : SiteId) : SiteFields (st.siteRec i) := by
  have hf := h.fields (49 + i.val) (by omega)
  unfold FieldsInRange at hf
  repeat rw [if_neg (by omega)] at hf
  exact hf

theorem Described.zoneFields {st : Store} (h : Described st) (z : ZoneId) : ZoneFields (st.zoneRec z) := by
  have hf := h.fields (27 + z.val) (by omega)
  unfold FieldsInRange at hf
  repeat rw [if_neg (by omega)] at hf
  rw [if_pos (by omega)] at hf
  exact hf

-- ---------------------------------------------------------------- the records of a load

theorem judge_judge (z : Zone) : z.judge.judge = z.judge := rfl

theorem siteLaw_fresh {used : Bool} {cfg : SiteConfig} (hlen : 1 ≤ cfg.len) (hfail : cfg.fail ≤ 4) :
    SiteLaw (Site.fresh used cfg) := by
  refine ⟨hlen, hfail, ⟨Nat.le_refl 1, hlen⟩, ⟨Nat.le_refl 1, hlen⟩, ?_, rfl, ?_, ?_, nofun⟩
  · exact (Nat.zero_max _).symm
  · intro x hx
    rw [List.mem_singleton.1 hx]
    exact hfail
  · intro x hx
    rw [List.mem_singleton.1 hx]
    exact Nat.zero_le 2

theorem Described.siteLaw {st : Store} (h : Described st) (i : SiteId) : SiteLaw (st.loadSite i) := by
  obtain ⟨_, _, _, _, _, _, _, _, _, _, _, _, _, ⟨hlen, _⟩, hfail⟩ := h.siteFields i
  exact siteLaw_fresh hlen hfail

theorem Described.zoneLaw {st : Store} (h : Described st) (z : ZoneId) : ZoneLaw (st.loadZone z) := by
  obtain ⟨hloss, _, _, hle⟩ := h.zoneFields z
  exact ⟨judge_judge _, Nat.zero_le _, hloss, hle⟩

theorem gateLaw_loadGate (st : Store) (g : GateId) (old : Gate) : GateLaw (st.loadGate g old) := ⟨rfl, rfl, rfl, rfl, rfl, nofun⟩

/-- A gate whose listing segments are all shut is demanded down (R32). -/
theorem demandOf_lower {r : Road} {x : Gate} (h : ∀ i ∈ x.listing, r.holdsDown i = true) : r.demandOf x = .lower := by
  unfold Road.demandOf
  split
  · rfl
  · next hne =>
    obtain ⟨i, hi⟩ := List.exists_mem_of_ne_nil _ fun h0 => hne (List.isEmpty_iff.2 h0)
    rw [if_pos (List.any_eq_true.2 ⟨i, hi, h i hi⟩)]

/-- On the road of a load every segment is CLOSED and every gate waits under the demand LOWER (R1, R46, R47). -/
theorem Described.lawful {st : Store} (h : Described st) (gates : Vector Gate 6) :
    Lawful { segs := Vector.ofFn st.loadSeg, gates := mapIds st.loadGate gates } := by
  have hgate : ∀ g, (mapIds st.loadGate gates).get g = st.loadGate g (gates.get g) := fun g => get_mapIds _ _ g
  have hseg : ∀ i, (Vector.ofFn st.loadSeg).get i = st.loadSeg i := fun i => get_ofFn _ i
  refine ⟨⟨fun g => ?_, fun i sg hi => ?_, fun g i hi => ?_⟩, fun g => ?_⟩
  · rw [hgate]
    exact ⟨nodup_idsWhere _, h.listing g⟩
  · rw [hseg] at hi
    have hg : sg.gates = st.gatesOf i := by
      unfold Store.loadSeg at hi
      split at hi
      · cases hi
        rfl
      · cases hi
    rw [hg]
    refine ⟨nodup_idsWhere _, h.gates i, fun g => ?_⟩
    rw [hgate]
    show g ∈ idsWhere (fun g => (st.listing g).contains i) ↔ i ∈ st.listing g
    rw [mem_idsWhere, List.contains_iff_mem]
  · rw [hgate] at hi
    show ((Vector.ofFn st.loadSeg).get i).isSome = true
    rw [hseg]
    unfold Store.loadSeg
    rw [if_pos (h.named g i hi)]
    rfl
  · rw [hgate]
    refine ⟨?_, nofun, nofun⟩
    refine (demandOf_lower fun i hi => ?_).symm
    have hst : Road.segState { segs := Vector.ofFn st.loadSeg, gates := mapIds st.loadGate gates } i = some .closed := by
      unfold Road.segState
      rw [hseg]
      unfold Store.loadSeg
      rw [if_pos (h.named g i hi)]
      rfl
    rw [RoadEv.holdsDown_eq, hst]
    rfl

-- ---------------------------------------------------------------- loaded states

/-- The tables are those of a load: of a description that passes, or idle (R199, R200). -/
def Loaded (t : State) : Prop := ∃ s : State, (s.store.loadOk = true ∧ t = s.loadTables) ∨ t = s.unloadTables

theorem loaded_loadAtReset (s : State) : Loaded s.loadAtReset := by
  unfold State.loadAtReset
  split
  · next h => exact ⟨s, Or.inl ⟨h, rfl⟩⟩
  · exact ⟨s, Or.inr rfl⟩

/-- A gate of an uncommissioned part (R46, R200). -/
theorem unloadTables_gate (s : State) (g : GateId) : s.unloadTables.road.gates.get g =
    { State.idleGate with raisedSwitch := (s.road.gates.get g).raisedSwitch
                          loweredSwitch := (s.road.gates.get g).loweredSwitch } := get_mapIds _ _ g

theorem unloadTables_segment (s : State) (i : SegId) : s.unloadTables.road.segs.get i = none := get_replicate _ i

theorem Loaded.recordLaws {t : State} (h : Loaded t) : RecordLaws t := by
  obtain ⟨s, ⟨hok, rfl⟩ | rfl⟩ := h
  · have hd := described_of_loadOk hok
    refine ⟨fun i => ?_, fun z => ?_, fun g => ?_⟩
    · show SiteLaw ((Vector.ofFn s.store.loadSite).get i)
      rw [get_ofFn]
      exact hd.siteLaw i
    · show ZoneLaw ((Vector.ofFn s.store.loadZone).get z)
      rw [get_ofFn]
      exact hd.zoneLaw z
    · show GateLaw ((mapIds s.store.loadGate s.road.gates).get g)
      rw [get_mapIds]
      exact gateLaw_loadGate _ _ _
  · obtain ⟨hsites, hzones, _⟩ := reset_recordLaws
    refine ⟨hsites, hzones, fun g => ?_⟩
    rw [unloadTables_gate]
    exact ⟨rfl, rfl, rfl, rfl, rfl, nofun⟩

theorem Loaded.lawful {t : State} (h : Loaded t) : Lawful t.road := by
  obtain ⟨s, ⟨hok, rfl⟩ | rfl⟩ := h
  · exact (described_of_loadOk hok).lawful s.road.gates
  · refine ⟨⟨fun g => ?_, fun i sg hi => ?_, fun g i hi => ?_⟩, fun g => ?_⟩
    · rw [unloadTables_gate]
      exact ⟨List.nodup_nil, Nat.zero_le 2⟩
    · rw [unloadTables_segment] at hi
      cases hi
    · rw [unloadTables_gate] at hi
      cases hi
    · rw [unloadTables_gate]
      exact ⟨rfl, nofun, nofun⟩

end Sys2Proof.Machine
end

section
/-! What a command can make of the part: the road takes road steps, a site takes results, closes periods or restarts, a zone is
set or lost, or the tables are loaded. Every command is a sequence of such changes. -/

namespace Sys2Proof.Machine

open RoadEv (enterSeg chain)

-- ---------------------------------------------------------------- one change

/-- What an event can make of a site record (R82, R92, R99). -/
inductive SiteChange (x : Site) : Site → Prop where
  | stay : SiteChange x x
  | deliver (kind : ChanKind) (g c : Nat) : SiteChange x (x.deliver kind g c)
  | compute (surface : Nat) (air : Option Nat) : SiteChange x (x.compute surface air)
  | nextPeriod : SiteChange x x.nextPeriod
  | restart : SiteChange x x.restart

/-- What an event can make of a zone record (R103, R104). -/
inductive ZoneChange (x : Zone) : Zone → Prop where
  | stay : ZoneChange x x
  | lose : ZoneChange x x.lose
  | setTo (level : Nat) : ZoneChange x (x.setTo level)

/-- One change of the road, the sites and the zones: steps of their records, or a load. -/
inductive Change (s t : State) : Prop where
  | records (hroad : RoadSteps s.road t.road) (hsites : ∀ i, SiteChange (s.sites.get i) (t.sites.get i))
      (hzones : ∀ z, ZoneChange (s.zoneUnit.zones.get z) (t.zoneUnit.zones.get z))
  | load (h : Loaded t)

/-- The changes of an event, one after the other. -/
abbrev Changes : State → State → Prop := Relation.ReflTransGen Change

namespace Changes

variable {u s t : State}

theorem road (h : Changes u s) (hr : RoadSteps s.road t.road) (hs : t.sites = s.sites)
    (hz : t.zoneUnit.zones = s.zoneUnit.zones) : Changes u t :=
  h.tail (.records hr (fun _ => hs ▸ .stay) fun _ => hz ▸ .stay)

theorem sites (h : Changes u s) (hs : ∀ i, SiteChange (s.sites.get i) (t.sites.get i)) (hr : t.road = s.road)
    (hz : t.zoneUnit.zones = s.zoneUnit.zones) : Changes u t :=
  h.tail (.records (.of_eq hr) hs fun _ => hz ▸ .stay)

theorem zones (h : Changes u s) (hz : ∀ z, ZoneChange (s.zoneUnit.zones.get z) (t.zoneUnit.zones.get z)) (hr : t.road = s.road)
    (hs : t.sites = s.sites) : Changes u t :=
  h.tail (.records (.of_eq hr) (fun _ => hs ▸ .stay) hz)

/-- What else changes is beside the laws. -/
theorem aside (h : Changes u s) (hr : t.road = s.road) (hs : t.sites = s.sites) (hz : t.zoneUnit.zones = s.zoneUnit.zones) :
    Changes u t := h.road (.of_eq hr) hs hz

theorem load (ht : Loaded t) : Changes u t := .single (.load ht)

/-- Only the links, the board and warning timers change. -/
theorem sameRoad (h : Changes u s) (hk : KeepsBut [.links, .road, .board] s t) (hr : SameRoad s t) : Changes u t := by
  refine h.road (.still (.of_shapes hr.1 fun i => ?_)) (hk .sites (by simp)) (congrArg ZoneUnit.zones (hk .zoneUnit (by simp)))
  have hshape : ∀ o : Option Segment, o.map segShape = (o.map Segment.timeless).map segShape := fun o => by cases o <;> rfl
  rw [hshape, hr.2 i, ← hshape]

end Changes

-- ---------------------------------------------------------------- the operations of an event

/-- An operation of an event is a sequence of changes. -/
def StepsState (f : Ev → Ev) : Prop := ∀ (u : State) (e : Ev), Changes u e.st → Changes u (f e).st

theorem stepsState_foldl {α : Type} {f : Ev → α → Ev} (hf : ∀ x, StepsState fun e => f e x) :
    ∀ l : List α, StepsState fun e => l.foldl f e
  | [], _, _, h => h
  | x :: l, u, e, h => stepsState_foldl hf l u (f e x) (hf x u e h)

theorem finish_changes {u : State} {e : Ev} (h : Changes u e.st) : Changes u e.finish :=
  let ⟨hk, hr, _⟩ := finish_spec e
  h.sameRoad hk hr

theorem event_changes {u s : State} {f : Ev → Ev} (hf : StepsState f) (h : Changes u s) : Changes u (s.event f) :=
  finish_changes (hf u (Ev.start s) h)

theorem lineStep_changes (f : BoardEv → BoardEv) {u s : State} (h : Changes u s) : Changes u (s.lineStep f) :=
  let ⟨hk, hr, _⟩ := lineStep_spec f s
  h.sameRoad hk hr

/-- An operation of the road within an event. -/
theorem onRoad_steps {f : RoadCtx → RoadEv → RoadEv} (hf : ∀ ctx, StepsRoad (f ctx)) : StepsState fun e => e.onRoad f :=
  fun _ e h => h.road (hf e.st.roadCtx { road := e.st.road, flags := 0, touched := Vector.replicate 8 false }) rfl rfl

theorem place_changes (k : HoldKind) (reason : Option Byte) (l : List SegId) : StepsState (Ev.place k reason l) :=
  onRoad_steps fun ctx => RoadEv.each_steps (fun i => RoadEv.place_steps ctx k reason i) l

theorem remove_changes (k : HoldKind) (l : List SegId) : StepsState (Ev.remove k l) :=
  onRoad_steps fun ctx => RoadEv.each_steps (fun i => RoadEv.deleteEntry_steps ctx i k) l

theorem addSource_changes (k : HoldKind) (source : Nat) (l : List SegId) : StepsState (Ev.addSource k source l) :=
  onRoad_steps fun ctx => RoadEv.each_steps (fun i => RoadEv.addSource_steps ctx k source i) l

theorem removeSource_changes (k : HoldKind) (source : Nat) (l : List SegId) : StepsState (Ev.removeSource k source l) :=
  onRoad_steps fun ctx => RoadEv.each_steps (fun i => RoadEv.removeSource_steps ctx k source i) l

-- ---------------------------------------------------------------- hearing a frame (R25, R178)

theorem judgeRelease_changes : StepsState Ev.judgeRelease := by
  intro u e h
  unfold Ev.judgeRelease
  split
  · exact remove_changes .startup e.segs u e h
  · exact h

theorem setMark_changes (l : Link) : StepsState (Ev.setMark l) := by
  intro u e h
  unfold Ev.setMark
  split
  · split
    · exact h
    · exact judgeRelease_changes u _ (h.aside rfl rfl rfl)
  · split
    · exact h
    · exact judgeRelease_changes u _ (h.aside rfl rfl rfl)
  · exact h

theorem heard_changes (l : Link) : StepsState (Ev.heard l) := by
  intro u e h
  unfold Ev.heard
  refine setMark_changes l u _ ?_
  split <;> exact h.aside rfl rfl rfl

-- ---------------------------------------------------------------- zones and detectors (chapter 6)

theorem onZone_changes (z : ZoneId) {f : Zone → Zone} (hf : ∀ x, ZoneChange x (f x)) : StepsState (Ev.onZone z f) := by
  intro u e h
  have hput : ∀ t : State, t.road = e.st.road → t.sites = e.st.sites →
      t.zoneUnit.zones = put e.st.zoneUnit.zones z (f (e.st.zoneUnit.zones.get z)) → Changes u t := by
    intro t hr hs hz
    refine h.zones (fun y => ?_) hr hs
    rw [hz, get_put]
    split
    · next hy => subst hy; exact hf _
    · exact .stay
  unfold Ev.onZone
  dsimp only
  split
  · refine addSource_changes _ _ _ u _ ?_
    split <;> exact hput _ rfl rfl rfl
  · refine removeSource_changes _ _ _ u _ ?_
    split <;> exact hput _ rfl rfl rfl
  · split <;> exact hput _ rfl rfl rfl

theorem onQual_changes (c : ChanId) (f : Qualification → Qualification) : StepsState (Ev.onQual c f) := by
  intro u e h
  unfold Ev.onQual
  split
  · exact h
  · dsimp only
    split
    · exact addSource_changes _ _ _ u _ (h.aside rfl rfl rfl)
    · exact removeSource_changes _ _ _ u _ (h.aside rfl rfl rfl)
    · exact h.aside rfl rfl rfl

theorem silence_changes (l : Link) : StepsState (Ev.silence l) := by
  intro u e h
  have start : Changes u (if (e.st.links.get l).active then
      (e.on (State.onLink l LinkRecord.silence)).attend Attn.link
      else e.on (State.onLink l LinkRecord.silence)).st := by
    split <;> exact h.aside rfl rfl rfl
  unfold Ev.silence
  dsimp only
  cases l with
  | avalanche => exact stepsState_foldl (fun z => onZone_changes z fun _ => .lose) _ u _ start
  | valley => exact start
  | panel => exact start

-- ---------------------------------------------------------------- sites and notices (chapters 5 and 7)

theorem alterSite_changes (i : SiteId) {f : Site → Site} (hf : ∀ x, SiteChange x (f x)) :
    StepsState fun e => e.on fun s => { s with sites := alter s.sites i f } := by
  intro u e h
  refine h.sites (fun j => ?_) rfl rfl
  show SiteChange _ ((alter e.st.sites i f).get j)
  rw [get_alter]
  split
  · next hij => subst hij; exact hf _
  · exact .stay

theorem endGate_changes (c : ChanId) : StepsState (Ev.endGate c) := by
  intro u e h
  unfold Ev.endGate
  dsimp only
  split
  · next i _ => exact alterSite_changes i (fun x => .deliver ..) u _ (h.aside rfl rfl rfl)
  · exact onQual_changes c _ u _ (h.aside rfl rfl rfl)
  · exact h.aside rfl rfl rfl

theorem deliverSite_changes (i : SiteId) : StepsState (Ev.deliverSite i) := fun u e h =>
  stepsState_foldl endGate_changes (e.st.field.delivery i) u e h

theorem alignWeather_changes (t : Site) (i : SegId) : StepsState (Ev.alignWeather t i) := by
  intro u e h
  unfold Ev.alignWeather
  split
  · exact h
  · dsimp only
    refine stepsState_foldl (fun c => ?_) _ u _ (stepsState_foldl (fun c => ?_) _ u e h)
    · intro u e h
      dsimp only
      split
      · exact h
      · exact removeSource_changes _ _ _ u e h
    · intro u e h
      dsimp only
      split
      · exact addSource_changes _ _ _ u e h
      · exact h

theorem writeRestriction_changes (x : Restriction) (j : SegId) : StepsState fun e => e.on fun s =>
    { s with road := { s.road with segs := alter s.road.segs j fun o => o.map fun sg => { sg with restriction := x } } } :=
  fun _ e h => h.road (.still (RoadEv.setSeg_still { road := e.st.road, flags := 0, touched := Vector.replicate 8 false } j
    (f := fun sg => { sg with restriction := x }) fun _ => rfl)) rfl rfl

theorem closePeriod_changes (i : SiteId) : StepsState (Ev.closePeriod i) := by
  intro u e h
  unfold Ev.closePeriod
  dsimp only
  refine alterSite_changes i (fun _ => .nextPeriod) u _ (Changes.aside (s := Ev.st (List.foldl _ _ _)) ?_ rfl rfl rfl)
  refine stepsState_foldl (fun j => alignWeather_changes _ j) _ u _ ?_
  refine stepsState_foldl (fun j => writeRestriction_changes _ j) _ u _ ?_
  refine h.sites (fun j => ?_) rfl rfl
  show SiteChange _ ((put e.st.sites i _).get j)
  rw [get_put]
  split
  · next hij => subst hij; exact .compute ..
  · exact .stay

theorem siteGateEnd_changes (i : SiteId) : StepsState (Ev.siteGateEnd i) := by
  intro u e h
  unfold Ev.siteGateEnd
  split
  · exact closePeriod_changes i u _ (deliverSite_changes i u e h)
  · exact deliverSite_changes i u e h

theorem sitePeriodEnd_changes (i : SiteId) : StepsState (Ev.sitePeriodEnd i) := by
  intro u e h
  unfold Ev.sitePeriodEnd
  split
  · exact closePeriod_changes i u _ (deliverSite_changes i u e h)
  · exact closePeriod_changes i u e h

theorem measurementGateEnd_changes (c : ChanId) : StepsState (Ev.measurementGateEnd c) := by
  intro u e h
  unfold Ev.measurementGateEnd
  split
  · exact siteGateEnd_changes _ u e h
  · exact endGate_changes c u e h

theorem evaluate_changes : StepsState Ev.evaluate := by
  intro u e h
  unfold Ev.evaluate
  dsimp only
  refine Changes.aside (s := Ev.st (List.foldl _ _ _)) ?_ rfl rfl rfl
  refine stepsState_foldl (f := fun e (n : Notice) => Ev.noticeChange n.segs e)
    (fun n u e h => h.aside rfl rfl rfl) _ u _ ?_
  refine stepsState_foldl (fun n => removeSource_changes _ _ _) _ u _ ?_
  exact stepsState_foldl (fun n => addSource_changes _ _ _) _ u _ h

theorem evaluateIfValid_changes : StepsState Ev.evaluateIfValid := by
  intro u e h
  unfold Ev.evaluateIfValid
  split
  · exact evaluate_changes u e h
  · exact h

theorem alignNotice_changes (old new : Notice) : StepsState (Ev.alignNotice old new) := by
  intro u e h
  unfold Ev.alignNotice
  split
  · exact removeSource_changes _ _ _ u _ (addSource_changes _ _ _ u e h)
  · exact h

-- ---------------------------------------------------------------- the latch (R50 to R54)

theorem setLatch_changes (f : Latch → Latch) : StepsState (Ev.setLatch f) := by
  intro u e h
  unfold Ev.setLatch
  dsimp only
  split <;> exact h.aside rfl rfl rfl

theorem fullClose_changes : StepsState Ev.fullClose := by
  intro u e h
  unfold Ev.fullClose
  split
  · exact (place_changes _ _ _ u _ (setLatch_changes _ u e h)).aside rfl rfl rfl
  · exact setLatch_changes _ u e h
  · exact h

theorem releaseFull_changes : StepsState Ev.releaseFull := fun u e h =>
  (remove_changes _ _ u _ (setLatch_changes _ u e h)).aside rfl rfl rfl

-- ---------------------------------------------------------------- loads (R27, R28, R199, R200)

/-- The hold entries that a load places leave the states of the segments (R27, R28). -/
theorem placeStart_changes (since : Option Nat) {u s : State} (h : Changes u s) : Changes u (s.placeStart since) := by
  refine h.road (.still (.of_shapes rfl fun i => ?_)) rfl rfl
  have hget : (s.placeStart since).road.segs.get i =
      (s.road.segs.get i).map fun sg => { sg with holds := s.startHolds since sg } := get_mapIds _ _ i
  rw [hget]
  cases s.road.segs.get i <;> rfl

theorem afterLoad_changes : StepsState Ev.afterLoad := by
  intro u e h
  unfold Ev.afterLoad
  split
  · rw [raiseAll_st]
    exact onRoad_steps (f := fun ctx r => RoadEv.resolveAll ctx { r with flags := r.flags ||| Attn.segment })
      (fun ctx r => RoadEv.resolveAll_steps ctx { r with flags := r.flags ||| Attn.segment }) u e h
  · exact h

theorem commit_changes {u : State} {e : Ev} (hok : e.st.store.loadOk = true) : Changes u e.commit.st := by
  unfold Ev.commit
  refine afterLoad_changes u _ ?_
  exact (placeStart_changes e.st.since (.load ⟨e.st, Or.inl ⟨hok, rfl⟩⟩)).aside rfl rfl rfl

theorem afterReset_changes (u : State) (levels : Levels) (s : State) : Changes u (afterReset levels s) :=
  event_changes afterLoad_changes (placeStart_changes none (.load (loaded_loadAtReset _)))

-- ---------------------------------------------------------------- time, samples and the field restart

/-- Time is no step of the road: timers run, the travel timer up to T_max (R29, R36). -/
theorem tick_changes {u s : State} (h : Changes u s) : Changes u s.tick := by
  refine h.road (.still ⟨fun i => ?_, fun g => ?_⟩) rfl rfl
  · have hget : s.tick.road.segs.get i = (s.road.segs.get i).map Segment.tick := get_mapIds _ _ i
    rw [hget]
    cases s.road.segs.get i <;> rfl
  · have hget : s.tick.road.gates.get g = (s.road.gates.get g).tick := get_mapIds _ _ g
    rw [hget]
    exact ⟨_, _, _, rfl, Or.inr rfl⟩

theorem sampleSwitch_changes (g : GateId) (sw : Switch) (level : Bool) : StepsState (Ev.sampleSwitch g sw level) := by
  intro u e h
  unfold Ev.sampleSwitch
  dsimp only
  split
  · exact onRoad_steps (fun ctx => RoadEv.switchChange_steps ctx g sw level) u e h
  · refine h.road (.still ⟨fun _ => rfl, fun j => ?_⟩) rfl rfl
    show GateStill _ ((alter e.st.road.gates g _).get j)
    rw [get_alter]
    split
    · next hij => subst hij; cases sw <;> exact ⟨_, _, _, rfl, Or.inl rfl⟩
    · exact .rfl' _

theorem samplePin_changes (pin : KeyPin) (level : Bool) : StepsState (Ev.samplePin pin level) := by
  intro u e h
  unfold Ev.samplePin
  dsimp only
  split <;> exact h.aside rfl rfl rfl

theorem samplePulse_changes (c : ChanId) (level : Bool) : StepsState (Ev.samplePulse c level) := by
  intro u e h
  unfold Ev.samplePulse
  dsimp only
  refine h.aside ?_ ?_ ?_ <;> repeat' split
  all_goals rfl

theorem sampleGate_changes (levels : Levels) (g : GateId) : StepsState fun e =>
    (e.sampleSwitch g .raised (levels.raised.get g)).sampleSwitch g .lowered (levels.lowered.get g) := fun u e h =>
  sampleSwitch_changes g .lowered _ u _ (sampleSwitch_changes g .raised _ u e h)

theorem sampleAll_changes (levels : Levels) : StepsState (Ev.sampleAll levels) := by
  intro u e h
  unfold Ev.sampleAll
  dsimp only
  refine stepsState_foldl (f := fun e c => e.samplePulse c (levels.pulse.get c)) (fun c => samplePulse_changes c _) _ u _ ?_
  refine samplePin_changes .b _ u _ (samplePin_changes .a _ u _ ?_)
  exact stepsState_foldl
    (f := fun e g => (e.sampleSwitch g .raised (levels.raised.get g)).sampleSwitch g .lowered (levels.lowered.get g))
    (sampleGate_changes levels) (List.finRange 6) u e h

theorem loseCarrier_changes (c : ChanId) : StepsState (Ev.loseCarrier c) := fun u _ h =>
  onQual_changes c _ u _ (h.aside rfl rfl rfl)

theorem restartQuals_changes : StepsState Ev.restartQuals :=
  stepsState_foldl (f := fun e c => e.onQual c Qualification.restart) (fun c => onQual_changes c _) _

theorem restartFields_changes : StepsState Ev.restartFields := by
  intro u e h
  refine h.sites (fun i => ?_) rfl rfl
  have hget : e.restartFields.st.sites.get i =
      if (e.st.sites.get i).inUse then (e.st.sites.get i).restart else e.st.sites.get i := get_mapIds _ _ i
  rw [hget]
  split
  · exact .restart
  · exact .stay

theorem boardRestart_changes : StepsState fun e => (e.on fun s => { s with board := s.board.restart }).thenArbitrate :=
  fun _ _ h => h.aside rfl rfl rfl

theorem fieldRestart_changes : StepsState Ev.fieldRestart := fun u e h =>
  boardRestart_changes u e.restartFields.restartQuals (restartQuals_changes u e.restartFields (restartFields_changes u e h))

end Sys2Proof.Machine
end

section
/-! Every request, however it is judged, and every command is a sequence of changes; so every step keeps what each change keeps:
the laws of single records, and the lists and demands of the road with the raising law (R29, R31, R32, R90, R91, R100, R102). -/

namespace Sys2Proof.Machine

-- ---------------------------------------------------------------- judging a request

/-- The effects of an accepted request are changes; a refusal has none. -/
def Verdict.Follows (u : State) : Verdict → Prop
  | .refuse _ => True
  | .accept e _ => Changes u e.st

section
variable {u : State}

theorem deny_follows (r : Result) : (Verdict.deny r).Follows u := trivial

theorem check_follows {l : List (Option Result)} {v : Unit → Verdict} (h : firstFailure l = none → (v ()).Follows u) :
    (Verdict.check l v).Follows u := by
  unfold Verdict.check
  split
  · trivial
  · next hn => exact h hn

/-- An acceptance behind checks. -/
theorem accept_follows {l : List (Option Result)} {e : Ev} {reply : State → List Byte} (h : Changes u e.st) :
    (Verdict.check l fun _ => .accept e reply).Follows u := check_follows fun _ => h

theorem fitting_follows {b : Bool} {v : Unit → Verdict} (h : (v ()).Follows u) : (Verdict.fitting b v).Follows u := by
  unfold Verdict.fitting
  split
  · exact h
  · trivial

theorem judgeHoldPlace_follows (l : Link) (reason : Option Byte) (segs : List Byte) {e : Ev} (h : Changes u e.st) :
    (judgeHoldPlace l reason segs e).Follows u := by
  refine fitting_follows (check_follows fun _ => ?_)
  split
  · exact deny_follows _
  · exact place_changes _ _ _ u e h

theorem judgeHoldRelease_follows (l : Link) (kind : HoldKind) (segs : List Byte) {e : Ev} (h : Changes u e.st) :
    (judgeHoldRelease l kind segs e).Follows u := by
  refine fitting_follows (check_follows fun _ => ?_)
  split
  · exact deny_follows _
  · exact remove_changes _ _ u e h

theorem reopenOne_changes (acc : Ev × List Result) (i : SegId) (h : Changes u acc.1.st) :
    Changes u (reopenOne acc i).1.st := by
  unfold reopenOne
  dsimp only
  split
  · exact onRoad_steps (f := fun ctx => RoadEv.reopen ctx i) (fun ctx => RoadEv.reopen_steps ctx i) u _ h
  · exact h

theorem reopenAll_changes : ∀ (l : List SegId) (acc : Ev × List Result), Changes u acc.1.st →
    Changes u (l.foldl reopenOne acc).1.st
  | [], _, h => h
  | i :: l, acc, h => reopenAll_changes l _ (reopenOne_changes acc i h)

theorem judgeReopen_follows (l : Link) (segs : List Byte) {e : Ev} (h : Changes u e.st) :
    (judgeReopen l segs e).Follows u := by
  refine fitting_follows (check_follows fun _ => ?_)
  split
  · exact deny_follows _
  · exact reopenAll_changes _ (e, []) h

theorem judgeNoticeCreate_follows (l : Link) (kind : Byte) (body : NoticeBody) {e : Ev} (h : Changes u e.st) :
    (judgeNoticeCreate l kind body e).Follows u := by
  refine fitting_follows (check_follows fun _ => ?_)
  split
  · exact deny_follows _
  · dsimp only
    split
    · exact deny_follows _
    · split
      · exact deny_follows _
      · exact evaluateIfValid_changes u _ (h.aside rfl rfl rfl)

theorem judgeNoticeAmend_follows (l : Link) (id revision : Byte) (body : NoticeBody) {e : Ev} (h : Changes u e.st) :
    (judgeNoticeAmend l id revision body e).Follows u := by
  refine fitting_follows ?_
  dsimp only
  split
  · trivial
  · split
    · trivial
    · split
      · trivial
      · split
        · trivial
        · split
          · trivial
          · split
            · trivial
            · exact evaluateIfValid_changes u _ (alignNotice_changes _ _ u _ (h.aside rfl rfl rfl))

theorem judgeNoticeWithdraw_follows (l : Link) (id : Byte) {e : Ev} (h : Changes u e.st) :
    (judgeNoticeWithdraw l id e).Follows u := by
  refine check_follows fun _ => ?_
  split
  · exact deny_follows _
  · split
    · exact deny_follows _
    · exact h.aside rfl rfl rfl

theorem judgeNoticeLift_follows (l : Link) (id : Byte) {e : Ev} (h : Changes u e.st) :
    (judgeNoticeLift l id e).Follows u := by
  refine check_follows fun _ => ?_
  split
  · exact deny_follows _
  · split
    · exact deny_follows _
    · split
      · exact deny_follows _
      · exact (removeSource_changes _ _ _ u (e.setNotices _) (h.aside rfl rfl rfl)).aside rfl rfl rfl

theorem judgeSignOverride_follows (l : Link) (sign : Byte) (o : Option OverrideBody) {e : Ev} (h : Changes u e.st) :
    (judgeSignOverride l sign o e).Follows u := by
  refine check_follows fun _ => ?_
  split
  · exact deny_follows _
  · split
    · exact deny_follows _
    · exact h.aside rfl rfl rfl

theorem judgeZoneLevel_follows (l : Link) (zone level : Byte) {e : Ev} (h : Changes u e.st) :
    (judgeZoneLevel l zone level e).Follows u := by
  refine check_follows fun _ => ?_
  split
  · exact deny_follows _
  · exact judgeRelease_changes u _ (onZone_changes _ (fun _ => .setTo _) u e h)

theorem judgeDetectorClear_follows (l : Link) (channel : Byte) {e : Ev} (h : Changes u e.st) :
    (judgeDetectorClear l channel e).Follows u := by
  unfold judgeDetectorClear
  dsimp only
  split
  · trivial
  · split
    · trivial
    · split
      · trivial
      · split
        · trivial
        · exact onQual_changes _ _ u e h

theorem judgeTestTrip_follows (l : Link) (channel : Byte) {e : Ev} (h : Changes u e.st) :
    (judgeTestTrip l channel e).Follows u := by
  refine check_follows fun _ => ?_
  split
  · exact deny_follows _
  · split
    · exact onQual_changes _ _ u e h
    · exact deny_follows _

theorem judgeGateFaultClear_follows (l : Link) (gate : Byte) {e : Ev} (h : Changes u e.st) :
    (judgeGateFaultClear l gate e).Follows u := by
  refine check_follows fun _ => ?_
  split
  · exact deny_follows _
  · split
    · exact onRoad_steps (fun ctx => RoadEv.clearFault_steps ctx _) u e h
    · exact deny_follows _

theorem judgeReleasePropose_follows (l : Link) {e : Ev} (h : Changes u e.st) : (judgeReleasePropose l e).Follows u := by
  cases l with
  | panel => exact deny_follows _
  | valley => exact accept_follows (setLatch_changes _ u e h)
  | avalanche => exact accept_follows (setLatch_changes _ u e h)

/-- A COMMIT that is taken has found the description in order (R199). -/
theorem judgeCommit_follows (l : Link) {e : Ev} : (judgeCommit l e).Follows u :=
  check_follows fun hc => commit_changes (need_eq_none (r := .state) ((firstFailure_none_iff _).1 hc _ (by simp)))

theorem judgeStoreWrite_follows (l : Link) (region number : Byte) (bytes : List Byte) {e : Ev} (h : Changes u e.st) :
    (judgeStoreWrite l region number bytes e).Follows u := by
  unfold judgeStoreWrite
  refine fitting_follows (check_follows fun _ => ?_)
  split
  · exact deny_follows _
  · refine check_follows fun _ => ?_
    exact h.aside rfl rfl rfl

theorem judgeStoreRead_follows (region number : Byte) {e : Ev} (h : Changes u e.st) :
    (judgeStoreRead region number e).Follows u := by
  unfold judgeStoreRead
  split
  · exact deny_follows _
  · exact h

theorem judgeProtectSet_follows (l : Link) (region : Byte) {e : Ev} (h : Changes u e.st) :
    (judgeProtectSet l region e).Follows u := by
  refine check_follows fun _ => ?_
  split
  · exact h
  · split
    · exact deny_follows _
    · exact h.aside rfl rfl rfl

/-- Every request, however it is judged, is a sequence of changes. -/
theorem judgeOf_follows (c : Instr) {e : Ev} (h : Changes u e.st) : (judgeOf c e).Follows u := by
  cases c with
  | status l => exact h.aside rfl rfl rfl
  | query l object id part => exact h
  | holdPlace l reason segs => exact judgeHoldPlace_follows l reason segs h
  | holdRelease l kind segs => exact judgeHoldRelease_follows l kind segs h
  | startupRelease l => exact accept_follows (remove_changes _ _ u e h)
  | reopen l segs => exact judgeReopen_follows l segs h
  | timeSet l value => exact accept_follows (evaluate_changes u _ (h.aside rfl rfl rfl))
  | noticeCreate l kind body => exact judgeNoticeCreate_follows l kind body h
  | noticeAmend l id revision body => exact judgeNoticeAmend_follows l id revision body h
  | noticeWithdraw l id => exact judgeNoticeWithdraw_follows l id h
  | noticeLift l id => exact judgeNoticeLift_follows l id h
  | signOverride l sign o => exact judgeSignOverride_follows l sign o h
  | zoneLevel l zone level => exact judgeZoneLevel_follows l zone level h
  | detectorClear l channel => exact judgeDetectorClear_follows l channel h
  | testTrip l channel => exact judgeTestTrip_follows l channel h
  | gateFaultClear l gate => exact judgeGateFaultClear_follows l gate h
  | fullClose l => exact accept_follows (fullClose_changes u e h)
  | releasePropose l => exact judgeReleasePropose_follows l h
  | releaseConfirm l => exact accept_follows (releaseFull_changes u e h)
  | fieldRestart l => exact accept_follows (fieldRestart_changes u e h)
  | attentionEnable l enable => exact accept_follows (h.aside rfl rfl rfl)
  | commissionEnter l => exact accept_follows (h.aside rfl rfl rfl)
  | commissionExit l => exact accept_follows (h.aside rfl rfl rfl)
  | storeWrite l region number bytes => exact judgeStoreWrite_follows l region number bytes h
  | storeRead l region number => exact judgeStoreRead_follows region number h
  | protectSet l region => exact judgeProtectSet_follows l region h
  | storeErase l => exact accept_follows (h.aside rfl rfl rfl)
  | commit l => exact judgeCommit_follows l
  | storeSum l => exact accept_follows h
  | _ => exact deny_follows _

theorem takeRequest_changes (l : Link) (kind : Byte) {judge : Ev → Verdict} {s : State}
    (hj : ∀ e : Ev, Changes u e.st → (judge e).Follows u) (h : Changes u s) : Changes u (takeRequest l kind judge s) := by
  cases hr : (s.links.get l).replying with
  | true => rwa [takeRequest_lost kind judge hr]
  | false =>
    have hh : Changes u (hearing l s).st := heard_changes l u _ h
    have hv := hj (hearing l s) hh
    cases hv' : judge (hearing l s) with
    | refuse body =>
      rw [takeRequest_refused hr hv']
      exact (finish_changes hh).aside rfl rfl rfl
    | accept e reply =>
      rw [takeRequest_accepted hr hv']
      rw [hv'] at hv
      exact (finish_changes hv).aside rfl rfl rfl

/-- A command that is a request, judged as `judgeOf` judges it. -/
theorem request_changes (l : Link) (kind : Byte) (c : Instr) {s t : State} (h : Changes u s)
    (ht : request l kind (judgeOf c) s = .next t) : Changes u t := by
  cases ht
  exact takeRequest_changes l kind (fun _ he => judgeOf_follows c he) h

-- ---------------------------------------------------------------- the other commands

theorem ite_changes {c : Prop} [Decidable c] {a b : State} (ha : c → Changes u a) (hb : Changes u b) :
    Changes u (if c then a else b) := by
  split
  · next hc => exact ha hc
  · exact hb

/-- The confirmation wait of a WARNING segment becomes its warning timer (R11). -/
theorem waitExpiry_changes {s : State} (i : SegId) (h : Changes u s) :
    Changes u (s.onRoadOnly fun r => { r with segs := alter r.segs i (Option.map RoadEv.startWarning) }) :=
  h.road (.still (RoadEv.setSeg_still { road := s.road, flags := 0, touched := Vector.replicate 8 false } i
    (f := RoadEv.startWarning) fun _ => rfl)) rfl rfl

theorem landWrite_changes {s : State} (w : StoreWrite) (v : LatchValue) (h : Changes u s) : Changes u (s.landWrite w v) :=
  h.aside rfl rfl rfl

theorem latchWordWriteComplete_changes {s t : State} (h : Changes u s) (ht : execLatchWordWriteComplete s = .next t) :
    Changes u t := by
  unfold execLatchWordWriteComplete at ht
  cases ht
  split
  · exact h.aside rfl rfl rfl
  · exact h

theorem storeWriteComplete_changes {s t : State} (h : Changes u s) (ht : execStoreWriteComplete s = .next t) :
    Changes u t := by
  unfold execStoreWriteComplete at ht
  cases ht
  split
  · exact landWrite_changes _ _ h
  · exact lineStep_changes _ (landWrite_changes _ _ h)
  · exact landWrite_changes _ _ h
  · exact h

theorem eraseComplete_changes {s t : State} (h : Changes u s) (ht : execEraseComplete s = .next t) : Changes u t := by
  unfold execEraseComplete at ht
  cases ht
  split
  · exact lineStep_changes _ (landWrite_changes _ _ h)
  · exact h

theorem takeReply_changes (i : SignId) (r : SignReply) {s : State} (h : Changes u s) : Changes u (s.takeReply i r) :=
  ite_changes (fun _ => lineStep_changes _ h) h

theorem signFrameDiscard_changes {frame : List Byte} {s t : State} (h : Changes u s)
    (ht : execSignFrameDiscard frame s = .next t) : Changes u t := by
  unfold execSignFrameDiscard at ht
  cases ht
  split
  · exact takeReply_changes _ _ h
  · exact h

theorem linkByteReceived_changes {l : Link} {b : Byte} {s t : State} (h : Changes u s)
    (ht : execLinkByteReceived l b s = .next t) : Changes u t := by
  unfold execLinkByteReceived at ht
  cases ht
  split
  · exact takeRequest_changes l _ (fun _ he => judgeOf_follows _ he) (h.aside rfl rfl rfl)
  · exact h.aside rfl rfl rfl

end

/-- Every command is a sequence of changes. -/
theorem exec_changes (c : Instr) {u s t : State} (h : Changes u s) (ht : exec c s = .next t) : Changes u t := by
  cases c with
  | status l => exact request_changes l _ (.status l) h ht
  | query l object id part => exact request_changes l _ (.query l object id part) h ht
  | holdPlace l reason segs => exact request_changes l _ (.holdPlace l reason segs) h ht
  | holdRelease l kind segs => exact request_changes l _ (.holdRelease l kind segs) h ht
  | startupRelease l => exact request_changes l _ (.startupRelease l) h ht
  | reopen l segs => exact request_changes l _ (.reopen l segs) h ht
  | timeSet l value => exact request_changes l _ (.timeSet l value) h ht
  | noticeCreate l kind body => exact request_changes l _ (.noticeCreate l kind body) h ht
  | noticeAmend l id revision body => exact request_changes l _ (.noticeAmend l id revision body) h ht
  | noticeWithdraw l id => exact request_changes l _ (.noticeWithdraw l id) h ht
  | noticeLift l id => exact request_changes l _ (.noticeLift l id) h ht
  | signOverride l sign o => exact request_changes l _ (.signOverride l sign o) h ht
  | zoneLevel l zone level => exact request_changes l _ (.zoneLevel l zone level) h ht
  | detectorClear l channel => exact request_changes l _ (.detectorClear l channel) h ht
  | testTrip l channel => exact request_changes l _ (.testTrip l channel) h ht
  | gateFaultClear l gate => exact request_changes l _ (.gateFaultClear l gate) h ht
  | fullClose l => exact request_changes l _ (.fullClose l) h ht
  | releasePropose l => exact request_changes l _ (.releasePropose l) h ht
  | releaseConfirm l => exact request_changes l _ (.releaseConfirm l) h ht
  | fieldRestart l => exact request_changes l _ (.fieldRestart l) h ht
  | attentionEnable l enable => exact request_changes l _ (.attentionEnable l enable) h ht
  | commissionEnter l => exact request_changes l _ (.commissionEnter l) h ht
  | commissionExit l => exact request_changes l _ (.commissionExit l) h ht
  | storeWrite l region number bytes => exact request_changes l _ (.storeWrite l region number bytes) h ht
  | storeRead l region number => exact request_changes l _ (.storeRead l region number) h ht
  | protectSet l region => exact request_changes l _ (.protectSet l region) h ht
  | storeErase l => exact request_changes l _ (.storeErase l) h ht
  | commit l => exact request_changes l _ (.commit l) h ht
  | storeSum l => exact request_changes l _ (.storeSum l) h ht
  | formatRefusal l kind => exact request_changes l _ (.formatRefusal l kind) h ht
  | linkCheckFailure l => cases ht; exact h.aside rfl rfl rfl
  | linkBadLength l => cases ht; exact h.aside rfl rfl rfl
  | linkFramingError l => cases ht; exact h.aside rfl rfl rfl
  | interByteTimeout l => cases ht; exact h.aside rfl rfl rfl
  | linkReplySent l => cases ht; exact h.aside rfl rfl rfl
  | linkSilenceExpiry l => cases ht; exact ite_changes (fun _ => event_changes (silence_changes l) h) h
  | hardwareReset levels => cases ht; exact afterReset_changes u levels s
  | confirmationWaitExpiry i => cases ht; exact ite_changes (fun _ => waitExpiry_changes i h) h
  | warningTimerExpiry i =>
    cases ht
    exact ite_changes (fun _ => event_changes
      (onRoad_steps fun ctx => RoadEv.warningExpiry_steps ctx i) h) h
  | endSwitchChange g sw level =>
    cases ht
    exact ite_changes (fun _ => h) (event_changes
      (onRoad_steps fun ctx => RoadEv.switchChange_steps ctx g sw level) h)
  | travelTimeout g =>
    cases ht
    exact ite_changes (fun _ => event_changes (onRoad_steps fun ctx => RoadEv.stall_steps ctx g) h) h
  | jointWindowExpiry => cases ht; exact ite_changes (fun _ => event_changes (setLatch_changes _) h) h
  | latchWordWriteComplete => exact latchWordWriteComplete_changes h ht
  | storeWriteComplete => exact storeWriteComplete_changes h ht
  | eraseComplete => exact eraseComplete_changes h ht
  | keyPinChange pin level =>
    cases ht
    exact ite_changes (fun _ => h) (event_changes (fun _ _ he => he.aside rfl rfl rfl) h)
  | pulseInputChange c level =>
    cases ht
    exact ite_changes (fun _ => h) (event_changes (fun _ _ he => he.aside rfl rfl rfl) h)
  | carrierLoss c => cases ht; exact ite_changes (fun _ => event_changes (loseCarrier_changes c) h) h
  | measurementGateEnd c =>
    cases ht
    exact ite_changes (fun _ => event_changes (measurementGateEnd_changes c) h) h
  | sitePeriodClose i => cases ht; exact ite_changes (fun _ => event_changes (sitePeriodEnd_changes i) h) h
  | minuteTick =>
    cases ht
    exact ite_changes (fun _ => event_changes (fun u e he => evaluate_changes u _ (he.aside rfl rfl rfl)) h) h
  | probeTimerExpiry i => cases ht; exact ite_changes (fun _ => h.aside rfl rfl rfl) h
  | signFrameSent => cases ht; exact h.aside rfl rfl rfl
  | replyWindowExpiry => cases ht; exact ite_changes (fun _ => lineStep_changes _ h) h
  | signFrameDiscard frame => exact signFrameDiscard_changes h ht
  | ready i width sum => cases ht; exact takeReply_changes i _ h
  | take i => cases ht; exact takeReply_changes i _ h
  | pause i => cases ht; exact takeReply_changes i _ h
  | refuse i => cases ht; exact takeReply_changes i _ h
  | signShown i sum => cases ht; exact takeReply_changes i _ h
  | linkByteReceived l b => exact linkByteReceived_changes h ht
  | inputSample levels =>
    have e : s.tick.event (Ev.sampleAll levels) = t := Host.Outcome.next.inj ht
    rw [← e]
    exact event_changes (sampleAll_changes levels) (tick_changes h)

end Sys2Proof.Machine
end

section
/-! The laws that every change keeps: rings, reported values and grip score of a site, levels and flags of a zone, and with them
the laws of single records and of the road (R29, R31, R32, R86 to R91, R100, R102). -/

namespace Sys2Proof.Machine

-- ---------------------------------------------------------------- one site

theorem appendRing_length {len : Nat} (x : Nat) {ring : List Nat} (h : 1 ≤ len) (hr : ring.length ≤ len) :
    1 ≤ (appendRing len x ring).length ∧ (appendRing len x ring).length ≤ len := by
  unfold appendRing
  rw [List.length_append]
  split
  · rw [List.length_drop]
    simp only [List.length_cons, List.length_nil]
    omega
  · simp only [List.length_cons, List.length_nil]
    omega

theorem appendRing_mem {len x y : Nat} {ring : List Nat} (h : y ∈ appendRing len x ring) : y ∈ ring ∨ y = x := by
  unfold appendRing at h
  rcases List.mem_append.1 h with hm | hm
  · split at hm
    · exact Or.inl (List.mem_of_mem_drop hm)
    · exact Or.inl hm
  · exact Or.inr (List.mem_singleton.1 hm)

/-- A ring whose entries are bounded keeps them bounded (R90, R91). -/
theorem appendRing_le {len x bound : Nat} {ring : List Nat} (h : ∀ y ∈ ring, y ≤ bound) (hx : x ≤ bound) :
    ∀ y ∈ appendRing len x ring, y ≤ bound := fun y hy => (appendRing_mem hy).elim (h y) fun hxy => hxy ▸ hx

theorem gradeOf_le {cfg : SiteConfig} (h : cfg.fail ≤ 4) (g : Grip) : gradeOf cfg g ≤ 4 := by
  cases g with
  | value g =>
    unfold gradeOf
    dsimp only
    split_ifs <;> decide
  | invalid => exact h
  | absent => exact h

theorem windClassOf_le (cfg : SiteConfig) (gust : Nat) : windClassOf cfg gust ≤ 2 := by
  unfold windClassOf
  split_ifs <;> decide

/-- The grip score that valid penalties give lies in 10 to 100 (R88, R89). -/
theorem penaltiesOf_combined_le (ts : Int) (ta : Temp) (p mg : Nat) : (penaltiesOf ts ta p mg).combined ≤ 90 := Nat.min_le_left _ _

theorem compute_grip {x : Site} {surface : Nat} {air : Option Nat} {g : Nat} (h : (x.compute surface air).g = .value g) :
    10 ≤ g ∧ g ≤ 100 := by
  unfold Site.compute at h
  dsimp only at h
  cases hts : temperature x.config surface x.acc.surface with
  | value ts =>
    rw [hts] at h
    cases h
    exact ⟨Nat.sub_le_sub_left (penaltiesOf_combined_le ..) 100, Nat.sub_le _ _⟩
  | invalid => rw [hts] at h; cases h
  | absent => rw [hts] at h; cases h

theorem siteLaw_compute {x : Site} (h : SiteLaw x) (surface : Nat) (air : Option Nat) : SiteLaw (x.compute surface air) := by
  obtain ⟨hlen, hfail, ⟨_, hgrade⟩, ⟨_, hwind⟩, _, _, hgrades, hwinds, _⟩ := h
  exact ⟨hlen, hfail, appendRing_length _ hlen hgrade, appendRing_length _ hlen hwind, rfl, rfl,
    appendRing_le hgrades (gradeOf_le hfail _), appendRing_le hwinds (windClassOf_le _ _), fun _ hg => compute_grip hg⟩

/-- What an event makes of a site keeps its law (R90, R91, R99). -/
theorem SiteChange.siteLaw {x x' : Site} (h : SiteChange x x') (hl : SiteLaw x) : SiteLaw x' := by
  cases h with
  | stay => exact hl
  | deliver kind g c => exact hl
  | compute surface air => exact siteLaw_compute hl surface air
  | nextPeriod => exact hl
  | restart => exact hl

-- ---------------------------------------------------------------- one zone

/-- What an event makes of a zone keeps its law (R102 to R104). -/
theorem ZoneChange.zoneLaw {x x' : Zone} (h : ZoneChange x x') (hl : ZoneLaw x) : ZoneLaw x' := by
  obtain ⟨hj, hset, hloss, hle⟩ := hl
  cases h with
  | stay => exact ⟨hj, hset, hloss, hle⟩
  | setTo level => exact ⟨rfl, Nat.min_le_left _ _, hloss, hle⟩
  | lose =>
    unfold Zone.lose
    split
    · exact ⟨rfl, hset, hloss, hle⟩
    · exact ⟨hj, hset, hloss, hle⟩

-- ---------------------------------------------------------------- the laws of the state

theorem Change.recordLaws {s t : State} (h : Change s t) (hl : RecordLaws s) : RecordLaws t := by
  cases h with
  | records hroad hsites hzones =>
    obtain ⟨hsite, hzone, hgate⟩ := hl
    exact ⟨fun i => (hsites i).siteLaw (hsite i), fun z => (hzones z).zoneLaw (hzone z), hroad.gateLaw hgate⟩
  | load h => exact h.recordLaws

theorem Changes.recordLaws {s t : State} (h : Changes s t) (hl : RecordLaws s) : RecordLaws t := by
  induction h with
  | refl => exact hl
  | tail _ hc ih => exact hc.recordLaws ih

theorem Change.lawful {s t : State} (h : Change s t) (hl : Lawful s.road) : Lawful t.road := by
  cases h with
  | records hroad _ _ => exact hroad.lawful hl
  | load h => exact h.lawful

theorem Changes.lawful {s t : State} (h : Changes s t) (hl : Lawful s.road) : Lawful t.road := by
  induction h with
  | refl => exact hl
  | tail _ hc ih => exact hc.lawful ih

/-- A raising drive that is ON obeys a demand that no shut segment allows (R31, R32). -/
theorem raisingLaw_of_lawful {s : State} (h : Lawful s.road) : RaisingLaw s := by
  intro g i hdrive hi
  obtain ⟨hdemand, hraising, hraise⟩ := h.2 g
  have hd : s.road.demandOf (s.road.gates.get g) = .raise := hdemand.symm.trans (hraise (hraising hdrive))
  exact RoadEv.demandOf_eq_raise hd i hi

/-- Every step is a sequence of changes. -/
theorem step_changes {s t : State} (ht : step s = .next t) : Changes s t := by
  unfold step at ht
  split at ht
  · cases ht
    exact .refl
  · next c rest _ => exact exec_changes c (s := { s with pending := rest }) (Changes.aside .refl rfl rfl rfl) ht

end Sys2Proof.Machine

open Sys2Proof Sys2Proof.Machine

/-- Settles O54: every step is a sequence of changes of single records and of loads, and each of them keeps the laws. -/
theorem stepKeepsTheRecordLaws : Obligations.StepKeepsTheRecordLaws := fun _ _ h ht => (step_changes ht).recordLaws h

/-- Settles O59: every step of the road ends in a road whose lists agree and whose demands are judged, for the chain of R42 is
worked off to its end. -/
theorem stepKeepsTheRaisingLaw : Obligations.StepKeepsTheRaisingLaw := fun _ _ h ht =>
  have hl := (step_changes ht).lawful h
  ⟨hl, raisingLaw_of_lawful hl⟩

end

section
/-! GATE_FAULT_CLEAR: the gate leaves FAULT for UNKNOWN and is resolved by its switches in the same event (R44, R45). -/

namespace Sys2Proof.Machine

namespace RoadEv

theorem clearFault_grow (ctx : RoadCtx) (g : GateId) (e : RoadEv) : FlagsGrow e (clearFault ctx g e) := chain_gateTo_grow ..

theorem clearFault_frame (ctx : RoadCtx) (g : GateId) (e : RoadEv) : RoadFrame e.road (clearFault ctx g e).road :=
  chain_gateTo_frame ctx e g [.resolve g] rfl

/-- The change of the gate to UNKNOWN sets GATE attention (R43). -/
theorem clearFault_includes (ctx : RoadCtx) (g : GateId) (e : RoadEv) : Includes Attn.gate (clearFault ctx g e).flags := by
  obtain ⟨f, hf, _⟩ := chain_grow ctx
    (e.gateTo g ((e.road.gates.get g).enter .unknown none none none) [.resolve g])
  unfold clearFault
  rw [hf]
  exact (gateTo_includes ..).or_left f

-- ---------------------------------------------------------------- a gate at a rest that no segment waits for

/-- No segment waits for a gate, whatever becomes of the gates. -/
theorem handed_quiet (ctx : RoadCtx) {e : RoadEv} {g : GateId} {l : List SegId} (fault : Bool)
    (hlist : (e.road.gates.get g).listing = l)
    (hq : ∀ i ∈ l, e.road.segState i ≠ some .closing ∧ e.road.segState i ≠ some .opening) :
    doTask ctx (.handed g fault) e = (e, []) := by
  subst hlist
  exact handAll_quiet ctx fault e _ hq

/-- A gate that has entered a rest, its demand still to be applied, stays there or leaves it in a fresh CHECKED travel (R33). -/
theorem run_rest (ctx : RoadCtx) (n : Nat) {e : RoadEv} {g : GateId} {d : Demand}
    (hs : (e.road.gates.get g).state = restOf d) (hl : Leaves (otherDemand d) (e.road.gates.get g))
    (hq : ∀ i ∈ (e.road.gates.get g).listing, e.road.segState i ≠ some .closing ∧ e.road.segState i ≠ some .opening) :
    (run ctx (n + 4) [.handed g false, .apply g] e).road.gates.get g =
      if (e.road.gates.get g).demand = d then e.road.gates.get g
      else (e.road.gates.get g).travel (otherDemand d) .checked := by
  rw [run_step (handed_quiet ctx false rfl hq), List.nil_append]
  split
  · next hd => rw [run_step (doTask_apply_agrees ctx hd hs), List.nil_append, run_nil]
  · next hd =>
    let e2 := (e.gateTo g ((e.road.gates.get g).travel (otherDemand d) .checked) [.settle g]).1
    have h2 : e2.road.gates.get g = (e.road.gates.get g).travel (otherDemand d) .checked := (gateTo_get ..).trans (if_pos rfl)
    rw [run_step (doTask_apply_leaves ctx (demand_other hd) hl)]
    show (run ctx (n + 2) [.handed g _, .settle g] e2).road.gates.get g = _
    rw [run_step (handed_quiet ctx _ (congrArg Gate.listing h2) hq), List.nil_append,
      run_step (doTask_settle_goes_on ctx h2 hl), List.nil_append, run_nil, h2]

/-- A travel with both switches INACTIVE goes on (R37). -/
theorem doTask_settle_mid (ctx : RoadCtx) {e : RoadEv} {g : GateId} (h : (e.road.gates.get g).reading = .mid) :
    doTask ctx (.settle g) e = (e, []) := by
  simp only [doTask]
  rw [h]
  split
  · next hb => cases hb
  · next hb => cases hb
  · next hb => cases hb
  · rfl

-- ---------------------------------------------------------------- the resolution, by what the switches read

/-- The road of a gate fault that is cleared, the gate in UNKNOWN. -/
def cleared (e : RoadEv) (g : GateId) : RoadEv :=
  (e.gateTo g ((e.road.gates.get g).enter .unknown none none none) [.resolve g]).1

theorem enter_unknown (x : Gate) : (x.enter .unknown none none none).state = .unknown := rfl

theorem cleared_get (e : RoadEv) (g : GateId) :
    (cleared e g).road.gates.get g = (e.road.gates.get g).enter .unknown none none none := (gateTo_get ..).trans (if_pos rfl)

/-- Where no segment waits for it, a cleared gate is resolved next, and the entry that this is, is handed on to no effect. -/
theorem clearFault_resolves (ctx : RoadCtx) {e : RoadEv} {g : GateId} {x : Gate} {more : List Task}
    (hq : ∀ i ∈ (e.road.gates.get g).listing, e.road.segState i ≠ some .closing ∧ e.road.segState i ≠ some .opening)
    (h : doTask ctx (.resolve g) (cleared e g) = (cleared e g).gateTo g x more) :
    clearFault ctx g e = run ctx 1022 (.handed g (x.state == .fault) :: more) ((cleared e g).gateTo g x more).1 := by
  have hchain : clearFault ctx g e = run ctx 1024 [.handed g false, .resolve g] (cleared e g) := rfl
  rw [hchain, run_step (handed_quiet ctx false (congrArg Gate.listing (cleared_get e g)) hq), List.nil_append, run_step h,
    List.append_nil]
  rfl

/-- What the switches read at the rest of a demand (R45). -/
def restReading : Demand → Reading
  | .raise => .up
  | .lower => .down

/-- At a rest that its switches read, the switch of the other rest is INACTIVE. -/
theorem leaves_of_reading {x : Gate} {d : Demand} (h : x.reading = restReading d) :
    Leaves (otherDemand d) (x.rest (restOf d)) := by
  unfold Gate.reading at h
  split at h
  · next hraised hlowered => cases d with
    | raise => exact ⟨rfl, hlowered⟩
    | lower => cases h
  · next hraised hlowered => cases d with
    | raise => cases h
    | lower => exact ⟨rfl, hraised⟩
  · cases d <;> cases h
  · cases d <;> cases h

section
variable (ctx : RoadCtx) {e : RoadEv} {g : GateId}
  (hq : ∀ i ∈ (e.road.gates.get g).listing, e.road.segState i ≠ some .closing ∧ e.road.segState i ≠ some .opening)
include hq

/-- What GATE_FAULT_CLEAR makes of a gate at the one rest that its switches read (R33, R45). -/
theorem clearFault_rest {d : Demand} (hr : (e.road.gates.get g).reading = restReading d) :
    (clearFault ctx g e).road.gates.get g =
      if (e.road.gates.get g).demand = d then (e.road.gates.get g).rest (restOf d)
      else ((e.road.gates.get g).rest (restOf d)).travel (otherDemand d) .checked := by
  have hres : doTask ctx (.resolve g) (cleared e g) =
      (cleared e g).gateTo g ((e.road.gates.get g).rest (restOf d)) [.apply g] := by
    have hread : ((e.road.gates.get g).enter .unknown none none none).reading = restReading d := hr
    simp only [doTask]
    rw [cleared_get, if_pos (enter_unknown _), hread]
    cases d <;> rfl
  have hget : ((cleared e g).gateTo g ((e.road.gates.get g).rest (restOf d)) [.apply g]).1.road.gates.get g =
      (e.road.gates.get g).rest (restOf d) := (gateTo_get ..).trans (if_pos rfl)
  have hfault : (((e.road.gates.get g).rest (restOf d)).state == .fault) = false := by cases d <;> rfl
  rw [clearFault_resolves ctx hq hres, hfault, run_rest ctx 1018 (d := d) (by rw [hget]; rfl)
    (by rw [hget]; exact leaves_of_reading hr) (by rw [hget]; exact hq), hget]
  rfl

/-- What GATE_FAULT_CLEAR makes of a gate between its rests (R45). -/
theorem clearFault_mid (hr : (e.road.gates.get g).reading = .mid) :
    (clearFault ctx g e).road.gates.get g = (e.road.gates.get g).travel (e.road.gates.get g).demand .unchecked := by
  have hres : doTask ctx (.resolve g) (cleared e g) =
      (cleared e g).gateTo g ((e.road.gates.get g).travel (e.road.gates.get g).demand .unchecked) [.settle g] := by
    have hread : ((e.road.gates.get g).enter .unknown none none none).reading = .mid := hr
    simp only [doTask]
    rw [cleared_get, if_pos (enter_unknown _), hread]
    rfl
  have hget : ((cleared e g).gateTo g ((e.road.gates.get g).travel (e.road.gates.get g).demand .unchecked)
      [.settle g]).1.road.gates.get g = (e.road.gates.get g).travel (e.road.gates.get g).demand .unchecked :=
    (gateTo_get ..).trans (if_pos rfl)
  rw [clearFault_resolves ctx hq hres, run_step (handed_quiet ctx _ (congrArg Gate.listing hget) hq), List.nil_append,
    run_step (doTask_settle_mid ctx (by rw [hget]; exact hr)), List.nil_append, run_nil, hget]

/-- What GATE_FAULT_CLEAR makes of a gate with both switches ACTIVE (R45). -/
theorem clearFault_both (hr : (e.road.gates.get g).reading = .both) :
    FaultWith .conflict ((clearFault ctx g e).road.gates.get g) := by
  have hres : doTask ctx (.resolve g) (cleared e g) =
      (cleared e g).gateTo g (((e.road.gates.get g).enter .unknown none none none).fail .conflict) [] := by
    have hread : ((e.road.gates.get g).enter .unknown none none none).reading = .both := hr
    simp only [doTask]
    rw [cleared_get, if_pos (enter_unknown _), hread]
  rw [clearFault_resolves ctx hq hres]
  refine run_gate ctx faultWith_step g _ _ ?_
  rw [gateTo_get, if_pos rfl]
  exact fail_faultWith _ _

end

/-- No listing segment of a quiet gate is in CLOSING or OPENING. -/
theorem quiet_segState {r : Road} {x : Gate} (h : Quiet r x) :
    ∀ i ∈ x.listing, r.segState i ≠ some .closing ∧ r.segState i ≠ some .opening := fun i hi => by
  have := h.2 i hi
  unfold Road.isIn at this
  simpa using this

end RoadEv

-- ---------------------------------------------------------------- the request

/-- An accepted request whose effect is a step of the road that keeps the hold sets leaves them (R178). -/
theorem accepted_onRoad_holds {l : Link} {s : State} {kind : Byte} {judge : Ev → Verdict} {f : RoadCtx → RoadEv → RoadEv}
    {reply : State → List Byte} (h : Ready l s) (hj : judge (hearing l s) = .accept ((hearing l s).onRoad f) reply)
    (hf : ∀ ctx e, RoadFrame e.road (f ctx e).road) : HoldsStand (heardState l s) (takeRequest l kind judge s) := by
  rw [takeRequest_accepted h hj]
  have hrel := (finish_confirms ((hearing l s).onRoad f)).2
  rw [(onRoad_spec f (hearing l s)).1] at hrel
  exact holdsStand_of_frame (hf (heardState l s).roadCtx (roadStart (heardState l s))) hrel

/-- The reply names the state and the cause that the gate has at the end of the event (R44). -/
theorem judgeGateFaultClear_eq {l : Link} {gate : Byte} {s : State} {g : GateId} (hl : l = .panel) (hk : s.key = .service)
    (hc : s.commissioned = true) (hg : gate.toNat = g.val) : judgeGateFaultClear l gate (hearing l s) =
      if ((heardState l s).road.gates.get g).state = .fault then
        .accept ((hearing l s).onRoad fun ctx => RoadEv.clearFault ctx g) fun s => gateAnswer (s.road.gates.get g)
      else Verdict.deny .state := by
  refine (check_of_pass ?_).trans ?_
  · rw [hearing_st, needPanelService_heard, needCommissioned_heard, if_pos hl, if_pos hk, if_pos hc]
    rfl
  · rw [idOf_eq_some.2 hg]
    rfl

end Sys2Proof.Machine

open Sys2Proof Sys2Proof.Machine

/-- Settles O17: the checks of R44 in their order, then the gate through UNKNOWN to what its switches read. -/
theorem gateFaultClearResolvesTheGate : Obligations.GateFaultClearResolvesTheGate := by
  intro l gate s hr
  have hps := needPanelService_heard l s
  have hcom := needCommissioned_heard l s
  refine ⟨_, rfl, fun h => ?_, fun h1 h2 => ?_, fun h1 h2 h3 => ?_, fun h1 h2 h3 h4 => ?_, fun g h1 h2 h3 h4 => ?_⟩
  · exact refused_of_deny hr (check_of_failure (by simp [hps, h]))
  · exact refused_of_deny hr (check_of_failure (by rw [hearing_st, hps]; simp [h1, h2]))
  · exact refused_of_deny hr (check_of_failure (by rw [hearing_st, hps, hcom]; simp [h1, h2, h3]))
  · refine refused_of_deny hr ((check_of_pass (by rw [hearing_st, hps, hcom]; simp [h1, h2, h3])).trans ?_)
    rw [show idOf 6 gate = none from dif_neg (by omega)]
  · have hj := judgeGateFaultClear_eq h1 h2 h3 h4
    dsimp only
    refine ⟨fun hs => refused_of_deny hr (hj.trans (if_neg hs)), fun hs => ?_⟩
    have hacc := hj.trans (if_pos hs)
    obtain ⟨hkeep, hans, hw, hgates, _⟩ := accepted_onRoad (kind := 0x10) hr hacc fun ctx => RoadEv.clearFault_grow ctx g
    have hheld := accepted_onRoad_holds (kind := 0x10) hr hacc fun ctx => RoadEv.clearFault_frame ctx g
    have hreply : ((hearing l s).onRoad fun ctx => RoadEv.clearFault ctx g).finish.road.gates =
        (takeRequest l 0x10 (judgeGateFaultClear l gate) s).road.gates := by
      rw [takeRequest_accepted hr hacc]
      rfl
    rw [hreply] at hans
    refine ⟨hkeep, hheld, ⟨_, hans, hw, RoadEv.clearFault_includes ..⟩, fun hq => ?_⟩
    have hquiet := RoadEv.quiet_segState hq
    have hnew := congrArg (fun v : Vector Gate 6 => v.get g) hgates
    let start := roadStart (heardState l s)
    exact ⟨fun h => hnew ▸ RoadEv.clearFault_both _ hquiet h,
      fun h => hnew.trans (RoadEv.clearFault_rest _ (e := start) (d := .lower) hquiet h),
      fun h => hnew.trans (RoadEv.clearFault_rest _ (e := start) (d := .raise) hquiet h),
      fun h => hnew.trans (RoadEv.clearFault_mid _ (e := start) hquiet h)⟩

end

section
/-! The run count of an end switch's filter is read by sampling alone: a road on which one run count is another takes every step
as it would have taken it, and ends with that run count (R30, R62, R64). -/

namespace Sys2Proof.Machine

-- ---------------------------------------------------------------- one gate record

/-- The filter of an end switch is written (R64). -/
def Gate.setFilter (sw : Switch) (x : Filter) (g : Gate) : Gate :=
  match sw with
  | .raised => { g with raisedSwitch := x }
  | .lowered => { g with loweredSwitch := x }

/-- The run count of an end switch's filter is written; its level stands (R62). -/
def Gate.setRun (sw : Switch) (run : Nat) (g : Gate) : Gate := g.setFilter sw ⟨(g.switch sw).level, run⟩

/-- Gate `i`, where the run count of a switch of gate `j` is written. -/
def rerun (j : GateId) (sw : Switch) (run : Nat) (i : GateId) (g : Gate) : Gate := if j = i then g.setRun sw run else g

section
variable (j : GateId) (sw : Switch) (run : Nat) (i : GateId) (g : Gate)

/-- What holds of every run count holds of `rerun`. -/
theorem rerun_induction {P : Gate → Prop} (hrun : ∀ sw, P (g.setRun sw run)) (hg : P g) : P (rerun j sw run i g) := by
  unfold rerun
  split
  · exact hrun sw
  · exact hg

@[simp] theorem rerun_state : (rerun j sw run i g).state = g.state :=
  rerun_induction j sw run i g (P := fun x => x.state = g.state) (fun sw => by cases sw <;> rfl) rfl

@[simp] theorem rerun_demand : (rerun j sw run i g).demand = g.demand :=
  rerun_induction j sw run i g (P := fun x => x.demand = g.demand) (fun sw => by cases sw <;> rfl) rfl

@[simp] theorem rerun_listing : (rerun j sw run i g).listing = g.listing :=
  rerun_induction j sw run i g (P := fun x => x.listing = g.listing) (fun sw => by cases sw <;> rfl) rfl

@[simp] theorem rerun_reading : (rerun j sw run i g).reading = g.reading :=
  rerun_induction j sw run i g (P := fun x => x.reading = g.reading) (fun sw => by cases sw <;> rfl) rfl

@[simp] theorem rerun_downOrFault : (rerun j sw run i g).downOrFault = g.downOrFault :=
  rerun_induction j sw run i g (P := fun x => x.downOrFault = g.downOrFault) (fun sw => by cases sw <;> rfl) rfl

theorem rerun_enter (st : GateState) (cause : Option GateFault) (check : Option TravelCheck) (timer : Timer) :
    (rerun j sw run i g).enter st cause check timer = rerun j sw run i (g.enter st cause check timer) := by
  unfold rerun
  split
  · cases sw <;> rfl
  · rfl

theorem rerun_travel (d : Demand) (c : TravelCheck) : (rerun j sw run i g).travel d c = rerun j sw run i (g.travel d c) :=
  rerun_enter ..

theorem rerun_rest (st : GateState) : (rerun j sw run i g).rest st = rerun j sw run i (g.rest st) := rerun_enter ..

theorem rerun_fail (c : GateFault) : (rerun j sw run i g).fail c = rerun j sw run i (g.fail c) := rerun_enter ..

theorem rerun_arrive : (rerun j sw run i g).arrive = rerun j sw run i g.arrive := by
  have hearly : ((rerun j sw run i g).check == some .checked && (rerun j sw run i g).timer.getD 0 < (rerun j sw run i g).tMinMs) =
      (g.check == some .checked && g.timer.getD 0 < g.tMinMs) :=
    rerun_induction j sw run i g (P := fun x => (x.check == some TravelCheck.checked && x.timer.getD 0 < x.tMinMs) = _)
      (fun sw => by cases sw <;> rfl) rfl
  unfold Gate.arrive
  dsimp only
  rw [hearly, rerun_state]
  split
  · exact rerun_fail ..
  · split <;> exact rerun_rest ..

theorem rerun_setDemand (d : Demand) :
    ({ rerun j sw run i g with demand := d } : Gate) = rerun j sw run i { g with demand := d } := by
  unfold rerun
  split
  · cases sw <;> rfl
  · rfl

theorem rerun_setSwitch {h : GateId} {sw' : Switch} {level : Bool} (hne : (j, sw) ≠ (h, sw')) :
    RoadEv.setSwitch sw' level (rerun j sw run h g) = rerun j sw run h (RoadEv.setSwitch sw' level g) := by
  unfold rerun
  split
  · next hj =>
    subst hj
    cases sw with
    | raised => cases sw' with
      | raised => exact absurd rfl hne
      | lowered => rfl
    | lowered => cases sw' with
      | raised => rfl
      | lowered => exact absurd rfl hne
  · rfl

end

-- ---------------------------------------------------------------- the road

namespace RoadEv

/-- The road with one run count written. -/
def setRun (j : GateId) (sw : Switch) (run : Nat) (e : RoadEv) : RoadEv := e.setGate j (Gate.setRun sw run)

/-- The same for a step that brings tasks about. -/
def setRunOf (j : GateId) (sw : Switch) (run : Nat) (r : RoadEv × List Task) : RoadEv × List Task := (r.1.setRun j sw run, r.2)

section
variable (j : GateId) (sw : Switch) (n : Nat) (e : RoadEv)

theorem setRun_get (i : GateId) : (e.setRun j sw n).road.gates.get i = rerun j sw n i (e.road.gates.get i) := by
  rw [setRun, setGate_get, rerun]
  split
  · next hij => subst hij; rfl
  · rfl

@[simp] theorem setRun_segs : (e.setRun j sw n).road.segs = e.road.segs := rfl

@[simp] theorem setRun_segState (i : SegId) : (e.setRun j sw n).road.segState i = e.road.segState i := rfl

/-- A gate record that is written is written with its run count. -/
theorem setRun_setGate (i : GateId) {f f' : Gate → Gate} (hf : ∀ g, f' (rerun j sw n i g) = rerun j sw n i (f g)) :
    (e.setRun j sw n).setGate i f' = (e.setGate i f).setRun j sw n := by
  have hgates : ((e.setRun j sw n).setGate i f').road.gates = ((e.setGate i f).setRun j sw n).road.gates := by
    refine table_ext fun k => ?_
    rw [setGate_get, setRun_get, setRun_get, setRun_get, setGate_get]
    split
    · next hik => subst hik; exact hf _
    · rfl
  unfold setRun setGate at hgates ⊢
  dsimp only at hgates ⊢
  rw [hgates]

theorem setRun_gateTo (i : GateId) (x : Gate) (more : List Task) :
    (e.setRun j sw n).gateTo i (rerun j sw n i x) more = setRunOf j sw n (e.gateTo i x more) := by
  have h := setRun_setGate j sw n e i (f := fun _ => x) (f' := fun _ => rerun j sw n i x) fun _ => rfl
  unfold gateTo
  dsimp only
  rw [h, rerun_state]
  rfl

theorem setRun_arrival (i : GateId) : (e.setRun j sw n).arrival i = setRunOf j sw n (e.arrival i) := by
  unfold arrival
  rw [setRun_get, rerun_arrive, setRun_gateTo]

theorem setRun_neighbours (i : SegId) (l : List GateId) : neighbours (e.setRun j sw n) i l = neighbours e i l := by
  simp [neighbours, setRun_get]

theorem setRun_demandOf (i : GateId) : (e.setRun j sw n).road.demandOf ((e.setRun j sw n).road.gates.get i) =
    e.road.demandOf (e.road.gates.get i) :=
  demandOf_congr (by rw [setRun_get, rerun_listing]) fun _ => rfl

theorem setRun_gateDone (i : SegId) : (e.setRun j sw n).gateDone i = e.gateDone i := by
  funext g
  simp only [gateDone, setRun_get, rerun_state, rerun_demand, rerun_listing]
  rfl

theorem setRun_enterSeg (ctx : RoadCtx) (i : SegId) (st : SegState) :
    enterSeg ctx (e.setRun j sw n) i st = setRunOf j sw n (enterSeg ctx e i st) := by
  cases hi : e.road.segs.get i with
  | none => rw [enterSeg_get_none ctx st hi, enterSeg_get_none ctx st (by rw [setRun_segs, hi])]; rfl
  | some sg =>
    have hi' : (e.setRun j sw n).road.segs.get i = some sg := hi
    refine Prod.ext ?_ ?_
    · unfold enterSeg setRunOf
      rw [hi, hi']
      cases st <;> rfl
    · show (enterSeg ctx (e.setRun j sw n) i st).2 = (enterSeg ctx e i st).2
      rw [enterSeg_tasks ctx st hi, enterSeg_tasks ctx st hi', setRun_neighbours]

theorem setRun_handSeg (ctx : RoadCtx) (fault : Bool) (i : SegId) :
    handSeg ctx fault i (e.setRun j sw n) = setRunOf j sw n (handSeg ctx fault i e) := by
  unfold handSeg
  rw [setRun_segState]
  split
  · rfl
  · split
    · exact setRun_enterSeg ..
    · rfl
  · rfl

theorem setRun_handAll (ctx : RoadCtx) (fault : Bool) : ∀ (l : List SegId) (e : RoadEv),
    handAll ctx fault l (e.setRun j sw n) = setRunOf j sw n (handAll ctx fault l e)
  | [], _ => rfl
  | i :: l, e => by
    unfold handAll
    dsimp only
    rw [setRun_handSeg]
    show ((handAll ctx fault l ((handSeg ctx fault i e).1.setRun j sw n)).1, _) = _
    rw [setRunOf, setRun_handAll ctx fault l (handSeg ctx fault i e).1]
    rfl

/-- Every task of the chain does the same whatever the run count (R42, R62). -/
theorem setRun_doTask (ctx : RoadCtx) (t : Task) : doTask ctx t (e.setRun j sw n) = setRunOf j sw n (doTask ctx t e) := by
  cases t with
  | demand i =>
    simp only [doTask]
    rw [setRun_demandOf, setRun_get, rerun_demand]
    split
    · rfl
    · exact congrArg (·, [Task.apply i]) (setRun_setGate j sw n e i fun g => rerun_setDemand j sw n i g _)
  | apply i =>
    simp only [doTask, setRun_get, rerun_demand, rerun_state, rerun_travel, setRun_gateTo]
    split <;> rfl
  | settle i =>
    simp only [doTask, setRun_get, rerun_state, rerun_reading, rerun_fail, setRun_gateTo, setRun_arrival]
    split <;> rfl
  | resolve i =>
    simp only [doTask, setRun_get, rerun_state, rerun_demand, rerun_reading, rerun_fail, rerun_rest, rerun_travel, setRun_gateTo]
    split
    · split <;> rfl
    · rfl
  | handed i fault =>
    simp only [doTask, setRun_get, rerun_listing]
    exact setRun_handAll j sw n ctx fault _ e
  | complete i =>
    simp only [doTask, setRun_get, setRun_segs, rerun_state, rerun_downOrFault]
    split
    · split
      · exact setRun_enterSeg j sw n (e.setSeg i _) ctx i .closed
      · rfl
    · rfl
  | done i =>
    simp only [doTask, setRun_segs, setRun_gateDone]
    split
    · split
      · exact setRun_enterSeg j sw n e ctx i .opened
      · rfl
    · rfl

theorem setRun_run (ctx : RoadCtx) : ∀ (k : Nat) (tasks : List Task) (e : RoadEv),
    run ctx k tasks (e.setRun j sw n) = (run ctx k tasks e).setRun j sw n
  | 0, _, _ => rfl
  | _ + 1, [], _ => rfl
  | k + 1, t :: tasks, e => by
    simp only [run]
    rw [setRun_doTask]
    exact setRun_run ctx k _ _

theorem setRun_chain (ctx : RoadCtx) (r : RoadEv × List Task) : chain ctx (setRunOf j sw n r) = (chain ctx r).setRun j sw n :=
  setRun_run j sw n ctx _ _ _

theorem setRun_switchStep (i : GateId) (sw' : Switch) (level : Bool) :
    switchStep i sw' level (e.setRun j sw n) = setRunOf j sw n (switchStep i sw' level e) := by
  simp only [switchStep, setRun_get, rerun_state, rerun_reading, rerun_fail, setRun_gateTo, setRun_arrival]
  repeat' split
  all_goals rfl

/-- An accepted change of one switch does the same whatever the run count of another (R30, R62). -/
theorem setRun_switchChange (ctx : RoadCtx) {i : GateId} {sw' : Switch} {level : Bool} (hne : (j, sw) ≠ (i, sw')) :
    switchChange ctx i sw' level (e.setRun j sw n) = (switchChange ctx i sw' level e).setRun j sw n := by
  unfold switchChange
  rw [setRun_setGate j sw n e i fun g => rerun_setSwitch j sw n g hne, setRun_switchStep, setRun_chain]

end

end RoadEv

end Sys2Proof.Machine
end

section
/-! One sample of one end switch: either its filter alone is written, or its accepted change is a step of the road. The samples
of the other switches give the same before that step and after it (R61, R62, R64). -/

namespace Sys2Proof.Machine

-- ---------------------------------------------------------------- one filter

/-- The filter after one sample (R62). -/
theorem sample_filter (nf : Nat) (level : Bool) (f : Filter) : (f.sample nf level).1 =
    if level = f.level then ⟨f.level, 0⟩ else if f.run + 1 < nf then ⟨f.level, f.run + 1⟩ else ⟨level, 0⟩ := by
  unfold Filter.sample
  split
  · rfl
  · split
    · next h => rw [if_neg (by omega)]
    · next h => rw [if_pos (by omega)]

/-- A change is accepted exactly where the level of the filter becomes another (R62). -/
theorem sample_accepted (nf : Nat) (level : Bool) (f : Filter) :
    (f.sample nf level).2 = ((f.sample nf level).1.level != f.level) := by
  unfold Filter.sample
  split
  · simp
  · next h =>
    split
    · simpa using h
    · simp

/-- An accepted change leaves the sampled level and no run (R62). -/
theorem sample_of_accepted {nf : Nat} {level : Bool} {f : Filter} (h : (f.sample nf level).2 = true) :
    (f.sample nf level).1 = ⟨level, 0⟩ ∧ level ≠ f.level := by
  unfold Filter.sample at h ⊢
  split at h
  · cases h
  · next hne =>
    split at h
    · next hrun => exact ⟨by rw [if_neg hne, if_pos hrun], hne⟩
    · cases h

/-- A sample of the level that the filter has is never accepted (R62). -/
theorem sample_same {nf : Nat} {level : Bool} {f : Filter} (h : level = f.level) : f.sample nf level = (⟨f.level, 0⟩, false) :=
  if_pos h

-- ---------------------------------------------------------------- the end switches of the road

/-- The filter of an end switch (R64). -/
def Road.switch (r : Road) (p : GateId × Switch) : Filter := (r.gates.get p.1).switch p.2

/-- The sampled level of an end switch (R61). -/
def levelOf (levels : Levels) (p : GateId × Switch) : Bool :=
  match p.2 with
  | .raised => levels.raised.get p.1
  | .lowered => levels.lowered.get p.1

theorem setFilter_switch (sw y : Switch) (x : Filter) (g : Gate) :
    (g.setFilter sw x).switch y = if sw = y then x else g.switch y := by
  cases sw <;> cases y <;> rfl

theorem setFilter_over (sw : Switch) (x y : Filter) (g : Gate) : (g.setFilter sw x).setFilter sw y = g.setFilter sw y := by
  cases sw <;> rfl

/-- A gate record that is written twice holds what was written last. -/
theorem RoadEv.setGate_over (e : RoadEv) (i : GateId) {f f' : Gate → Gate} (h : ∀ g, f' (f g) = f' g) :
    (e.setGate i f).setGate i f' = e.setGate i f' := by
  have hgates : ((e.setGate i f).setGate i f').road.gates = (e.setGate i f').road.gates := by
    refine table_ext fun k => ?_
    simp only [setGate_get]
    split
    · rw [if_pos trivial, h]
    · rfl
  exact congrArg (fun v => { e with road := { e.road with gates := v } }) hgates

theorem setSwitch_eq (sw : Switch) (level : Bool) : RoadEv.setSwitch sw level = Gate.setFilter sw ⟨level, 0⟩ := by
  cases sw <;> rfl

/-- A step of the road that keeps the frame keeps every filter. -/
theorem RoadFrame.switch {r r' : Road} (h : RoadFrame r r') (p : GateId × Switch) : r'.switch p = r.switch p := by
  obtain ⟨g, sw⟩ := p
  cases sw
  · exact h.raisedSwitch g
  · exact h.loweredSwitch g

namespace Ev

/-- The road of the event is another. -/
def setRoad (r : Road) (e : Ev) : Ev := e.on fun s => { s with road := r }

/-- What a step of the road has brought about is taken into the event (R8, R43). -/
def takeRoad (r : RoadEv) (e : Ev) : Ev := ((e.setRoad r.road).attend r.flags).raiseSegs (setIds r.touched)

theorem onRoad_eq (f : RoadCtx → RoadEv → RoadEv) (e : Ev) : e.onRoad f = e.takeRoad (f e.st.roadCtx (roadStart e.st)) := rfl

/-- The filter of an end switch is written within an event (R62, R64). -/
def writeSwitch (p : GateId × Switch) (x : Filter) (e : Ev) : Ev := e.on fun s =>
  { s with road := { s.road with gates := alter s.road.gates p.1 (Gate.setFilter p.2 x) } }

/-- The accepted change of an end switch within an event (R30, R64). -/
def changeSwitch (p : GateId × Switch) (level : Bool) (e : Ev) : Ev :=
  e.onRoad fun ctx => RoadEv.switchChange ctx p.1 p.2 level

/-- The sample of one end switch of the levels of a sample (R61). -/
def sampleOne (levels : Levels) (p : GateId × Switch) (e : Ev) : Ev := e.sampleSwitch p.1 p.2 (levelOf levels p)

/-- The filter of an end switch after its sample, and whether a change is accepted (R62, R64). -/
abbrev sampled (levels : Levels) (r : Road) (p : GateId × Switch) : Filter × Bool := (r.switch p).sample 20 (levelOf levels p)

theorem sampleOne_accepts {levels : Levels} {p : GateId × Switch} {e : Ev} (h : (sampled levels e.st.road p).2 = true) :
    e.sampleOne levels p = e.changeSwitch p (levelOf levels p) := if_pos h

theorem sampleOne_rejects {levels : Levels} {p : GateId × Switch} {e : Ev} (h : (sampled levels e.st.road p).2 = false) :
    e.sampleOne levels p = e.writeSwitch p (sampled levels e.st.road p).1 := by
  obtain ⟨g, sw⟩ := p
  refine (if_neg (Bool.eq_false_iff.1 h)).trans ?_
  cases sw <;> rfl

theorem writeSwitch_switch (p q : GateId × Switch) (x : Filter) (e : Ev) :
    (e.writeSwitch p x).st.road.switch q = if p = q then x else e.st.road.switch q := by
  have hget : (e.writeSwitch p x).st.road.gates.get q.1 =
      if p.1 = q.1 then (e.st.road.gates.get p.1).setFilter p.2 x else e.st.road.gates.get q.1 := get_alter ..
  obtain ⟨i, y⟩ := p
  obtain ⟨j, z⟩ := q
  unfold Road.switch
  rw [hget]
  dsimp only at hget ⊢
  by_cases hij : i = j
  · subst hij
    rw [if_pos rfl, setFilter_switch]
    simp
  · rw [if_neg hij, if_neg fun h => hij (Prod.mk.inj h).1]

theorem changeSwitch_switch (p q : GateId × Switch) (level : Bool) (e : Ev) :
    (e.changeSwitch p level).st.road.switch q = if p = q then ⟨level, 0⟩ else e.st.road.switch q := by
  have hframe := (RoadEv.switchChange_frame e.st.roadCtx p.1 p.2 level (roadStart e.st)).switch q
  rw [setSwitch_eq] at hframe
  exact hframe.trans (writeSwitch_switch p q ⟨level, 0⟩ e)

/-- Whatever the sample of one end switch does, it leaves that filter sampled and the others as they were (R62). -/
theorem sampleOne_switch (levels : Levels) (p q : GateId × Switch) (e : Ev) : (e.sampleOne levels p).st.road.switch q =
    if p = q then (sampled levels e.st.road p).1 else e.st.road.switch q := by
  cases h : (sampled levels e.st.road p).2 with
  | true => rw [sampleOne_accepts h, changeSwitch_switch, (sample_of_accepted h).1]
  | false => rw [sampleOne_rejects h, writeSwitch_switch]

-- ---------------------------------------------------------------- the samples of other switches

/-- A write that keeps the level of a filter writes its run count (R62). -/
theorem writeSwitch_eq_setRun {p : GateId × Switch} {x : Filter} {e : Ev} (hx : x.level = (e.st.road.switch p).level) :
    e.writeSwitch p x = e.on fun s => { s with road := ((roadStart s).setRun p.1 p.2 x.run).road } := by
  have hg : (e.st.road.gates.get p.1).setFilter p.2 x = (e.st.road.gates.get p.1).setRun p.2 x.run := by
    unfold Gate.setRun
    rw [show ((e.st.road.gates.get p.1).switch p.2).level = x.level from hx.symm]
  have halter : alter e.st.road.gates p.1 (Gate.setFilter p.2 x) = alter e.st.road.gates p.1 (Gate.setRun p.2 x.run) :=
    congrArg (put e.st.road.gates p.1) hg
  exact congrArg (fun v => e.setRoad { e.st.road with gates := v }) halter

/-- A write of a run count comes before a step of the road or after it, where the step does not read it. -/
theorem onRoad_setRun {f : RoadCtx → RoadEv → RoadEv} {j : GateId} {sw : Switch} {n : Nat}
    (hf : ∀ ctx r, f ctx (r.setRun j sw n) = (f ctx r).setRun j sw n) (e : Ev) :
    (e.on fun s => { s with road := ((roadStart s).setRun j sw n).road }).onRoad f =
      (e.onRoad f).on fun s => { s with road := ((roadStart s).setRun j sw n).road } := by
  show takeRoad (f e.st.roadCtx ((roadStart e.st).setRun j sw n)) _ = _
  rw [hf]
  rfl

/-- The accepted change of one switch, and a write that keeps the level of another, come in any order. -/
theorem changeSwitch_writeSwitch {p q : GateId × Switch} {x : Filter} {level : Bool} {e : Ev} (hne : q ≠ p)
    (hx : x.level = (e.st.road.switch q).level) :
    (e.writeSwitch q x).changeSwitch p level = (e.changeSwitch p level).writeSwitch q x := by
  have hx' : x.level = ((e.changeSwitch p level).st.road.switch q).level := by
    rw [changeSwitch_switch, if_neg hne.symm]
    exact hx
  rw [writeSwitch_eq_setRun hx, writeSwitch_eq_setRun hx']
  exact onRoad_setRun (fun ctx r => RoadEv.setRun_switchChange q.1 q.2 x.run r ctx hne) e

/-- The accepted change of a switch writes over what its filter held. -/
theorem changeSwitch_over (p : GateId × Switch) (x : Filter) (level : Bool) (e : Ev) :
    (e.writeSwitch p x).changeSwitch p level = e.changeSwitch p level := by
  have hover : ((roadStart e.st).setGate p.1 (Gate.setFilter p.2 x)).setGate p.1 (RoadEv.setSwitch p.2 level) =
      (roadStart e.st).setGate p.1 (RoadEv.setSwitch p.2 level) :=
    RoadEv.setGate_over _ _ fun g => by rw [setSwitch_eq]; exact setFilter_over ..
  have hchange : RoadEv.switchChange e.st.roadCtx p.1 p.2 level ((roadStart e.st).setGate p.1 (Gate.setFilter p.2 x)) =
      RoadEv.switchChange e.st.roadCtx p.1 p.2 level (roadStart e.st) := by
    unfold RoadEv.switchChange
    rw [hover]
  show takeRoad (RoadEv.switchChange e.st.roadCtx p.1 p.2 level ((roadStart e.st).setGate p.1 (Gate.setFilter p.2 x))) _ = _
  rw [hchange]
  rfl

end Ev

end Sys2Proof.Machine
end

section
/-! The samples of all end switches, one after the other: what they leave in common, what they leave where none accepts a change,
and where one alone does (R61, R62, R64). The key pins and the pulse inputs are sampled beside every step of the road. -/

namespace Sys2Proof.Machine

namespace Ev

-- ---------------------------------------------------------------- the samples of a list of end switches

/-- The end switches in the order in which they are sampled (R61). -/
def endSwitches : List (GateId × Switch) := (List.finRange 6).flatMap fun g => [(g, .raised), (g, .lowered)]

theorem nodup_endSwitches : endSwitches.Nodup := by decide

theorem mem_endSwitches (p : GateId × Switch) : p ∈ endSwitches := by
  obtain ⟨g, sw⟩ := p
  refine List.mem_flatMap.2 ⟨g, List.mem_finRange g, ?_⟩
  cases sw <;> simp

/-- The samples of a list of end switches (R61). -/
def sampleSwitches (levels : Levels) (l : List (GateId × Switch)) (e : Ev) : Ev := l.foldl (fun e p => e.sampleOne levels p) e

/-- The samples of a list of pulse inputs (R61). -/
def samplePulses (levels : Levels) (l : List ChanId) (e : Ev) : Ev := l.foldl (fun e c => e.samplePulse c (levels.pulse.get c)) e

/-- The samples of the two key pins (R61, R65). -/
def samplePins (levels : Levels) (e : Ev) : Ev := (e.samplePin .a levels.keyA).samplePin .b levels.keyB

theorem sampleAll_eq (levels : Levels) (e : Ev) : e.sampleAll levels =
    samplePulses levels (List.finRange 16) (samplePins levels (sampleSwitches levels endSwitches e)) := by
  have hswitches : sampleSwitches levels endSwitches e = (List.finRange 6).foldl
      (fun e g => (e.sampleSwitch g .raised (levels.raised.get g)).sampleSwitch g .lowered (levels.lowered.get g)) e := by
    unfold sampleSwitches endSwitches
    rw [List.foldl_flatMap]
    rfl
  rw [hswitches]
  rfl

theorem sampled_congr {levels : Levels} {r r' : Road} {p : GateId × Switch} (h : r'.switch p = r.switch p) :
    sampled levels r' p = sampled levels r p := by rw [sampled, h]

/-- The sample of one end switch leaves the samples of the others as they were (R62). -/
theorem sampled_sampleOne {levels : Levels} {p q : GateId × Switch} (hne : p ≠ q) (e : Ev) :
    sampled levels (e.sampleOne levels p).st.road q = sampled levels e.st.road q :=
  sampled_congr ((sampleOne_switch ..).trans (if_neg hne))

/-- What the samples of a list of end switches leave, whatever they accept (R62). -/
structure SwitchesSampled (levels : Levels) (l : List (GateId × Switch)) (e e' : Ev) : Prop where
  keeps : KeepsBut [.links, .road] e.st e'.st
  gains : ∃ f, Gains f e.st e'.st ∧ Within (Attn.segment ||| Attn.gate) f
  holds : HoldsStand e.st e'.st
  switch : ∀ q, e'.st.road.switch q = if q ∈ l then (sampled levels e.st.road q).1 else e.st.road.switch q

theorem sampleOne_spec (levels : Levels) (p : GateId × Switch) (e : Ev) :
    SwitchesSampled levels [p] e (e.sampleOne levels p) := by
  have hswitch : ∀ q, (e.sampleOne levels p).st.road.switch q =
      if q ∈ [p] then (sampled levels e.st.road q).1 else e.st.road.switch q := fun q => by
    rw [sampleOne_switch]
    by_cases hq : p = q
    · subst hq
      rw [if_pos rfl, if_pos List.mem_cons_self]
    · rw [if_neg hq, if_neg fun hm => hq (List.mem_singleton.1 hm).symm]
  cases h : (sampled levels e.st.road p).2 with
  | true =>
    rw [sampleOne_accepts h] at hswitch ⊢
    obtain ⟨_, hk, hg⟩ := onRoad_spec (fun ctx => RoadEv.switchChange ctx p.1 p.2 (levelOf levels p)) e
    obtain ⟨f, hf, hw⟩ := RoadEv.switchChange_grow e.st.roadCtx p.1 p.2 (levelOf levels p) (roadStart e.st)
    refine ⟨hk, ⟨_, hg, ?_⟩, fun j => ?_, hswitch⟩
    · show Within _ (RoadEv.switchChange e.st.roadCtx p.1 p.2 (levelOf levels p) (roadStart e.st)).flags
      rw [hf]
      exact (within_zero _).or hw
    · exact (RoadEv.switchChange_frame e.st.roadCtx p.1 p.2 (levelOf levels p) (roadStart e.st)).holds j
  | false =>
    rw [sampleOne_rejects h] at hswitch ⊢
    exact ⟨fun b hb => by cases b <;> simp_all [Block.same, writeSwitch],
      ⟨0, .of_eq rfl, within_zero _⟩, fun _ => rfl, hswitch⟩

theorem sampleSwitches_spec (levels : Levels) : ∀ (l : List (GateId × Switch)) (e : Ev), l.Nodup →
    SwitchesSampled levels l e (sampleSwitches levels l e)
  | [], e, _ => ⟨.rfl' _ _, ⟨0, .of_eq rfl, within_zero _⟩, fun _ => rfl, fun _ => by simp [sampleSwitches]⟩
  | p :: l, e, hn => by
    obtain ⟨hp, hn⟩ := List.nodup_cons.1 hn
    obtain ⟨hk, ⟨f, hg, hw⟩, hh, hs⟩ := sampleOne_spec levels p e
    obtain ⟨hk', ⟨f', hg', hw'⟩, hh', hs'⟩ := sampleSwitches_spec levels l (e.sampleOne levels p) hn
    refine ⟨hk.trans' hk', ⟨_, hg.trans' hg', hw.or hw'⟩, fun j => (hh' j).trans (hh j), fun q => (hs' q).trans ?_⟩
    by_cases hq : q ∈ l
    · rw [if_pos hq, if_pos (List.mem_cons_of_mem _ hq), sampled_sampleOne (by rintro rfl; exact hp hq)]
    · rw [if_neg hq, hs]
      by_cases hqp : q = p
      · subst hqp
        rw [if_pos List.mem_cons_self, if_pos List.mem_cons_self]
      · rw [if_neg fun hm => hqp (List.mem_singleton.1 hm), if_neg fun hm => (List.mem_cons.1 hm).elim hqp hq]

-- ---------------------------------------------------------------- none is accepted

/-- Nothing but filters of end switches is written (R62). -/
def OnlySwitches (e e' : Ev) : Prop := ∃ gates, e' = e.setRoad { e.st.road with gates := gates } ∧
  ∀ g, ∃ raised lowered, gates.get g = { e.st.road.gates.get g with raisedSwitch := raised, loweredSwitch := lowered }

theorem OnlySwitches.trans' {a b c : Ev} (h : OnlySwitches a b) (k : OnlySwitches b c) : OnlySwitches a c := by
  obtain ⟨v, rfl, hv⟩ := h
  obtain ⟨w, rfl, hw⟩ := k
  refine ⟨w, rfl, fun g => ?_⟩
  obtain ⟨r, l, hg⟩ := hv g
  obtain ⟨r', l', hg'⟩ := hw g
  exact ⟨r', l', hg'.trans (by
    show { v.get g with raisedSwitch := r', loweredSwitch := l' } = _
    rw [hg])⟩

theorem writeSwitch_only (p : GateId × Switch) (x : Filter) (e : Ev) : OnlySwitches e (e.writeSwitch p x) := by
  refine ⟨_, rfl, fun g => ?_⟩
  rw [get_alter]
  split
  · next hg =>
    subst hg
    cases p.2 <;> exact ⟨_, _, rfl⟩
  · exact ⟨_, _, rfl⟩

/-- Where no change is accepted the samples write filters alone (R62). -/
theorem sampleSwitches_rejects {levels : Levels} : ∀ (l : List (GateId × Switch)) (e : Ev), l.Nodup →
    (∀ q ∈ l, (sampled levels e.st.road q).2 = false) → OnlySwitches e (sampleSwitches levels l e)
  | [], _, _, _ => ⟨_, rfl, fun _ => ⟨_, _, rfl⟩⟩
  | p :: l, e, hn, h => by
    obtain ⟨hp, hn⟩ := List.nodup_cons.1 hn
    have hone : OnlySwitches e (e.sampleOne levels p) := by
      rw [sampleOne_rejects (h p List.mem_cons_self)]
      exact writeSwitch_only ..
    refine hone.trans' (sampleSwitches_rejects l _ hn fun q hq => ?_)
    rw [sampled_sampleOne (by rintro rfl; exact hp hq)]
    exact h q (List.mem_cons_of_mem _ hq)

-- ---------------------------------------------------------------- one alone is accepted

/-- Samples that accept no change come before the accepted change of another switch or after it. -/
theorem sampleSwitches_changeSwitch {levels : Levels} {p : GateId × Switch} (level : Bool) :
    ∀ (l : List (GateId × Switch)) (e : Ev), l.Nodup → p ∉ l → (∀ q ∈ l, (sampled levels e.st.road q).2 = false) →
      sampleSwitches levels l (e.changeSwitch p level) = (sampleSwitches levels l e).changeSwitch p level
  | [], _, _, _, _ => rfl
  | q :: l, e, hn, hp, h => by
    obtain ⟨hq, hn⟩ := List.nodup_cons.1 hn
    have hne : q ≠ p := fun hqp => hp (hqp ▸ List.mem_cons_self)
    have hrej := h q List.mem_cons_self
    have hsame : sampled levels (e.changeSwitch p level).st.road q = sampled levels e.st.road q :=
      sampled_congr ((changeSwitch_switch ..).trans (if_neg hne.symm))
    have hone : (e.changeSwitch p level).sampleOne levels q = (e.sampleOne levels q).changeSwitch p level := by
      have hlevel := sample_accepted 20 (levelOf levels q) (e.st.road.switch q)
      rw [show (Filter.sample 20 (levelOf levels q) (e.st.road.switch q)).2 = false from hrej] at hlevel
      rw [sampleOne_rejects (hsame.symm ▸ hrej), sampleOne_rejects hrej, hsame,
        changeSwitch_writeSwitch hne (by simpa using hlevel.symm)]
    show sampleSwitches levels l ((e.changeSwitch p level).sampleOne levels q) = _
    rw [hone]
    refine sampleSwitches_changeSwitch level l _ hn (fun hm => hp (List.mem_cons_of_mem _ hm)) fun r hr => ?_
    rw [sampled_sampleOne (by rintro rfl; exact hq hr)]
    exact h r (List.mem_cons_of_mem _ hr)

theorem sampleOne_congr {levels held : Levels} {q : GateId × Switch} (h : levelOf held q = levelOf levels q) (e : Ev) :
    e.sampleOne held q = e.sampleOne levels q := by
  unfold sampleOne
  rw [h]

theorem sampleSwitches_congr {levels held : Levels} : ∀ (l : List (GateId × Switch)) (e : Ev),
    (∀ q ∈ l, levelOf held q = levelOf levels q) → sampleSwitches held l e = sampleSwitches levels l e
  | [], _, _ => rfl
  | q :: l, e, h => by
    show sampleSwitches held l (e.sampleOne held q) = sampleSwitches levels l (e.sampleOne levels q)
    rw [sampleOne_congr (h q List.mem_cons_self)]
    exact sampleSwitches_congr l _ fun r hr => h r (List.mem_cons_of_mem _ hr)

/-- Where one end switch alone accepts a change, the samples are those with its level held, and then that change. -/
theorem sampleSwitches_single {levels held : Levels} {p : GateId × Switch} :
    ∀ (l : List (GateId × Switch)) (e : Ev), l.Nodup → p ∈ l → (sampled levels e.st.road p).2 = true →
      (∀ q ∈ l, q ≠ p → (sampled levels e.st.road q).2 = false) → levelOf held p = (e.st.road.switch p).level →
      (∀ q, q ≠ p → levelOf held q = levelOf levels q) →
      sampleSwitches levels l e = (sampleSwitches held l e).changeSwitch p (levelOf levels p)
  | [], _, _, hp, _, _, _, _ => absurd hp List.not_mem_nil
  | q :: l, e, hn, hp, hacc, hrej, hheld, hother => by
    obtain ⟨hq, hn⟩ := List.nodup_cons.1 hn
    show sampleSwitches levels l (e.sampleOne levels q) = (sampleSwitches held l (e.sampleOne held q)).changeSwitch p _
    have htail : ∀ r ∈ l, r ≠ q := fun r hr hrq => hq (hrq ▸ hr)
    by_cases hqp : q = p
    · subst hqp
      have hreject : (sampled held e.st.road q).2 = false := by rw [sampled, sample_same hheld]
      have hafter : ∀ x, ∀ r ∈ l, (sampled levels (e.writeSwitch q x).st.road r).2 = false := fun x r hr => by
        rw [sampled_congr ((writeSwitch_switch ..).trans (if_neg (htail r hr).symm))]
        exact hrej r (List.mem_cons_of_mem _ hr) (htail r hr)
      rw [sampleOne_accepts hacc, sampleOne_rejects hreject, sampleSwitches_congr l _ fun r hr => hother r (htail r hr),
        ← sampleSwitches_changeSwitch _ l _ hn hq (hafter _), changeSwitch_over]
    · have hpl : p ∈ l := (List.mem_cons.1 hp).resolve_left (Ne.symm hqp)
      rw [sampleOne_congr (hother q hqp)]
      refine sampleSwitches_single l _ hn hpl ?_ (fun r hr hrp => ?_) ?_ hother
      · rw [sampled_sampleOne hqp]
        exact hacc
      · rw [sampled_sampleOne (htail r hr).symm]
        exact hrej r (List.mem_cons_of_mem _ hr) hrp
      · rw [sampleOne_switch, if_neg hqp]
        exact hheld

-- ---------------------------------------------------------------- beside the road

/-- An operation of the event beside the road: it comes before a step of the road or after it. -/
def Beside (p : Ev → Ev) : Prop := ∀ (f : RoadCtx → RoadEv → RoadEv) (e : Ev), p (e.onRoad f) = (p e).onRoad f

/-- Attention is set in any order (R186). -/
theorem setFlags_comm (a b : FlagSet) (r : LinkRecord) : (r.setFlags a).setFlags b = (r.setFlags b).setFlags a := by
  unfold LinkRecord.setFlags LinkRecord.judgeLine
  dsimp only
  rw [BitVec.or_assoc, BitVec.or_comm a b, ← BitVec.or_assoc]

theorem attend_beside (flags : FlagSet) : Beside (Ev.attend flags) := fun f e => by
  have hlinks : ∀ a b : FlagSet, (e.st.links.all (LinkRecord.setFlags a)).all (LinkRecord.setFlags b) =
      (e.st.links.all (LinkRecord.setFlags b)).all (LinkRecord.setFlags a) := fun a b => by
    unfold Links.all
    simp only [setFlags_comm a b]
  exact congrArg (fun v => (e.onRoad f).on fun s => { s with links := v }) (hlinks _ _)

theorem setChannel_beside (c : ChanId) (g : Channel → Channel) : Beside (Ev.setChannel c g) := fun _ _ => rfl

theorem acceptPulse_beside (c : ChanId) (level : Bool) : Beside (Ev.acceptPulse c level) := fun f e => by
  unfold acceptPulse
  dsimp only
  rw [setChannel_beside]
  exact attend_beside _ f _

/-- A sample is recorded by the filter and by the edge detector of a channel (R62, R68). -/
def recorded (level : Bool) (ch : Channel) : Channel := { ch with filter := (ch.filter.sample ch.nf level).1, edge := level }

/-- A sample is an accepted change of a channel: an edge with NF 0, else a change of its filter (R62, R68, log 20). -/
def changes (level : Bool) (ch : Channel) : Bool :=
  if ch.edgeDriven then !(level == ch.edge) else (ch.filter.sample ch.nf level).2

theorem samplePulse_eq (c : ChanId) (level : Bool) (e : Ev) : e.samplePulse c level =
    if changes level (e.st.field.channels.get c) then (e.setChannel c (recorded level)).acceptPulse c level
    else e.setChannel c (recorded level) := rfl

theorem samplePulse_beside (c : ChanId) (level : Bool) : Beside (Ev.samplePulse c level) := fun f e => by
  rw [samplePulse_eq, samplePulse_eq]
  show (if changes level (e.st.field.channels.get c) then _ else _) = _
  split
  · rw [setChannel_beside]
    exact acceptPulse_beside c level f _
  · rfl

theorem samplePin_eq (pin : KeyPin) (level : Bool) (e : Ev) : e.samplePin pin level =
    if ((e.st.field.pin pin).sample 50 level).2 then e.acceptPin pin level
    else e.on fun s => { s with field := s.field.setPin pin ((s.field.pin pin).sample 50 level).1 } := rfl

theorem samplePin_beside (pin : KeyPin) (level : Bool) : Beside (Ev.samplePin pin level) := fun f e => by
  rw [samplePin_eq, samplePin_eq]
  show (if ((e.st.field.pin pin).sample 50 level).2 then _ else _) = _
  split <;> rfl

theorem samplePins_beside (levels : Levels) : Beside (samplePins levels) := fun f e => by
  unfold samplePins
  rw [samplePin_beside, samplePin_beside]

theorem samplePulses_beside (levels : Levels) : ∀ l : List ChanId, Beside (samplePulses levels l)
  | [], _, _ => rfl
  | c :: l, f, e => by
    show samplePulses levels l ((e.onRoad f).samplePulse c _) = _
    rw [samplePulse_beside]
    exact samplePulses_beside levels l f _

end Ev

end Sys2Proof.Machine
end

section
/-! One sample of a key pin and of every pulse input: the key position and commissioning mode that the pins give, the records of
the channels, and DETECTOR attention for a carrier that is restored (R62, R65, R68, R73, R75, R198). -/

namespace Sys2Proof.Machine

namespace Ev

-- ---------------------------------------------------------------- the key pins (R65, R198)

/-- The key position once the filter of one pin is another (R65). -/
def turned (pin : KeyPin) (x : Filter) (s : State) : KeyPosition :=
  if x.level = (s.field.pin pin).level then s.key
  else keyPosition (s.field.setPin pin x).keyA.level (s.field.setPin pin x).keyB.level

/-- Commissioning mode once the key position is another: leaving SERVICE ends it (R198). -/
def modeAfter (before after : KeyPosition) (on : Bool) : Bool := on && !(before == .service && !(after == .service))

/-- The state once the filter of one pin is another (R65, R198). -/
def pinned (pin : KeyPin) (x : Filter) (s : State) : State :=
  { s with field := s.field.setPin pin x, key := turned pin x s
           store := { s.store with modeOn := modeAfter s.key (turned pin x s) s.store.modeOn } }

theorem modeAfter_same (k : KeyPosition) (on : Bool) : modeAfter k k on = on := by
  cases k <;> cases on <;> rfl

theorem samplePin_pinned (pin : KeyPin) (level : Bool) (e : Ev) :
    e.samplePin pin level = e.on (pinned pin ((e.st.field.pin pin).sample 50 level).1) := by
  have hlevel := sample_accepted 50 level (e.st.field.pin pin)
  rw [samplePin_eq]
  split
  · next h =>
    obtain ⟨hx, hne⟩ := sample_of_accepted h
    rw [hx]
    have hk : turned pin ⟨level, 0⟩ e.st =
        keyPosition (e.st.field.setPin pin ⟨level, 0⟩).keyA.level (e.st.field.setPin pin ⟨level, 0⟩).keyB.level :=
      if_neg hne
    have hst : pinned pin ⟨level, 0⟩ e.st =
        ({ e.st with field := e.st.field.setPin pin ⟨level, 0⟩ } : State).decodeKey := by
      unfold pinned
      rw [hk]
      rfl
    exact congrArg (fun t => { e with st := t }) hst.symm
  · next h =>
    rw [Bool.eq_false_iff.2 h] at hlevel
    have hk : turned pin ((e.st.field.pin pin).sample 50 level).1 e.st = e.st.key := if_pos (by simpa using hlevel.symm)
    have hst : pinned pin ((e.st.field.pin pin).sample 50 level).1 e.st =
        { e.st with field := e.st.field.setPin pin ((e.st.field.pin pin).sample 50 level).1 } := by
      unfold pinned
      rw [hk, modeAfter_same]
    exact congrArg (fun t => { e with st := t }) hst.symm

/-- The key pins are sampled, A before B (R65, log 5). -/
theorem samplePins_eq (levels : Levels) (e : Ev) : samplePins levels e =
    e.on fun s => pinned .b (e.st.field.keyB.sample 50 levels.keyB).1 (pinned .a (e.st.field.keyA.sample 50 levels.keyA).1 s) := by
  unfold samplePins
  rw [samplePin_pinned .b, samplePin_pinned .a]
  rfl

/-- Commissioning mode over both pins: it ends where the key leaves SERVICE with the one pin or with the other. -/
theorem modeAfter_twice (a b c : KeyPosition) (on : Bool) : modeAfter b c (modeAfter a b on) =
    if (a = .service ∧ b ≠ .service) ∨ (b = .service ∧ c ≠ .service) then false else on := by
  cases a <;> cases b <;> cases c <;> cases on <;> rfl

-- ---------------------------------------------------------------- one pulse input (R62, R68, R73, R75)

/-- The carrier of a channel is LOST (R74). -/
def LostCarrier (ch : Channel) : Prop := ∃ k, ch.carrier = some k ∧ k.present = false

/-- A channel after its sample (R62, R68, R73). -/
def pulsed (level : Bool) (ch : Channel) : Channel :=
  if changes level ch then (recorded level ch).accept level else recorded level ch

theorem acceptFlags_within (ch : Channel) : Within Attn.detector ch.acceptFlags := when_within _ _

theorem acceptFlags_includes (ch : Channel) : Includes Attn.detector ch.acceptFlags ↔ LostCarrier ch := by
  unfold Channel.acceptFlags LostCarrier
  cases ch.carrier with
  | none => exact ⟨fun h => absurd h (by unfold Includes; decide), nofun⟩
  | some k =>
    cases hp : k.present with
    | true =>
      refine ⟨fun h => ?_, fun ⟨_, hk, hpk⟩ => ?_⟩
      · simp only [hp] at h
        exact absurd h (by unfold Includes; decide)
      · cases hk
        cases hp.symm.trans hpk
    | false =>
      refine ⟨fun _ => ⟨k, rfl, hp⟩, fun _ => ?_⟩
      simp only [hp]
      exact includes_self _

/-- What the samples of a list of pulse inputs leave. -/
structure PulsesSampled (levels : Levels) (l : List ChanId) (e e' : Ev) : Prop where
  keeps : KeepsBut [.field, .links] e.st e'.st
  field : e'.st.field = { e.st.field with channels := e'.st.field.channels }
  channel : ∀ c, e'.st.field.channels.get c =
    if c ∈ l then pulsed (levels.pulse.get c) (e.st.field.channels.get c) else e.st.field.channels.get c
  gains : ∃ f, Gains f e.st e'.st ∧ Within Attn.detector f ∧ (Includes Attn.detector f ↔
    ∃ c ∈ l, changes (levels.pulse.get c) (e.st.field.channels.get c) = true ∧ LostCarrier (e.st.field.channels.get c))
  raised : e'.raised = e.raised
  acts : e'.acts = e.acts

theorem setChannel_get (c d : ChanId) (g : Channel → Channel) (e : Ev) : (e.setChannel c g).st.field.channels.get d =
    if c = d then g (e.st.field.channels.get c) else e.st.field.channels.get d := get_alter ..

theorem acceptPulse_get (c d : ChanId) (level : Bool) (e : Ev) : (e.acceptPulse c level).st.field.channels.get d =
    if c = d then (e.st.field.channels.get c).accept level else e.st.field.channels.get d := setChannel_get ..

theorem setChannel_keeps (c : ChanId) (g : Channel → Channel) (e : Ev) :
    KeepsBut [.field, .links] e.st (e.setChannel c g).st := by
  intro b hb
  cases b <;> simp_all [Block.same, setChannel]

theorem samplePulse_spec (levels : Levels) (c : ChanId) (e : Ev) :
    PulsesSampled levels [c] e (e.samplePulse c (levels.pulse.get c)) := by
  have hrec : ∀ d, (e.setChannel c (recorded (levels.pulse.get c))).st.field.channels.get d = _ := fun d => setChannel_get c d _ e
  rw [samplePulse_eq]
  split
  · next h =>
    have hwritten := (setChannel_keeps c (recorded (levels.pulse.get c)) e).trans'
      (setChannel_keeps c (Channel.accept (levels.pulse.get c)) _)
    refine ⟨hwritten.trans' ((attend_keeps _ _).mono (by simp)), rfl, fun d => ?_,
      ⟨_, attend_gains _ _, acceptFlags_within _, ?_⟩, rfl, rfl⟩
    · rw [acceptPulse_get, hrec, hrec, if_pos rfl]
      by_cases hd : c = d
      · subst hd
        rw [if_pos rfl, if_pos List.mem_cons_self, pulsed, if_pos h]
      · rw [if_neg hd, if_neg hd, if_neg fun hm => hd (List.mem_singleton.1 hm).symm]
    · rw [acceptFlags_includes, hrec, if_pos rfl]
      exact ⟨fun hl => ⟨c, List.mem_cons_self, h, hl⟩, fun ⟨d, hd, _, hl⟩ => List.mem_singleton.1 hd ▸ hl⟩
  · next h =>
    refine ⟨setChannel_keeps c _ e, rfl, fun d => ?_, ⟨0, .of_eq rfl, within_zero _, ?_⟩, rfl, rfl⟩
    · rw [hrec]
      by_cases hd : c = d
      · subst hd
        rw [if_pos rfl, if_pos List.mem_cons_self, pulsed, if_neg h]
      · rw [if_neg hd, if_neg fun hm => hd (List.mem_singleton.1 hm).symm]
    · refine ⟨fun h0 => absurd h0 (by unfold Includes; decide), fun ⟨d, hd, hc, _⟩ => ?_⟩
      rw [List.mem_singleton.1 hd] at hc
      exact absurd hc h

theorem includes_detector_or (f g : FlagSet) :
    Includes Attn.detector (f ||| g) ↔ Includes Attn.detector f ∨ Includes Attn.detector g := by
  have hbit : ∀ f : FlagSet, Includes Attn.detector f ↔ f.getLsbD 4 = true := includes_twoPow 4 (by decide)
  rw [hbit, hbit, hbit, BitVec.getLsbD_or, Bool.or_eq_true]

theorem samplePulses_spec (levels : Levels) : ∀ (l : List ChanId) (e : Ev), l.Nodup →
    PulsesSampled levels l e (samplePulses levels l e)
  | [], e, _ => ⟨.rfl' _ _, rfl, fun _ => by simp [samplePulses],
      ⟨0, .of_eq rfl, within_zero _, ⟨fun h => absurd h (by unfold Includes; decide), by simp⟩⟩, rfl, rfl⟩
  | c :: l, e, hn => by
    obtain ⟨hc, hn⟩ := List.nodup_cons.1 hn
    obtain ⟨hk, hf, hch, ⟨f, hg, hw, hi⟩, hr, ha⟩ := samplePulse_spec levels c e
    obtain ⟨hk', hf', hch', ⟨f', hg', hw', hi'⟩, hr', ha'⟩ := samplePulses_spec levels l (e.samplePulse c _) hn
    have hother : ∀ d ∈ l, (e.samplePulse c (levels.pulse.get c)).st.field.channels.get d = e.st.field.channels.get d :=
      fun d hd => (hch d).trans (if_neg fun hm => by rw [List.mem_singleton.1 hm] at hd; exact hc hd)
    refine ⟨hk.trans' hk', hf'.trans (by rw [hf]; rfl), fun d => (hch' d).trans ?_,
      ⟨_, hg.trans' hg', hw.or hw', ?_⟩, hr'.trans hr, ha'.trans ha⟩
    · by_cases hd : d ∈ l
      · rw [if_pos hd, if_pos (List.mem_cons_of_mem _ hd), hother d hd]
      · rw [if_neg hd, hch]
        simp [hd]
    · rw [includes_detector_or, hi, hi']
      constructor
      · rintro (⟨d, hd, h⟩ | ⟨d, hd, h⟩)
        · exact ⟨d, List.mem_cons.2 (Or.inl (List.mem_singleton.1 hd)), h⟩
        · exact ⟨d, List.mem_cons_of_mem _ hd, by rwa [hother d hd] at h⟩
      · rintro ⟨d, hd, h⟩
        rcases List.mem_cons.1 hd with hd | hd
        · exact Or.inl ⟨d, List.mem_singleton.2 hd, h⟩
        · exact Or.inr ⟨d, hd, by rwa [hother d hd]⟩

end Ev

end Sys2Proof.Machine
end

section
/-! INPUT_SAMPLE: the ms that it stands for, and then the samples of the end switches, of the key pins and of the pulse inputs
(R61, R62). -/

namespace Sys2Proof.Machine

open Ev (sampled changes pulsed sampleSwitches endSwitches LostCarrier turned pinned modeAfter)

-- ---------------------------------------------------------------- one channel over its ms and its sample

theorem Carrier.tick_change (k : Carrier) : k.tick.change = { k with present := true, counter := some k.limit, phase := 0 } := by
  unfold Carrier.tick
  split
  · rfl
  · rfl
  · split <;> rfl

/-- A channel after one ms and its sample (R62, R68, R73, R75, log 27). -/
theorem pulsed_tick (level : Bool) (old : Channel) : pulsed level old.tick =
    { old with
      filter := (old.filter.sample old.nf level).1, edge := level
      count := if changes level old ∧ level = true ∧ old.kind ≠ .unused then min 65535 (old.count + 1) else old.count
      carrier := old.carrier.map fun k =>
        if changes level old then { k with present := true, counter := some k.limit, phase := 0 } else k.tick } := by
  have hc : changes level old.tick = changes level old := rfl
  unfold pulsed
  rw [hc]
  cases h : changes level old with
  | false => simp [Ev.recorded, Channel.tick]
  | true =>
    have hcarrier : (old.carrier.map Carrier.tick).map Carrier.change =
        old.carrier.map fun k => { k with present := true, counter := some k.limit, phase := 0 } := by
      rw [Option.map_map]
      exact congrArg (fun f => old.carrier.map f) (funext Carrier.tick_change)
    cases level with
    | false => simp [Ev.recorded, Channel.tick, Channel.accept, hcarrier]
    | true =>
      by_cases hk : old.kind = .unused
      · simp [Ev.recorded, Channel.tick, Channel.accept, Channel.countOne, Channel.counting, hcarrier, hk]
      · simp [Ev.recorded, Channel.tick, Channel.accept, Channel.countOne, Channel.counting, hcarrier, hk]

theorem lostCarrier_tick (ch : Channel) : LostCarrier ch.tick ↔ LostCarrier ch := by
  have hp : ∀ k : Carrier, k.tick.present = k.present := fun k => by
    unfold Carrier.tick
    split
    · rfl
    · rfl
    · split <;> rfl
  unfold LostCarrier Channel.tick
  cases ch.carrier with
  | none => exact ⟨nofun, nofun⟩
  | some k => simp [hp]

-- ---------------------------------------------------------------- the key over its sample

/-- The key position after the sample of pin A (R65, log 5). -/
def keyAfterA (levels : Levels) (s : State) : KeyPosition := turned .a (s.field.keyA.sample 50 levels.keyA).1 s

/-- The key position after the samples of both pins (R65, log 5). -/
def keyAfter (levels : Levels) (s : State) : KeyPosition :=
  turned .b (s.field.keyB.sample 50 levels.keyB).1 (pinned .a (s.field.keyA.sample 50 levels.keyA).1 s)

theorem keyAfterA_eq (levels : Levels) (s : State) : keyAfterA levels s =
    if (s.field.keyA.sample 50 levels.keyA).1.level = s.field.keyA.level then s.key
    else keyPosition (s.field.keyA.sample 50 levels.keyA).1.level s.field.keyB.level := rfl

theorem keyAfter_eq (levels : Levels) (s : State) : keyAfter levels s =
    if (s.field.keyA.sample 50 levels.keyA).1.level = s.field.keyA.level ∧
      (s.field.keyB.sample 50 levels.keyB).1.level = s.field.keyB.level then s.key
    else keyPosition (s.field.keyA.sample 50 levels.keyA).1.level (s.field.keyB.sample 50 levels.keyB).1.level := by
  show (if (s.field.keyB.sample 50 levels.keyB).1.level = s.field.keyB.level then keyAfterA levels s else keyPosition _ _) = _
  by_cases hb : (s.field.keyB.sample 50 levels.keyB).1.level = s.field.keyB.level
  · rw [if_pos hb, keyAfterA_eq, hb]
    simp
  · rw [if_neg hb, if_neg fun h => hb h.2]
    rfl

/-- The key positions read the filters of the pins and the key position before. -/
theorem keyAfter_congr {levels : Levels} {s t : State} (ha : t.field.keyA = s.field.keyA) (hb : t.field.keyB = s.field.keyB)
    (hk : t.key = s.key) : keyAfterA levels t = keyAfterA levels s ∧ keyAfter levels t = keyAfter levels s := by
  rw [keyAfterA_eq, keyAfterA_eq, keyAfter_eq, keyAfter_eq, ha, hb, hk]
  exact ⟨rfl, rfl⟩

/-- What the samples of the key pins leave (R65, R198). -/
structure PinsSampled (levels : Levels) (e e' : Ev) : Prop where
  keeps : KeepsBut [.field, .key, .store] e.st e'.st
  field : e'.st.field = { e.st.field with keyA := (e.st.field.keyA.sample 50 levels.keyA).1
                                          keyB := (e.st.field.keyB.sample 50 levels.keyB).1 }
  key : e'.st.key = keyAfter levels e.st
  store : e'.st.store = { e.st.store with
    modeOn := modeAfter (keyAfterA levels e.st) (keyAfter levels e.st)
      (modeAfter e.st.key (keyAfterA levels e.st) e.st.store.modeOn) }
  raised : e'.raised = e.raised
  acts : e'.acts = e.acts

theorem samplePins_spec (levels : Levels) (e : Ev) : PinsSampled levels e (Ev.samplePins levels e) := by
  rw [Ev.samplePins_eq]
  exact ⟨fun b hb => by cases b <;> simp_all [Block.same, pinned], rfl, rfl, rfl, rfl, rfl⟩

-- ---------------------------------------------------------------- one ms

theorem tick_sampled (levels : Levels) (s : State) (p : GateId × Switch) :
    sampled levels s.tick.road p = sampled levels s.road p := by
  have hget : s.tick.road.gates.get p.1 = (s.road.gates.get p.1).tick := get_mapIds ..
  unfold sampled Road.switch
  rw [hget]
  obtain ⟨g, sw⟩ := p
  cases sw <;> rfl

theorem tick_channel (s : State) (c : ChanId) : s.tick.field.channels.get c = (s.field.channels.get c).tick := get_mapIds ..

theorem tick_segment (s : State) (i : SegId) : s.tick.road.segs.get i = (s.road.segs.get i).map Segment.tick := get_mapIds ..

theorem tick_holds (s : State) : HoldsStand s s.tick := fun i => by
  rw [tick_segment]
  cases s.road.segs.get i <;> rfl

theorem tick_link (s : State) (m : Link) : s.tick.links.get m = (s.links.get m).tick := by cases m <;> rfl

-- ---------------------------------------------------------------- the whole sample

/-- No end switch accepts a change (R62). -/
def NoneAccepted (levels : Levels) (s : State) : Prop := ∀ p, (sampled levels s.road p).2 = false

/-- The state within the event of a sample, before the event ends. -/
def sampledEv (levels : Levels) (s : State) : Ev := (Ev.start s.tick).sampleAll levels

theorem exec_inputSample (levels : Levels) (s : State) : exec (.inputSample levels) s = .next (sampledEv levels s).finish := rfl

/-- What the samples of all inputs leave, before the event ends. -/
structure InputsSampled (levels : Levels) (s : State) (e : Ev) : Prop where
  keeps : KeepsBut [.road, .links, .field, .key, .store] s.tick e.st
  holds : HoldsStand s e.st
  switch : ∀ p, e.st.road.switch p = (sampled levels s.road p).1
  channel : ∀ c, e.st.field.channels.get c = pulsed (levels.pulse.get c) (s.field.channels.get c).tick
  field : e.st.field = { channels := e.st.field.channels, keyA := (s.field.keyA.sample 50 levels.keyA).1
                         keyB := (s.field.keyB.sample 50 levels.keyB).1, sinceEpoch := s.field.sinceEpoch + 1 }
  key : e.st.key = keyAfter levels s
  store : e.st.store = { s.store with
    modeOn := modeAfter (keyAfterA levels s) (keyAfter levels s) (modeAfter s.key (keyAfterA levels s) s.store.modeOn) }
  gains : ∃ f g, Gains (f ||| g) s.tick e.st ∧ Within (Attn.segment ||| Attn.gate) f ∧ Within Attn.detector g ∧
    (Includes Attn.detector g ↔ ∃ c, changes (levels.pulse.get c) (s.field.channels.get c) = true ∧
      LostCarrier (s.field.channels.get c)) ∧ (NoneAccepted levels s → f = 0)

/-- The attention that the samples of the end switches set; none where no change is accepted (R43). -/
theorem sampleSwitches_gains (levels : Levels) (s : State) : ∃ f,
    Gains f s.tick (sampleSwitches levels endSwitches (Ev.start s.tick)).st ∧ Within (Attn.segment ||| Attn.gate) f ∧
      (NoneAccepted levels s → f = 0) := by
  by_cases h : NoneAccepted levels s
  · obtain ⟨v, hv, _⟩ := Ev.sampleSwitches_rejects endSwitches (Ev.start s.tick) Ev.nodup_endSwitches
      fun q _ => (congrArg Prod.snd (tick_sampled levels s q)).trans (h q)
    exact ⟨0, by rw [hv]; exact .of_eq rfl, within_zero _, fun _ => rfl⟩
  · obtain ⟨_, ⟨f, hg, hw⟩, _, _⟩ := Ev.sampleSwitches_spec levels endSwitches (Ev.start s.tick) Ev.nodup_endSwitches
    exact ⟨f, hg, hw, fun hn => absurd hn h⟩

theorem sampledEv_spec (levels : Levels) (s : State) : InputsSampled levels s (sampledEv levels s) := by
  have hsw := Ev.sampleSwitches_spec levels endSwitches (Ev.start s.tick) Ev.nodup_endSwitches
  obtain ⟨f, hf, hw, hzero⟩ := sampleSwitches_gains levels s
  unfold sampledEv
  rw [Ev.sampleAll_eq]
  generalize sampleSwitches levels endSwitches (Ev.start s.tick) = e1 at hsw hf ⊢
  have hpin := samplePins_spec levels e1
  generalize Ev.samplePins levels e1 = e2 at hpin ⊢
  have hpulse := Ev.samplePulses_spec levels (List.finRange 16) e2 (List.nodup_finRange 16)
  generalize Ev.samplePulses levels (List.finRange 16) e2 = e3 at hpulse ⊢
  have hfield1 : e1.st.field = s.tick.field := hsw.keeps .field (by simp)
  have hstore1 : e1.st.store = s.store := hsw.keeps .store (by simp)
  have hkey1 : e1.st.key = s.key := hsw.keeps .key (by simp)
  obtain ⟨hafterA, hafter⟩ := keyAfter_congr (levels := levels) (s := s) (t := e1.st) (by rw [hfield1]; rfl)
    (by rw [hfield1]; rfl) hkey1
  have hfield2 := hpin.field
  rw [hfield1] at hfield2
  have hroad : e3.st.road = e1.st.road := (hpulse.keeps .road (by simp)).trans (hpin.keeps .road (by simp))
  have hchannel : ∀ c, e2.st.field.channels.get c = (s.field.channels.get c).tick := fun c => by
    rw [hfield2]
    exact tick_channel s c
  obtain ⟨g, hg, hwg, hig⟩ := hpulse.gains
  have hgpin : Gains 0 e1.st e2.st := .of_eq (hpin.keeps .links (by simp))
  refine ⟨((hsw.keeps.mono (by simp)).trans' (hpin.keeps.mono (by simp))).trans' (hpulse.keeps.mono (by simp)), fun i => ?_,
    fun p => ?_, fun c => ?_, ?_, ?_, ?_, f, g, ?_, hw, hwg, ?_, hzero⟩
  · rw [hroad]
    exact (hsw.holds i).trans (tick_holds s i)
  · rw [hroad, hsw.switch, if_pos (Ev.mem_endSwitches p)]
    exact congrArg Prod.fst (tick_sampled levels s p)
  · rw [hpulse.channel, if_pos (List.mem_finRange c), hchannel]
  · rw [hpulse.field, hfield2]
    rfl
  · exact (hpulse.keeps .key (by simp)).trans (hpin.key.trans hafter)
  · rw [show e3.st.store = e2.st.store from hpulse.keeps .store (by simp), hpin.store, hafterA, hafter, hstore1, hkey1]
  · simpa using (hf.trans' hgpin).trans' hg
  · rw [hig]
    refine exists_congr fun c => ?_
    rw [hchannel, lostCarrier_tick]
    exact and_iff_right (List.mem_finRange c)

end Sys2Proof.Machine
end

section
/-! INPUT_SAMPLE by what its end switches accept: nothing, when the event ends in the state that the samples leave, or one change
alone, when it is the sample of the other inputs and then END_SWITCH_CHANGE (R62, R64). -/

namespace Sys2Proof.Machine

open Ev (sampled changes LostCarrier sampleSwitches samplePulses samplePins endSwitches)

-- ---------------------------------------------------------------- no change is accepted

/-- Where no end switch accepts a change the samples raise nothing, and of the road they write filters alone. -/
theorem sampledEv_quiet {levels : Levels} {s : State} (h : NoneAccepted levels s) :
    (∃ gates, (sampledEv levels s).st.road = { s.tick.road with gates := gates } ∧ ∀ g, ∃ raised lowered,
      gates.get g = { s.tick.road.gates.get g with raisedSwitch := raised, loweredSwitch := lowered }) ∧
      sampledEv levels s = Ev.start (sampledEv levels s).st := by
  obtain ⟨gates, hv, hgates⟩ := Ev.sampleSwitches_rejects endSwitches (Ev.start s.tick) Ev.nodup_endSwitches
    fun q _ => (congrArg Prod.snd (tick_sampled levels s q)).trans (h q)
  unfold sampledEv
  rw [Ev.sampleAll_eq]
  generalize sampleSwitches levels endSwitches (Ev.start s.tick) = e1 at hv ⊢
  have hpin := samplePins_spec levels e1
  generalize samplePins levels e1 = e2 at hpin ⊢
  have hpulse := Ev.samplePulses_spec levels (List.finRange 16) e2 (List.nodup_finRange 16)
  generalize samplePulses levels (List.finRange 16) e2 = e3 at hpulse ⊢
  have hraised : e3.raised = Vector.replicate 12 false := by
    rw [hpulse.raised, hpin.raised, hv]
    rfl
  have hacts : e3.acts = false := by
    rw [hpulse.acts, hpin.acts, hv]
    rfl
  have hroad : e3.st.road = e1.st.road := (hpulse.keeps .road (by simp)).trans (hpin.keeps .road (by simp))
  refine ⟨⟨gates, ?_, hgates⟩, ?_⟩
  · rw [hroad, hv]
    rfl
  · cases e3
    cases hraised
    cases hacts
    rfl

theorem sampledEv_finish {levels : Levels} {s : State} (h : NoneAccepted levels s) :
    (sampledEv levels s).finish = (sampledEv levels s).st := by
  rw [(sampledEv_quiet h).2]
  exact finish_quiet _ setIds_replicate_false rfl

/-- The gates after a sample that accepts no change (R36, R62). -/
theorem sampledEv_gate {levels : Levels} {s : State} (h : NoneAccepted levels s) (g : GateId) :
    (sampledEv levels s).st.road.gates.get g = { s.road.gates.get g with
      raisedSwitch := (sampled levels s.road (g, .raised)).1, loweredSwitch := (sampled levels s.road (g, .lowered)).1
      timer := (s.road.gates.get g).timer.map fun ms => min ((s.road.gates.get g).tMax * 1000) (ms + 1) } := by
  obtain ⟨⟨gates, hroad, hgates⟩, _⟩ := sampledEv_quiet h
  obtain ⟨raised, lowered, hg⟩ := hgates g
  have hswitch := (sampledEv_spec levels s).switch
  have htick : s.tick.road.gates.get g = (s.road.gates.get g).tick := get_mapIds ..
  rw [htick] at hg
  have hget : (sampledEv levels s).st.road.gates.get g =
      { (s.road.gates.get g).tick with raisedSwitch := raised, loweredSwitch := lowered } := by rw [hroad, hg]
  have hraised : ((sampledEv levels s).st.road.gates.get g).raisedSwitch = _ := hswitch (g, .raised)
  have hlowered : ((sampledEv levels s).st.road.gates.get g).loweredSwitch = _ := hswitch (g, .lowered)
  rw [hget] at hraised hlowered
  rw [hget, ← hraised, ← hlowered]
  rfl

-- ---------------------------------------------------------------- one change is accepted

/-- One end switch alone accepts a change. -/
structure AcceptsOne (levels : Levels) (s : State) (p : GateId × Switch) : Prop where
  accepted : (sampled levels s.road p).2 = true
  others : ∀ q, q ≠ p → (sampled levels s.road q).2 = false

/-- The levels of a sample with the level of one end switch turned. -/
structure HoldsOne (levels held : Levels) (p : GateId × Switch) : Prop where
  level : levelOf held p = !levelOf levels p
  others : ∀ q, q ≠ p → levelOf held q = levelOf levels q
  pulse : held.pulse = levels.pulse
  keyA : held.keyA = levels.keyA
  keyB : held.keyB = levels.keyB

variable {levels held : Levels} {s : State} {p : GateId × Switch}

theorem AcceptsOne.turned (h : AcceptsOne levels s p) (k : HoldsOne levels held p) : levelOf held p = (s.road.switch p).level := by
  have hne := (sample_of_accepted h.accepted).2
  rw [k.level]
  exact (Bool.eq_not.2 hne.symm).symm

theorem AcceptsOne.noneAccepted (h : AcceptsOne levels s p) (k : HoldsOne levels held p) : NoneAccepted held s := fun q => by
  by_cases hq : q = p
  · subst hq
    rw [sampled, sample_same (h.turned k)]
  · rw [sampled, k.others q hq]
    exact h.others q hq

/-- The samples are those with the level held, and then the accepted change. -/
theorem AcceptsOne.sampledEv_eq (h : AcceptsOne levels s p) (k : HoldsOne levels held p) :
    sampledEv levels s = (sampledEv held s).changeSwitch p (levelOf levels p) := by
  have htick := fun q => tick_sampled levels s q
  have hlevel : (s.tick.road.switch p).level = (s.road.switch p).level := by
    have hget : s.tick.road.gates.get p.1 = (s.road.gates.get p.1).tick := get_mapIds ..
    unfold Road.switch
    rw [hget]
    cases p.2 <;> rfl
  have hsw := Ev.sampleSwitches_single endSwitches (Ev.start s.tick) Ev.nodup_endSwitches (Ev.mem_endSwitches p)
    ((congrArg Prod.snd (htick p)).trans h.accepted) (fun q _ hq => (congrArg Prod.snd (htick q)).trans (h.others q hq))
    ((h.turned k).trans hlevel.symm) k.others
  have hpins : ∀ e, samplePins held e = samplePins levels e := fun e => by
    unfold samplePins
    rw [k.keyA, k.keyB]
  have hpulses : ∀ e, samplePulses held (List.finRange 16) e = samplePulses levels (List.finRange 16) e := fun e => by
    unfold samplePulses
    rw [k.pulse]
  unfold sampledEv
  rw [Ev.sampleAll_eq, Ev.sampleAll_eq, hsw, hpins, hpulses]
  unfold Ev.changeSwitch
  rw [Ev.samplePins_beside, Ev.samplePulses_beside]

/-- Where one end switch change alone is accepted, the sample is that of the other inputs, and then END_SWITCH_CHANGE. -/
theorem AcceptsOne.endSwitchChange (h : AcceptsOne levels s p) (k : HoldsOne levels held p) :
    ∃ u, exec (.inputSample held) s = .next u ∧
      exec (.endSwitchChange p.1 p.2 (levelOf levels p)) u = .next (sampledEv levels s).finish := by
  have hnone := h.noneAccepted k
  refine ⟨(sampledEv held s).st, (exec_inputSample held s).trans (congrArg _ (sampledEv_finish hnone)), ?_⟩
  have hfilter : ((sampledEv held s).st.road.switch p).level = (s.road.switch p).level := by
    rw [(sampledEv_spec held s).switch, sampled, sample_same (h.turned k)]
  have hne : (((sampledEv held s).st.road.gates.get p.1).switch p.2).level ≠ levelOf levels p := fun he =>
    (sample_of_accepted h.accepted).2 (he.symm.trans hfilter)
  have hstart : sampledEv levels s = (Ev.start (sampledEv held s).st).changeSwitch p (levelOf levels p) := by
    rw [← (sampledEv_quiet hnone).2]
    exact h.sampledEv_eq k
  rw [exec_endSwitchChange hne, hstart]
  rfl

end Sys2Proof.Machine
end

section
/-! INPUT_SAMPLE from end to end: what the end of its event leaves of the samples, clause by clause. -/

namespace Sys2Proof.Machine

open Ev (sampled changes LostCarrier)

-- ---------------------------------------------------------------- the table of R62 and the carrier, spelled out

/-- A sample is an accepted change of a channel: of the level last seen with NF 0, else of its filter's level (R62, R68). -/
theorem changes_eq (level : Bool) (ch : Channel) : changes level ch =
    if ch.nf = 0 then level != ch.edge else (ch.filter.sample ch.nf level).1.level != ch.filter.level := by
  unfold changes Channel.edgeDriven
  rw [sample_accepted]
  by_cases h : ch.nf = 0
  · rw [if_pos h, if_pos (beq_iff_eq.2 h)]
    rfl
  · rw [if_neg h, if_neg fun hb => h (beq_iff_eq.1 hb)]

theorem Carrier.tick_stopped {k : Carrier} (h : k.counter = none ∨ k.counter = some 0) : k.tick = k := by
  unfold Carrier.tick
  rcases h with h | h
  · rw [h]
  · rw [h]
    rfl

/-- A running carrier counter goes down by 10 ms after every tenth ms (R73, log 27). -/
theorem Carrier.tick_running {k : Carrier} {n : Nat} (h : k.counter = some (n + 1)) : k.tick =
    if k.phase + 1 < 10 then { k with phase := k.phase + 1 } else { k with counter := some (n + 1 - 10), phase := 0 } := by
  unfold Carrier.tick
  rw [h]
  by_cases hp : k.phase + 1 < 10
  · rw [if_pos hp]
    exact if_neg (by omega)
  · rw [if_neg hp]
    exact if_pos (by omega)

-- ---------------------------------------------------------------- one ms

theorem tick_keeps (s : State) : KeepsBut [.field, .road, .board, .links, .latch, .notices] s s.tick := by
  intro b hb
  cases b <;> simp_all [Block.same]

theorem tick_line_records (b : Board) : (b.setLine SignLine.tick).line.records =
    mapIds (fun _ r => { r with probe := r.probe.tick }) b.line.records := rfl

theorem tick_line_record (b : Board) (j : SignId) : (b.setLine SignLine.tick).line.records.get j =
    { b.line.records.get j with probe := (b.line.records.get j).probe.tick } := by
  rw [tick_line_records, get_mapIds]

-- ---------------------------------------------------------------- the levels that hold one switch

theorem holdsOne_raised (levels : Levels) (g : GateId) :
    HoldsOne levels { levels with raised := put levels.raised g (!levels.raised.get g) } (g, .raised) := by
  refine ⟨get_put_same .., fun q hq => ?_, rfl, rfl, rfl⟩
  obtain ⟨j, sw⟩ := q
  cases sw with
  | raised => exact get_put_other _ _ fun hj => hq (by rw [hj])
  | lowered => rfl

theorem holdsOne_lowered (levels : Levels) (g : GateId) :
    HoldsOne levels { levels with lowered := put levels.lowered g (!levels.lowered.get g) } (g, .lowered) := by
  refine ⟨get_put_same .., fun q hq => ?_, rfl, rfl, rfl⟩
  obtain ⟨j, sw⟩ := q
  cases sw with
  | raised => rfl
  | lowered => exact get_put_other _ _ fun hj => hq (by rw [hj])

-- ---------------------------------------------------------------- the end of the event

section
variable (levels : Levels) (s : State)

/-- The attention that a sample sets, and the links beside it (R43, R75, R186). -/
theorem sampled_gains : ∃ f, Gains f s.tick (sampledEv levels s).finish ∧
    Within (Attn.detector ||| Attn.segment ||| Attn.gate) f ∧
    (Includes Attn.detector f ↔ ∃ c, changes (levels.pulse.get c) (s.field.channels.get c) = true ∧
      LostCarrier (s.field.channels.get c)) ∧ (NoneAccepted levels s → Within Attn.detector f) := by
  obtain ⟨f, g, hg, hwf, hwg, hdet, hzero⟩ := (sampledEv_spec levels s).gains
  refine ⟨g ||| f, by rw [BitVec.or_comm]; exact hg.finish, ?_, ?_, fun hn => ?_⟩
  · exact (hwg.mono (by decide)).or (hwf.mono (by decide))
  · exact (includes_or_iff hwf (by decide)).trans hdet
  · rw [hzero hn]
    exact hwg.or (within_zero _)

theorem sampled_keeps : KeepsBut [.field, .road, .board, .links, .latch, .notices, .key, .store] s
    (sampledEv levels s).finish :=
  (((tick_keeps s).mono (by simp)).trans' ((sampledEv_spec levels s).keeps.mono (by simp))).trans'
    ((finish_spec (sampledEv levels s)).1.mono (by simp))

/-- What the end of the event leaves as the samples left it: every block but the road, the board and the links. -/
theorem sampled_block {b : Block} (hb : b ∉ [Block.links, .road, .board]) :
    b.same (sampledEv levels s).st (sampledEv levels s).finish := (finish_spec (sampledEv levels s)).1 b hb

theorem sampled_switch (p : GateId × Switch) : (sampledEv levels s).finish.road.switch p = (sampled levels s.road p).1 := by
  rw [← (sampledEv_spec levels s).switch p]
  unfold Road.switch
  rw [(finish_spec (sampledEv levels s)).2.1.1]

theorem sampled_holds : HoldsStand s (sampledEv levels s).finish := fun i =>
  ((finish_spec (sampledEv levels s)).2.1.holds i).trans ((sampledEv_spec levels s).holds i)

end

end Sys2Proof.Machine

open Sys2Proof Sys2Proof.Machine

/-- Settles O37: the ms and the samples one input after the other; the end of the event changes board and warning timers alone. -/
theorem inputSampleFiltersEveryInput : Obligations.InputSampleFiltersEveryInput := by
  intro levels s
  refine ⟨_, exec_inputSample levels s, ?_⟩
  intro sampled down raised lowered counted filter change accepts
  have hsampled : ∀ nf level f, sampled nf level f = (Filter.sample nf level f).1 := fun _ _ _ => (sample_filter ..).symm
  have hraised : ∀ g, raised g = (Ev.sampled levels s.road (g, .raised)).1 := fun g => hsampled ..
  have hlowered : ∀ g, lowered g = (Ev.sampled levels s.road (g, .lowered)).1 := fun g => hsampled ..
  have hfilter : ∀ c, filter c = ((s.field.channels.get c).filter.sample (s.field.channels.get c).nf (levels.pulse.get c)).1 :=
    fun c => hsampled ..
  have hcounted : ∀ k, counted k = k.tick := fun k => by
    obtain ⟨limit, present, counter, phase⟩ := k
    rcases counter with _ | n | n
    · exact (Carrier.tick_stopped (Or.inl rfl)).symm
    · exact (Carrier.tick_stopped (Or.inr rfl)).symm
    · exact (Carrier.tick_running rfl).symm
  have hchange : ∀ c, change c = Ev.changes (levels.pulse.get c) (s.field.channels.get c) := fun c => by
    rw [changes_eq, ← hfilter]
  have haccepts : ∀ p : GateId × Switch, accepts p.1 p.2 = (Ev.sampled levels s.road p).2 := fun p => by
    obtain ⟨g, sw⟩ := p
    cases sw with
    | raised => exact (congrArg (fun x : Filter => x.level != _) (hraised g)).trans (sample_accepted ..).symm
    | lowered => exact (congrArg (fun x : Filter => x.level != _) (hlowered g)).trans (sample_accepted ..).symm
  clear_value change accepts counted filter raised lowered sampled
  have hspec := sampledEv_spec levels s
  obtain ⟨f, hgain, hw, hdet, hnoneW⟩ := sampled_gains levels s
  have hblock := fun b hb => sampled_block levels s (b := b) hb
  have hfield : (sampledEv levels s).finish.field = (sampledEv levels s).st.field := hblock .field (by simp)
  have hkeyA : (sampledEv levels s).finish.field.keyA = (s.field.keyA.sample 50 levels.keyA).1 := by rw [hfield, hspec.field]
  have hkeyB : (sampledEv levels s).finish.field.keyB = (s.field.keyB.sample 50 levels.keyB).1 := by rw [hfield, hspec.field]
  have hkey : (sampledEv levels s).finish.key = keyAfter levels s := (hblock .key (by simp)).trans hspec.key
  have hnone : (∀ g sw, accepts g sw = false) → NoneAccepted levels s := fun h p => (haccepts p).symm.trans (h p.1 p.2)
  refine ⟨fun c => ?_, fun g => ?_, by rw [hkeyA, hsampled], by rw [hkeyB, hsampled], ?_, ?_, ?_, ?_, fun m => ?_, ?_, ?_,
    sampled_keeps levels s, sampled_holds levels s, fun g sw hacc hone => ?_, fun h => ?_⟩
  · rw [hfield, hspec.channel, pulsed_tick, hfilter, hchange]
    simp only [hcounted]
  · rw [hraised, hlowered]
    exact ⟨sampled_switch levels s (g, .raised), sampled_switch levels s (g, .lowered)⟩
  · rw [hkeyA, hkeyB, hkey, keyAfter_eq]
  · rw [hfield, hspec.field]
  · exact (hblock .latch (by simp)).trans (hspec.keeps .latch (by simp))
  · refine ⟨f, fun m => (hgain.attention m).trans (by rw [tick_link]; rfl), hw, hdet.trans ?_, fun h => hnoneW (hnone h)⟩
    simp only [hchange]
    rfl
  · refine ⟨(hgain.enable m).trans (by rw [tick_link]; rfl), (hgain.limit m).trans (by rw [tick_link]; rfl),
      (hgain.timer m).trans (by rw [tick_link]; rfl), (hgain.active m).trans (by rw [tick_link]; rfl),
      (hgain.receiver m).trans ?_⟩
    rw [tick_link]
    unfold LinkRecord.tick
    cases (s.links.get m).receiver <;> rfl
  · exact (hblock .notices (by simp)).trans (hspec.keeps .notices (by simp))
  · intro afterA leaves
    have hafterA : afterA = keyAfterA levels s := by
      show (if _ = _ then _ else _) = _
      rw [hkeyA, keyAfterA_eq]
    have hstore := (hblock .store (by simp)).trans hspec.store
    rw [Ev.modeAfter_twice, ← hafterA, ← hkey] at hstore
    exact hstore
  · have hone' : AcceptsOne levels s (g, sw) := ⟨(haccepts (g, sw)).symm.trans hacc, fun q hq => by
      rw [← haccepts]
      exact Bool.eq_false_iff.2 fun hq' => hq (Prod.ext (hone _ _ hq').1 (hone _ _ hq').2)⟩
    cases sw with
    | raised => exact hone'.endSwitchChange (holdsOne_raised levels g)
    | lowered => exact hone'.endSwitchChange (holdsOne_lowered levels g)
  · have hn := hnone h
    obtain ⟨⟨gates, hroad, _⟩, _⟩ := sampledEv_quiet hn
    have hboard : (sampledEv levels s).st.board = s.board.setLine SignLine.tick := hspec.keeps .board (by simp)
    rw [sampledEv_finish hn]
    refine ⟨fun i => ?_, fun g => ?_, ?_, ?_, fun j => ?_, ?_⟩
    · rw [hroad]
      exact tick_segment s i
    · rw [hraised, hlowered]
      exact sampledEv_gate hn g
    · rw [hboard]; rfl
    · rw [hboard]; rfl
    · rw [hboard, tick_line_record]
      unfold ProbeTimer.tick
      cases (s.board.line.records.get j).probe <;> rfl
    · rw [hboard]; rfl

end

section
/-! The latch word (R56 to R58): its slots and generations, what it reads as, and the completion of its writes. -/

namespace Sys2Proof.Machine

/-- A slot that holds a value under a generation (R56, R194). -/
theorem slotOf_valid (v : LatchValue) (g : Byte) : slotOf (.valid (withCheck [v.code, g])) = some (v, g) := by
  cases v <;> rfl

theorem slotOf_invalid {r : Record} (h : r = .blank ∨ ∃ b, r = .failing b) : slotOf r = none := by
  obtain rfl | ⟨b, rfl⟩ := h <;> rfl

-- Two generations are not each one above the other, modulo 256 (R56).
theorem generation_apart {g0 g1 : Byte} (h : g0 = g1 + 1) : g1 ≠ g0 + 1 := by
  bv_omega

-- ---------------------------------------------------------------- the word as the store reads it (R58)

section reading

variable {s0 s1 : Record} {v0 v1 : LatchValue} {g0 g1 : Byte}

theorem readLatchWord_both (h0 : slotOf s0 = some (v0, g0)) (h1 : slotOf s1 = some (v1, g1)) :
    readLatchWord s0 s1 = if g0 = g1 + 1 then v0 else if g1 = g0 + 1 then v1 else .latched := by
  unfold readLatchWord
  rw [h0, h1]

theorem readLatchWord_first (h0 : slotOf s0 = some (v0, g0)) (h1 : slotOf s1 = none) : readLatchWord s0 s1 = v0 := by
  unfold readLatchWord
  rw [h0, h1]

theorem readLatchWord_second (h0 : slotOf s0 = none) (h1 : slotOf s1 = some (v1, g1)) : readLatchWord s0 s1 = v1 := by
  unfold readLatchWord
  rw [h0, h1]

theorem readLatchWord_neither (h0 : slotOf s0 = none) (h1 : slotOf s1 = none) :
    readLatchWord s0 s1 = if s0 = .blank ∧ s1 = .blank then .clear else .latched := by
  unfold readLatchWord
  rw [h0, h1]

end reading

-- ---------------------------------------------------------------- the next write (R56)

/-- The next latch word write: behind a newest slot 0 into slot 1; else into slot 0, above a valid slot 1 (R56). -/
theorem nextSlot_cases (s0 s1 : Record) :
    (∃ v0 g0 v1 g1, slotOf s0 = some (v0, g0) ∧ slotOf s1 = some (v1, g1) ∧ g0 = g1 + 1 ∧ nextSlot s0 s1 = (true, g0 + 1)) ∨
    (∃ v0 g0 v1 g1, slotOf s0 = some (v0, g0) ∧ slotOf s1 = some (v1, g1) ∧ g0 ≠ g1 + 1 ∧ nextSlot s0 s1 = (false, g1 + 1)) ∨
    (∃ v0 g0, slotOf s0 = some (v0, g0) ∧ slotOf s1 = none ∧ nextSlot s0 s1 = (true, g0 + 1)) ∨
    (∃ v1 g1, slotOf s0 = none ∧ slotOf s1 = some (v1, g1) ∧ nextSlot s0 s1 = (false, g1 + 1)) ∨
    (slotOf s0 = none ∧ slotOf s1 = none ∧ nextSlot s0 s1 = (false, 0)) := by
  unfold nextSlot
  rcases slotOf s0 with _ | ⟨v0, g0⟩ <;> rcases slotOf s1 with _ | ⟨v1, g1⟩
  · simp
  · simp
  · simp
  · by_cases h : g0 = g1 + 1
    · exact Or.inl ⟨v0, g0, v1, g1, rfl, rfl, h, if_pos h⟩
    · exact Or.inr (Or.inl ⟨v0, g0, v1, g1, rfl, rfl, h, if_neg h⟩)

/-- A latch word write begins in the slot other than the newest (R56). -/
theorem beginLatchWrite_begins (v : LatchValue) (st : Store) : LatchWriteBegins v st (st.beginLatchWrite v) := by
  refine ⟨_, _, rfl, ?_⟩
  unfold newestSlot
  obtain ⟨v0, g0, v1, g1, h0, h1, ha, hn⟩ | ⟨v0, g0, v1, g1, h0, h1, ha, hn⟩ | ⟨v0, g0, h0, h1, hn⟩ | ⟨v1, g1, h0, h1, hn⟩ |
    ⟨h0, h1, hn⟩ := nextSlot_cases st.slot0 st.slot1 <;> rw [h0, h1, hn]
  · simp only [if_pos ha]
    simp
  · simp only [if_neg ha]
    by_cases hb : g1 = g0 + 1
    · simp only [if_pos hb]
      simp
    · simp only [if_neg hb]
      simp
  · simp
  · simp
  · simp

theorem requestLatchWrite_requested (v : LatchValue) (st : Store) : LatchWriteRequested v st (st.requestLatchWrite v) := by
  unfold Store.requestLatchWrite
  refine ⟨fun h => if_pos h, fun h => ?_⟩
  rw [if_neg (by simp [h])]
  exact beginLatchWrite_begins v st

-- ---------------------------------------------------------------- reading back (R56, R58)

/-- The word that the slots read as once `r` has taken the place of the slot of the next write. -/
def readBehind (s0 s1 r : Record) : LatchValue :=
  if (nextSlot s0 s1).1 then readLatchWord s0 r else readLatchWord r s1

theorem readBehind_slot1 {s0 s1 : Record} {g : Byte} (h : nextSlot s0 s1 = (true, g)) (r : Record) :
    readBehind s0 s1 r = readLatchWord s0 r := if_pos (congrArg Prod.fst h)

theorem readBehind_slot0 {s0 s1 : Record} {g : Byte} (h : nextSlot s0 s1 = (false, g)) (r : Record) :
    readBehind s0 s1 r = readLatchWord r s1 := if_neg (by rw [h]; exact Bool.false_ne_true)

/-- A completed latch word write is what the store reads next, whatever the slots hold (R56, R58). -/
theorem readBehind_written (s0 s1 : Record) (v : LatchValue) :
    readBehind s0 s1 (.valid (withCheck [v.code, (nextSlot s0 s1).2])) = v := by
  have hw := slotOf_valid v
  obtain ⟨v0, g0, v1, g1, h0, h1, _, hn⟩ | ⟨v0, g0, v1, g1, h0, h1, _, hn⟩ | ⟨v0, g0, h0, h1, hn⟩ | ⟨v1, g1, h0, h1, hn⟩ |
    ⟨h0, h1, hn⟩ := nextSlot_cases s0 s1
  · rw [readBehind_slot1 hn, hn, readLatchWord_both h0 (hw _), if_neg (generation_apart rfl), if_pos rfl]
  · rw [readBehind_slot0 hn, hn, readLatchWord_both (hw _) h1, if_pos rfl]
  · rw [readBehind_slot1 hn, hn, readLatchWord_both h0 (hw _), if_neg (generation_apart rfl), if_pos rfl]
  · rw [readBehind_slot0 hn, hn, readLatchWord_both (hw _) h1, if_pos rfl]
  · rw [readBehind_slot0 hn, hn, readLatchWord_first (hw _) h1]

/-- Where the newest slot is known, a cut write reads as the value before it (R58). -/
theorem readBehind_torn {s0 s1 : Record} (torn : List Byte)
    (hadj : ∀ v0 g0 v1 g1, slotOf s0 = some (v0, g0) → slotOf s1 = some (v1, g1) → g0 = g1 + 1 ∨ g1 = g0 + 1)
    (hsome : (slotOf s0).isSome = true ∨ (slotOf s1).isSome = true) :
    readBehind s0 s1 (.failing torn) = readLatchWord s0 s1 := by
  have ht : slotOf (.failing torn) = none := rfl
  obtain ⟨v0, g0, v1, g1, h0, h1, ha, hn⟩ | ⟨v0, g0, v1, g1, h0, h1, ha, hn⟩ | ⟨v0, g0, h0, h1, hn⟩ | ⟨v1, g1, h0, h1, hn⟩ |
    ⟨h0, h1, hn⟩ := nextSlot_cases s0 s1
  · rw [readBehind_slot1 hn, readLatchWord_both h0 h1, if_pos ha, readLatchWord_first h0 ht]
  · rw [readBehind_slot0 hn, readLatchWord_both h0 h1, if_neg ha, if_pos ((hadj _ _ _ _ h0 h1).resolve_left ha),
      readLatchWord_second ht h1]
  · rw [readBehind_slot1 hn, readLatchWord_first h0 ht, readLatchWord_first h0 h1]
  · rw [readBehind_slot0 hn, readLatchWord_second ht h1, readLatchWord_second h0 h1]
  · simp [h0, h1] at hsome

-- ---------------------------------------------------------------- the comparison at the completion of a write (R57)

/-- The comparison leaves every record and working copy: it ends a pending write, and may begin one (R57). -/
theorem settleLatch_store (p v : LatchValue) (st : Store) (h : st.inFlight = none) : st.settleLatch p v =
    { st with
      latchPending := false
      inFlight := if p = v then none
        else some (.latchSlot (nextSlot st.slot0 st.slot1).1 p (nextSlot st.slot0 st.slot1).2) } := by
  unfold Store.settleLatch
  by_cases hp : p = v
  · rw [if_pos hp, if_pos hp, ← h]
  · rw [if_neg hp, if_neg hp]
    rfl

/-- A write lands: its record, the stored value, STORE attention, and what the comparison leaves in flight (R57). -/
theorem landWrite_spec (w : StoreWrite) (v : LatchValue) (s : State) :
    let st := s.store.land w
    let t := s.landWrite w v
    KeepsBut [.links, .latch, .store] s t ∧ Gains Attn.store s t ∧ t.latch = { s.latch with stored := v } ∧
      t.store = { st with
        latchPending := false
        inFlight := if s.latch.persisted = v then none
          else some (.latchSlot (nextSlot st.slot0 st.slot1).1 s.latch.persisted (nextSlot st.slot0 st.slot1).2) } := by
  dsimp only
  let u : State := ({ s with store := s.store.land w } : State).settleLatch v
  have hkeep : KeepsBut [.links, .latch, .store] s u := by
    intro b hb
    cases b <;> first | rfl | exact ⟨rfl, rfl⟩ | exact absurd (by decide) hb
  exact ⟨hkeep.trans' ((attend_keeps Attn.store u).mono (by simp)), attend_gains Attn.store u, rfl,
    settleLatch_store s.latch.persisted v (s.store.land w) rfl⟩

end Sys2Proof.Machine

open Sys2Proof Sys2Proof.Machine

/-- Settles O25: the table of R58 row by row, then the slot of the next write behind each pair of slots. -/
theorem latchWordReadsBackItsLastWrite : Obligations.LatchWordReadsBackItsLastWrite := by
  refine ⟨fun v v0 v1 g g0 g1 r r' => ?_, fun s0 s1 v => ⟨readBehind_written s0 s1 v, fun torn hadj hsome =>
    readBehind_torn torn hadj hsome⟩⟩
  have hs := slotOf_valid
  refine ⟨rfl, fun hr => ⟨readLatchWord_first (hs v g) (slotOf_invalid hr), readLatchWord_second (slotOf_invalid hr) (hs v g)⟩,
    fun h => ?_, fun h h' => ?_, fun hr hr' hne => ?_⟩
  · rw [readLatchWord_both (hs v0 g0) (hs v1 g1), readLatchWord_both (hs v1 g1) (hs v0 g0), if_pos h,
      if_neg (generation_apart h), if_pos h]
    exact ⟨rfl, rfl⟩
  · rw [readLatchWord_both (hs v0 g0) (hs v1 g1), if_neg h, if_neg h']
  · rw [readLatchWord_neither (slotOf_invalid hr) (slotOf_invalid hr'), if_neg hne]

/-- Settles O24: the write lands in its slot, and the comparison of R57 settles what begins next. -/
theorem latchWordWriteCompletes : Obligations.LatchWordWriteCompletes := by
  intro s second v g hin
  have hexec : exec .latchWordWriteComplete s = .next (s.landWrite (.latchSlot second v g) v) := by
    show Host.Outcome.next (match s.store.inFlight with | _ => _) = _
    rw [hin]
    rfl
  obtain ⟨hkeep, hgain, hlatch, hstore⟩ := landWrite_spec (.latchSlot second v g) v s
  refine ⟨_, hexec, ?_⟩
  rw [hstore]
  refine ⟨?_, ?_, hlatch, hkeep, hgain, ?_, ?_, ?_, rfl, fun h => if_pos h, fun h => if_neg h⟩
  all_goals cases second <;> rfl

end

section
/-! The requests of the full closure latch (R50 to R55): the event of a latch change, alone or with FULL placed on or removed from
every configured segment, and the joint window. -/

namespace Sys2Proof.Machine

@[simp] theorem heardState_store (l : Link) (s : State) : (heardState l s).store = s.store :=
  heardState_keeps l s .store (by simp)

@[simp] theorem heardState_since (l : Link) (s : State) : (heardState l s).since = s.since := by
  unfold State.since
  rw [heardState_notices]

-- ---------------------------------------------------------------- a change of the latch (R55)

/-- The attention of a latch change: FULL where the state changes (R55). -/
def latchFlags (f : Latch → Latch) (s : State) : FlagSet := if (f s.latch).state = s.latch.state then 0 else Attn.full

/-- A latch change writes the latch and sets its attention (R55). -/
theorem setLatch_spec (f : Latch → Latch) (e : Ev) :
    KeepsBut [.links, .latch] e.st (e.setLatch f).st ∧ Gains (latchFlags f e.st) e.st (e.setLatch f).st := by
  have hon : KeepsBut [.links, .latch] e.st ({ e.st with latch := f e.st.latch } : State) := by
    intro b hb
    cases b <;> simp_all [Block.same]
  unfold Ev.setLatch latchFlags
  dsimp only
  by_cases h : (f e.st.latch).state = e.st.latch.state
  · rw [if_pos (by exact h), if_pos h]
    exact ⟨hon, Gains.of_eq rfl⟩
  · rw [if_neg (by exact h), if_neg h]
    exact ⟨hon.trans' ((attend_keeps Attn.full { e.st with latch := f e.st.latch }).mono (by simp)),
      attend_gains Attn.full { e.st with latch := f e.st.latch }⟩

/-- An event that changes the latch alone: no hold, gate or segment state changes and no write is requested (R52, R53). -/
theorem setLatch_finish_spec (f : Latch → Latch) (e : Ev) :
    (e.setLatch f).finish.latch = f e.st.latch ∧ KeepsBut [.links, .road, .board, .latch] e.st (e.setLatch f).finish ∧
      SameRoad e.st (e.setLatch f).finish ∧ Gains (latchFlags f e.st) e.st (e.setLatch f).finish := by
  obtain ⟨hk, hg⟩ := setLatch_spec f e
  obtain ⟨hfk, hfr, _⟩ := finish_spec (e.setLatch f)
  exact ⟨(hfk .latch (by simp)).trans (setLatch_latch f e), (hk.mono (by simp)).trans' (hfk.mono (by simp)),
    (SameRoad.of_eq (setLatch_road f e)).trans' hfr, hg.finish⟩

/-- An accepted request whose effect is such a change. -/
theorem accepted_setLatch {l : Link} {s : State} {kind : Byte} {judge : Ev → Verdict} {f : Latch → Latch} {body : List Byte}
    (h : Ready l s) (hj : judge (hearing l s) = .accept ((hearing l s).setLatch f) fun _ => body) :
    let t := takeRequest l kind judge s
    t.latch = f s.latch ∧ KeepsBut [.links, .road, .board, .latch] (heardState l s) t ∧ SameRoad (heardState l s) t ∧
      Answered l kind body (latchFlags f s) (heardState l s) t := by
  obtain ⟨hlatch, hkeep, hroad, hgain⟩ := setLatch_finish_spec f (hearing l s)
  rw [hearing_st] at hlatch hkeep hroad hgain
  rw [heardState_latch] at hlatch
  rw [show latchFlags f (heardState l s) = latchFlags f s by unfold latchFlags; rw [heardState_latch]] at hgain
  rw [takeRequest_accepted h hj]
  exact ⟨hlatch, hkeep.trans' ((startReply_answered _ _ _ _).2.mono (by simp)), hroad.trans' (SameRoad.of_eq rfl),
    hgain.answered l kind body⟩

-- ---------------------------------------------------------------- a change that enters or leaves full closure (R50, R51, R54)

/-- A latch change with a step of the road, whose persisted value is then requested to be written (R50, R56). -/
def Ev.latchRoad (f : Latch → Latch) (step : RoadCtx → RoadEv → RoadEv) (e : Ev) : Ev :=
  ((e.setLatch f).onRoad step).requestLatchWrite

/-- An accepted request with such an effect: the latch, the requested write, the flags and the segment records. -/
theorem accepted_latchRoad {l : Link} {s : State} {kind : Byte} {judge : Ev → Verdict} {f : Latch → Latch}
    {step : RoadCtx → RoadEv → RoadEv} (h : Ready l s) (hj : judge (hearing l s) = Verdict.done ((hearing l s).latchRoad f step))
    (hf : (f s.latch).state ≠ s.latch.state) (hs : ∀ ctx x, RoadEv.FlagsGrow x (step ctx x)) :
    let t := takeRequest l kind judge s
    let h := heardState l s
    t.latch = f s.latch ∧ LatchWriteRequested (f s.latch).persisted s.store t.store ∧
      KeepsBut [.links, .road, .board, .latch, .store] h t ∧
      (∃ f, Answered l kind [0x00] f h t ∧ Includes Attn.full f ∧ Within (Attn.full ||| Attn.segment ||| Attn.gate) f) ∧
      ∃ (ctx : RoadCtx) (r : RoadEv), ctx.since = s.since ∧ r.road = h.road ∧
        ∀ i sg, (step ctx r).road.segs.get i = some sg → ∃ sg', t.road.segs.get i = some sg' ∧ Confirms sg sg' := by
  dsimp only
  let u := ((hearing l s).setLatch f).st
  let r : RoadEv := { road := u.road, flags := 0, touched := Vector.replicate 8 false }
  let e := (hearing l s).latchRoad f step
  have hlatch : u.latch = f s.latch := (setLatch_latch f _).trans (by rw [hearing_st, heardState_latch])
  have hstore : u.store = s.store := ((setLatch_spec f (hearing l s)).1 .store (by simp)).trans (heardState_store l s)
  have hnotices : u.notices = s.notices := ((setLatch_spec f (hearing l s)).1 .notices (by simp)).trans (heardState_notices l s)
  have hflags : latchFlags f (heardState l s) = Attn.full := by
    unfold latchFlags
    rw [heardState_latch, if_neg hf]
  obtain ⟨hlk, hlg⟩ := setLatch_spec f (hearing l s)
  rw [hearing_st, hflags] at hlg
  obtain ⟨hroad, hrk, hrg⟩ := onRoad_spec step ((hearing l s).setLatch f)
  have hwk : KeepsBut [.store] (((hearing l s).setLatch f).onRoad step).st e.st := by
    intro b hb
    cases b <;> first | rfl | exact ⟨rfl, rfl⟩ | exact absurd (by decide) hb
  have hwg : Gains (Attn.full ||| (step u.roadCtx r).flags) (heardState l s) e.st := hlg.trans' hrg
  obtain ⟨hfk, _, _⟩ := finish_spec e
  obtain ⟨fl, hfl, hwithin⟩ := hs u.roadCtx r
  rw [takeRequest_accepted h hj]
  refine ⟨(hfk .latch (by simp)).trans hlatch, ?_, ?_, ⟨_, hwg.finish.answered l kind _, ?_, ?_⟩, u.roadCtx, r, ?_,
    setLatch_road f _, fun i sg hi => ?_⟩
  · have hst : e.finish.store = s.store.requestLatchWrite (f s.latch).persisted := by
      refine (hfk .store (by simp)).trans ?_
      rw [← hstore, ← hlatch]
      rfl
    rw [State.startReply_store, hst]
    exact requestLatchWrite_requested _ _
  · exact ((((hlk.mono (by simp)).trans' (hrk.mono (by simp))).trans' (hwk.mono (by simp))).trans' (hfk.mono (by simp))).trans'
      ((startReply_answered _ _ _ _).2.mono (by simp))
  · exact (includes_self _).or_left _
  · refine ((within_self Attn.full).mono (by decide)).or ?_
    rw [hfl]
    exact (within_zero _).or (hwithin.mono (by decide))
  · show u.since = s.since
    unfold State.since
    rw [hnotices]
  · exact (finish_confirms e).some (by rw [← hi, ← hroad]; rfl)

-- ---------------------------------------------------------------- FULL on every configured segment (R50)

/-- The arrival of FULL leads to a segment that is shut, whatever its state was (R9, R14, R20). -/
theorem places_full_shut {since : Option Nat} {reason : Option Byte} {sg a : Segment} (hn : sg.holds.entry .full = none)
    (h : Places since .full reason sg a) : a.state.shut = true := by
  unfold Places at h
  rw [hn] at h
  obtain ⟨b, hb, hc⟩ := h
  refine hc.shut ?_
  unfold Arrives at hb
  split at hb
  · next hst =>
    rw [hb]
    exact (RoadEv.arrivalState_none hst).resolve_right fun h => h.2 rfl
  · next st hst =>
    have hshut : st.shut = true := (RoadEv.arrivalState_fits hst).2.2.resolve_right fun h => h.2.2 rfl
    obtain rfl | ⟨rfl, _⟩ := hb
    · exact hshut
    · cases hshut

/-- FULL placed on every segment of a list leaves each record with its other entries; where FULL is new, it is a fresh entry and
the segment is shut (R5, R9, R50, R51). -/
theorem each_place_full {ctx : RoadCtx} {l : List SegId} {r : RoadEv} {i : SegId} {sg : Segment} (hn : l.Nodup) (hi : i ∈ l)
    (hsg : r.road.segs.get i = some sg) :
    ∃ sg', (RoadEv.each (RoadEv.place ctx .full none) l r).road.segs.get i = some sg' ∧
      (∀ k, k ≠ .full → sg'.holds.entry k = sg.holds.entry k) ∧ sg'.holds.has .full = true ∧
      (sg.holds.has .full = false → sg'.state.shut = true ∧
        sg'.holds.entry .full = some { since := ctx.since, reason := none, sources := [] }) := by
  obtain ⟨b, hb, hr⟩ := RoadEv.each_seg (RoadEv.place_self ctx .full none) (RoadEv.place_other ctx .full none) i l r sg hn hsg
  rw [if_pos hi] at hr
  obtain ⟨mid, a, h1, h2, h3⟩ := hr
  have hshut : sg.holds.entry .full = none → a.state.shut = true := fun ho =>
    places_full_shut (by rw [h1.holds, ho]) h2
  refine ⟨b, hb, ?_⟩
  unfold HoldSet.has
  unfold Places at h2
  rw [h1.holds] at h2
  rw [h3.holds]
  cases ho : sg.holds.entry .full with
  | some old =>
    rw [ho] at h2
    dsimp only at h2
    subst h2
    refine ⟨fun k hk => ?_, ?_, fun h => by simp at h⟩
    · rw [withEntry_entry, if_neg (Ne.symm hk), h1.holds]
    · rw [withEntry_entry, if_pos rfl]
      rfl
  | none =>
    rw [ho] at h2
    obtain ⟨c, hc, hca⟩ := h2
    have hh : a.holds = (withEntry .full { since := ctx.since, reason := none, sources := [] } mid).holds :=
      hca.holds.trans hc.holds
    rw [hh]
    refine ⟨fun k hk => ?_, ?_, fun _ => ⟨h3.shut (hshut ho), ?_⟩⟩
    · rw [withEntry_entry, if_neg (Ne.symm hk), h1.holds]
    · rw [withEntry_entry, if_pos rfl]
      rfl
    · rw [withEntry_entry, if_pos rfl]

/-- A shut segment that loses an entry stays shut (R7, R13). -/
theorem LeavesAt.shut {sg sg' : Segment} (h : LeavesAt sg sg') (hs : sg.state.shut = true) : sg'.state.shut = true := by
  unfold LeavesAt at h
  rw [if_neg fun hw => by rw [hw.1] at hs; cases hs] at h
  obtain h | ⟨h, _⟩ | ⟨_, h⟩ := h
  · exact h ▸ hs
  · rw [h] at hs
    cases hs
  · rw [h]
    rfl

theorem mem_configuredIds {r : Road} {i : SegId} {sg : Segment} (h : r.segs.get i = some sg) : i ∈ r.configuredIds :=
  (configuredIds_mem r i).2 (by simp [Road.configured, h])

-- ---------------------------------------------------------------- the effects by the latch state (R51, R54)

theorem fullClose_of_clear {l : Link} {s : State} (h : s.latch.state = .clear) : (hearing l s).fullClose =
    (hearing l s).latchRoad Latch.toLatched
      fun ctx => RoadEv.each (RoadEv.place ctx .full none) (heardState l s).road.configuredIds := by
  unfold Ev.fullClose
  rw [hearing_st, heardState_latch, h]
  rfl

theorem fullClose_of_proposed {l : Link} {s : State} (h : s.latch.state = .proposed) :
    (hearing l s).fullClose = (hearing l s).setLatch Latch.toLatched := by
  unfold Ev.fullClose
  rw [hearing_st, heardState_latch, h]

theorem fullClose_of_latched {l : Link} {s : State} (h : s.latch.state = .latched) : (hearing l s).fullClose = hearing l s := by
  unfold Ev.fullClose
  rw [hearing_st, heardState_latch, h]

/-- A commissioned part accepts FULL_CLOSE (R51). -/
theorem judgeFullClose_eq {l : Link} {s : State} (h : s.commissioned = true) :
    judgeFullClose (hearing l s) = Verdict.done (hearing l s).fullClose :=
  check_of_pass (by rw [hearing_st, needCommissioned_heard, if_pos h]; rfl)

/-- RELEASE_PROPOSE may come from the link (R52, R185). -/
def Entitled (l : Link) (s : State) : Prop := l = .valley ∨ (l = .avalanche ∧ s.links.valley.active = false)

theorem valleySilent_heard_avalanche (s : State) : (heardState .avalanche s).valleySilent = !s.links.valley.active :=
  congrArg not (heardState_active_other (l := .avalanche) (m := .valley) s (by decide))

/-- The proposer after the link that sent the request (R52). -/
def proposerOf (l : Link) : Proposer := if l = .valley then .valley else .avalanche

theorem judgeReleasePropose_valley (e : Ev) : judgeReleasePropose .valley e =
    Verdict.check [e.st.needCommissioned, need (e.st.latch.state != .clear) .state] fun _ =>
      Verdict.answer (e.setLatch (Latch.propose .valley)) (byte2 e.st.latch.windowLength) := rfl

theorem judgeReleasePropose_avalanche (e : Ev) : judgeReleasePropose .avalanche e =
    Verdict.check [need e.st.valleySilent .authority, e.st.needCommissioned, need (e.st.latch.state != .clear) .state] fun _ =>
      Verdict.answer (e.setLatch (Latch.propose .avalanche)) (byte2 e.st.latch.windowLength) := rfl

theorem judgeReleasePropose_denied {l : Link} {s : State} (h : ¬ Entitled l s) :
    judgeReleasePropose l (hearing l s) = Verdict.deny .authority := by
  cases l with
  | valley => exact absurd (Or.inl rfl) h
  | panel => rfl
  | avalanche =>
    have hv : s.links.valley.active = true := by simpa [Entitled] using h
    rw [judgeReleasePropose_avalanche, hearing_st, valleySilent_heard_avalanche, hv]
    rfl

/-- The two checks of the state that RELEASE_PROPOSE makes (R52). -/
theorem firstFailure_not_clear (l : Link) (s : State) :
    firstFailure [(heardState l s).needCommissioned, need ((heardState l s).latch.state != .clear) .state] =
      if s.commissioned = true ∧ s.latch.state ≠ .clear then none else some .state := by
  rw [needCommissioned_heard, heardState_latch]
  cases s.commissioned <;> cases s.latch.state <;> rfl

theorem check_ite (l : List (Option Result)) (c : Prop) [Decidable c] (r : Result) (v : Unit → Verdict)
    (h : firstFailure l = if c then none else some r) : Verdict.check l v = if c then v () else Verdict.deny r := by
  by_cases hc : c
  · rw [if_pos hc] at h ⊢
    exact check_of_pass h
  · rw [if_neg hc] at h ⊢
    exact check_of_failure h

/-- From an entitled link: those checks, then the proposal. -/
theorem judgeReleasePropose_entitled {l : Link} {s : State} (h : Entitled l s) :
    judgeReleasePropose l (hearing l s) =
      if s.commissioned = true ∧ s.latch.state ≠ .clear then
        .accept ((hearing l s).setLatch (Latch.propose (proposerOf l))) fun _ => 0x00 :: byte2 s.latch.windowLength
      else Verdict.deny .state := by
  obtain rfl | ⟨rfl, hv⟩ := h
  · rw [judgeReleasePropose_valley, hearing_st, check_ite _ _ _ _ (firstFailure_not_clear .valley s), heardState_latch]
    rfl
  · have hsilent : need (heardState .avalanche s).valleySilent .authority = none := by
      rw [valleySilent_heard_avalanche, hv]
      rfl
    rw [judgeReleasePropose_avalanche, hearing_st, check_ite _ _ _ _ (by
      rw [hsilent, firstFailure_none]
      exact firstFailure_not_clear .avalanche s), heardState_latch]
    rfl

/-- RELEASE_CONFIRM with the key in SERVICE on the panel of a commissioned part: accepted exactly while PROPOSED (R54). -/
theorem judgeReleaseConfirm_eq {s : State} (hk : s.key = .service) (hc : s.commissioned = true) :
    judgeReleaseConfirm .panel (hearing .panel s) =
      if s.latch.state = .proposed then Verdict.done (hearing .panel s).releaseFull else Verdict.deny .state := by
  have hps := needPanelService_heard .panel s
  have hcom := needCommissioned_heard .panel s
  rw [if_pos rfl, if_pos hk] at hps
  rw [if_pos hc] at hcom
  unfold judgeReleaseConfirm Verdict.check
  rw [hearing_st, hps, hcom, heardState_latch]
  cases s.latch.state <;> rfl

theorem releaseFull_eq (l : Link) (s : State) : (hearing l s).releaseFull = (hearing l s).latchRoad Latch.toClear
    fun ctx => RoadEv.each (fun i => RoadEv.deleteEntry ctx i .full) (heardState l s).road.configuredIds := rfl

end Sys2Proof.Machine

open Sys2Proof Sys2Proof.Machine

/-- Settles O20: the effect by the latch state; from CLEAR, FULL is placed on every configured segment behind the chain. -/
theorem fullCloseLatches : Obligations.FullCloseLatches := by
  intro l s hr
  refine ⟨_, rfl, fun h => ?_, fun hc hl => ?_, fun hc hl => ?_, fun hc hl => ?_⟩
  · exact refused_of_deny hr (check_of_failure (by rw [hearing_st, needCommissioned_heard, h]; rfl))
  · have hj := (judgeFullClose_eq (l := l) hc).trans (congrArg Verdict.done (fullClose_of_clear hl))
    obtain ⟨hlatch, hwrite, hkeep, hans, ctx, r, hsince, hroad, hseg⟩ := accepted_latchRoad (kind := 0x11) hr hj
      (by rw [hl]; exact nofun) fun ctx => RoadEv.each_grow (fun i => RoadEv.place_grow ctx .full none i) _
    refine ⟨hlatch, hwrite, hkeep, hans, fun i sg hi => ?_⟩
    obtain ⟨a, ha, hother, hfull, hnew⟩ := each_place_full (ctx := ctx) (nodup_idsWhere _) (mem_configuredIds hi) (hroad ▸ hi)
    obtain ⟨sg', hg, hconf⟩ := hseg i a ha
    rw [hsince] at hnew
    exact ⟨sg', hg, by rw [hconf.holds]; exact hother, by rw [hconf.holds]; exact hfull,
      by rw [hconf.holds, hconf.state]; exact hnew⟩
  · have hj := (judgeFullClose_eq (l := l) hc).trans (congrArg Verdict.done (fullClose_of_proposed hl))
    have h := accepted_setLatch (kind := 0x11) hr hj
    rwa [show latchFlags Latch.toLatched s = Attn.full from if_neg (by rw [hl]; exact nofun)] at h
  · exact takeRequest_accepted hr ((judgeFullClose_eq hc).trans (congrArg Verdict.done (fullClose_of_latched hl)))

/-- Settles O21: AUTHORITY by link, the two checks of the state, then the proposal with its full window. -/
theorem releaseProposeOpensTheWindow : Obligations.ReleaseProposeOpensTheWindow := by
  intro l s hr
  refine ⟨_, rfl, fun h => ?_, fun h hc => ?_, fun h _ hl => ?_, fun h hc hl => ?_, fun m => ?_⟩
  · exact refused_of_deny hr (judgeReleasePropose_denied h)
  · exact refused_of_deny hr ((judgeReleasePropose_entitled h).trans (if_neg (by simp [hc])))
  · exact refused_of_deny hr ((judgeReleasePropose_entitled h).trans (if_neg (by simp [hl])))
  · have h := accepted_setLatch (kind := 0x12) hr ((judgeReleasePropose_entitled h).trans (if_pos ⟨hc, hl⟩))
    have hflags : latchFlags (Latch.propose (proposerOf l)) s = if s.latch.state = .latched then Attn.full else 0 := by
      unfold latchFlags Latch.propose
      cases hst : s.latch.state <;> first | rfl | exact absurd hst hl
    rwa [hflags] at h
  · exact (afterHearing_spec m s).1 .latch (by simp)

/-- Settles O22: the checks of R54 in their order, then FULL leaves every configured segment. -/
theorem releaseConfirmClears : Obligations.ReleaseConfirmClears := by
  intro l s hr
  have hps := needPanelService_heard l s
  have hcom := needCommissioned_heard l s
  refine ⟨_, rfl, fun h => ?_, fun h1 h2 => ?_, fun h1 h2 h3 => ?_, fun h1 h2 h3 h4 => ?_, fun h1 h2 h3 h4 => ?_⟩
  · exact refused_of_deny hr (check_of_failure (by rw [hearing_st, hps]; simp [h]))
  · exact refused_of_deny hr (check_of_failure (by rw [hearing_st, hps]; simp [h1, h2]))
  · exact refused_of_deny hr (check_of_failure (by rw [hearing_st, hps, hcom]; simp [h1, h2, h3]))
  · subst h1
    exact refused_of_deny hr ((judgeReleaseConfirm_eq h2 h3).trans (if_neg h4))
  · subst h1
    have hj := (judgeReleaseConfirm_eq h2 h3).trans (if_pos h4)
    obtain ⟨hlatch, hwrite, hkeep, hans, ctx, r, _, hroad, hseg⟩ := accepted_latchRoad (kind := 0x13) hr hj
      (by rw [h4]; exact nofun) fun ctx => RoadEv.each_grow (fun i => RoadEv.deleteEntry_grow ctx i .full) _
    refine ⟨hlatch, hwrite, hkeep, hans, fun i sg hi => ?_⟩
    obtain ⟨sg', hg, hent, hleave⟩ := removed_becomes (ctx := ctx) (nodup_idsWhere _) hroad hseg i sg hi
    have hmem : i ∈ (hearing .panel s).segs := mem_configuredIds hi
    exact ⟨sg', hg, fun k => by rw [hent]; exact if_congr (and_iff_left hmem) rfl rfl, hleave, hleave.shut⟩

/-- Settles O23: the expiry is a latch change alone; the three requests that may meet it act as O20 to O22 say. -/
theorem jointWindowExpires : Obligations.JointWindowExpires := by
  intro s
  refine ⟨fun hl hw => ?_, fun h => ?_, fun hl hc hk hr => ?_, fun hl hc hk hr => ?_, fun hl hc hr => ?_, fun l hl hc hr => ?_,
    fun l hl hc hr => ?_⟩
  · have hexec : exec .jointWindowExpiry s = .next ((Ev.start s).setLatch Latch.toLatched).finish := by
      have hdue : s.latch.windowDue = true := by simp [Latch.windowDue, due_iff, hl, hw]
      exact congrArg Host.Outcome.next (if_pos hdue)
    have h := setLatch_finish_spec Latch.toLatched (Ev.start s)
    rw [start_st, show latchFlags Latch.toLatched s = Attn.full from if_neg (by rw [hl]; exact nofun)] at h
    exact ⟨_, hexec, h⟩
  · have hdue : ¬ s.latch.windowDue = true := by
      rw [Latch.windowDue, Bool.and_eq_true, due_iff, beq_iff_eq]
      rintro ⟨hs, hw⟩
      obtain h | h := h
      · exact h hs
      · rw [h] at hw
        cases hw
    exact congrArg Host.Outcome.next (if_neg hdue)
  · obtain ⟨t, ht, _, _, _, hstate, _⟩ := releaseConfirmClears .panel s hr
    exact ⟨t, ht, hstate rfl hk hc (by rw [hl]; exact nofun)⟩
  · obtain ⟨t, ht, _, _, _, _, hacc⟩ := releaseConfirmClears .panel s hr
    obtain ⟨hlatch, _⟩ := hacc rfl hk hc hl
    exact ⟨t, ht, by rw [hlatch], by rw [hlatch]⟩
  · obtain ⟨t, ht, _, _, _, hacc, _⟩ := releaseProposeOpensTheWindow .valley s hr
    obtain ⟨hlatch, _⟩ := hacc (Or.inl rfl) hc (by obtain h | h := hl <;> rw [h] <;> exact nofun)
    exact ⟨t, ht, by rw [hlatch], by rw [hlatch]⟩
  · obtain ⟨t, ht, _, _, _, hlatched⟩ := fullCloseLatches l s hr
    rw [ht, hlatched hc hl]
  · obtain ⟨t, ht, _, _, hacc, _⟩ := fullCloseLatches l s hr
    obtain ⟨hlatch, _⟩ := hacc hc hl
    exact ⟨t, ht, by rw [hlatch], by rw [hlatch]⟩

end

section
/-! Recomposition of the desired pages after a change of the library (R154), and the completions of record writes and of an
erase (R57, R195, R197). -/

namespace Sys2Proof.Machine

-- ---------------------------------------------------------------- recomposition (R154, R170)

/-- The codes of a desired page change under `codes` (R154). -/
def repaged (codes : Desired → List Byte) (sign : Sign) : Bool := sign.desired.any fun d => !(codes d == d.codes)

/-- The sign record with its desired page composed again (R154). -/
def Sign.recomposed (codes : Desired → List Byte) (sign : Sign) : Sign :=
  { sign with desired := sign.desired.map fun d => { d with codes := codes d, sum := byteSum (codes d) }
              contentMark := true, needs := true }

/-- A transfer with a change pending where its sign is of the list and its page changes (R170). -/
def Transfer.recomposed (codes : Desired → List Byte) (l : List SignId) (b : Board) (t : Transfer) : Transfer :=
  if t.target ∈ l ∧ repaged codes (b.signs.get t.target) = true then { t with changePending := true } else t

/-- The signs of a list have been composed again, the others not yet. -/
structure RecomposedAt (codes : Desired → List Byte) (l : List SignId) (e e' : BoardEv) : Prop where
  flags : e'.flags = e.flags
  handed : e'.handed = e.handed
  pageMap : e'.board.pageMap = e.board.pageMap
  sign : ∀ j, e'.board.signs.get j = if j ∈ l ∧ repaged codes (e.board.signs.get j) = true
    then (e.board.signs.get j).recomposed codes else e.board.signs.get j
  line : e'.board.line =
    { e.board.line with transfer := e.board.line.transfer.map (Transfer.recomposed codes l e.board) }

/-- The codes that a recomposition of the pages of a test gives (R154). -/
def codesWhere (st : Store) (p : Nat → Bool) (d : Desired) : List Byte :=
  if p d.ref.page = true then compose (st.readPage d.ref.page) d.ref else d.codes

/-- The step of a recomposition at one sign. -/
def recomposeAt (st : Store) (p : Nat → Bool) (e : BoardEv) (i : SignId) : BoardEv :=
  match (e.board.signs.get i).desired with
  | some d => if p d.ref.page then BoardEv.recompose st i e else e
  | none => e

theorem judgeNeeds_marked (d : Desired) (r : LineRecord) (needs : Bool) : judgeNeeds d true r needs = true := by
  unfold judgeNeeds matchesConfirmed
  cases r.confirmed <;> simp

section
variable {codes : Desired → List Byte} {i : SignId} {l : List SignId} {e e' e'' : BoardEv}

theorem RecomposedAt.of_same (h : ∀ j ∈ l, repaged codes (e.board.signs.get j) = false) : RecomposedAt codes l e e := by
  have hnot : ∀ j, ¬ (j ∈ l ∧ repaged codes (e.board.signs.get j) = true) := fun j hj => by
    rw [h j hj.1] at hj
    exact Bool.false_ne_true hj.2
  refine ⟨rfl, rfl, rfl, fun j => (if_neg (hnot j)).symm, ?_⟩
  have hid : Transfer.recomposed codes l e.board = id := funext fun t => if_neg (hnot t.target)
  rw [hid, Option.map_id_fun]
  rfl

theorem RecomposedAt.cons (hi : i ∉ l) (h : RecomposedAt codes [i] e e') (k : RecomposedAt codes l e' e'') :
    RecomposedAt codes (i :: l) e e'' := by
  have hsame : ∀ j, j ≠ i → e'.board.signs.get j = e.board.signs.get j := fun j hj => by
    rw [h.sign, if_neg fun hm => hj (List.mem_singleton.1 hm.1)]
  refine ⟨k.flags.trans h.flags, k.handed.trans h.handed, k.pageMap.trans h.pageMap, fun j => ?_, ?_⟩
  · rw [k.sign]
    by_cases hj : j = i
    · subst hj
      rw [if_neg fun hm => hi hm.1, h.sign]
      simp
    · rw [hsame j hj]
      simp [hj]
  · rw [k.line, h.line]
    simp only [Option.map_map]
    congr 2
    funext t
    unfold Function.comp Transfer.recomposed
    by_cases hj : t.target = i
    · by_cases hc : repaged codes (e.board.signs.get i) = true <;> simp [hj, hi, hc]
    · simp [hj, hsame t.target hj]

end

theorem recomposeAt_spec (st : Store) (p : Nat → Bool) (e : BoardEv) (i : SignId) :
    RecomposedAt (codesWhere st p) [i] e (recomposeAt st p e i) := by
  have hstay : repaged (codesWhere st p) (e.board.signs.get i) = false → RecomposedAt (codesWhere st p) [i] e e := fun h =>
    .of_same fun j hj => by rwa [List.mem_singleton.1 hj]
  unfold recomposeAt
  cases hd : (e.board.signs.get i).desired with
  | none => exact hstay (by unfold repaged; rw [hd]; rfl)
  | some d =>
    dsimp only
    split
    · next hp =>
      have hcodes : codesWhere st p d = compose (st.readPage d.ref.page) d.ref := if_pos hp
      unfold BoardEv.recompose
      dsimp only
      rw [hd]
      dsimp only
      rw [← hcodes]
      split
      · next hsame => exact hstay (by unfold repaged; rw [hd]; simp [hsame])
      · next hne =>
        have hchange : repaged (codesWhere st p) (e.board.signs.get i) = true := by
          unfold repaged
          rw [hd]
          simpa using hne
        refine ⟨rfl, rfl, rfl, fun j => ?_, ?_⟩
        · refine (get_alter e.board.signs i j _).trans ?_
          by_cases hj : i = j
          · subst hj
            rw [if_pos rfl, if_pos ⟨List.mem_singleton.2 rfl, hchange⟩, Sign.recomposed, hd, judgeNeeds_marked]
            rfl
          · rw [if_neg hj, if_neg fun hm => hj (List.mem_singleton.1 hm.1).symm]
        · have hmark : Transfer.recomposed (codesWhere st p) [i] e.board = fun t =>
              if t.target = i then { t with changePending := true } else t := by
            funext t
            refine if_congr ⟨fun hm => List.mem_singleton.1 hm.1, fun hj => ⟨List.mem_singleton.2 hj, ?_⟩⟩ rfl rfl
            rw [hj]
            exact hchange
          rw [hmark]
          rfl
    · next hp => exact hstay (by unfold repaged codesWhere; rw [hd]; simp [hp])

theorem foldl_recomposeAt (st : Store) (p : Nat → Bool) : ∀ (l : List SignId) (e : BoardEv), l.Nodup →
    RecomposedAt (codesWhere st p) l e (l.foldl (recomposeAt st p) e)
  | [], _, _ => .of_same nofun
  | i :: l, e, hn => by
    obtain ⟨hi, hl⟩ := List.nodup_cons.1 hn
    exact .cons hi (recomposeAt_spec st p e i) (foldl_recomposeAt st p l _ hl)

theorem recomposeWhere_eq (st : Store) (p : Nat → Bool) (e : BoardEv) :
    BoardEv.recomposeWhere st p e = (List.finRange 12).foldl (recomposeAt st p) e := by
  unfold BoardEv.recomposeWhere recomposeAt
  rfl

/-- The board after a recomposition, and that it hands no sign on and sets no flag (R154). -/
theorem recomposeWhere_spec (st : Store) (p : Nat → Bool) (b : Board) :
    let e := BoardEv.recomposeWhere st p (BoardEv.start b)
    Recomposed (codesWhere st p) b e.board ∧ e.handed = Vector.replicate 12 false ∧ e.flags = 0 := by
  dsimp only
  rw [recomposeWhere_eq]
  have h := foldl_recomposeAt st p (List.finRange 12) (BoardEv.start b) (List.nodup_finRange 12)
  generalize codesWhere st p = codes at h ⊢
  refine ⟨⟨h.pageMap, fun j => ?_, ?_⟩, h.handed, h.flags⟩
  · exact (h.sign j).trans (if_congr (and_iff_right (List.mem_finRange j)) rfl rfl)
  · have hall : Transfer.recomposed codes (List.finRange 12) b = fun t =>
        if repaged codes (b.signs.get t.target) = true then { t with changePending := true } else t :=
      funext fun t => if_congr (and_iff_right (List.mem_finRange t.target)) rfl rfl
    refine h.line.trans ?_
    show ({ b.line with transfer := b.line.transfer.map (Transfer.recomposed codes (List.finRange 12) b) } : SignLine) = _
    rw [hall]
    rfl

/-- The pages of a test have been rewritten: the board is composed again and the arbiter acts, and nothing else changes (R154). -/
theorem rewritten_spec (p : Nat → Bool) (s : State) :
    KeepsBut [.links, .board] s (s.rewritten p) ∧ Gains 0 s (s.rewritten p) ∧
      ∃ board, Recomposed (codesWhere s.store p) s.board board ∧ (s.rewritten p).board = board.arbitrate := by
  obtain ⟨hrec, hhanded, hflags⟩ := recomposeWhere_spec s.store p s.board
  obtain ⟨hkeep, _, hboard, hgain⟩ := lineStep_spec (BoardEv.recomposeWhere s.store p) s
  rw [hflags] at hgain
  exact ⟨hkeep.of_road (lineStep_quiet hhanded), hgain, _, hrec, hboard⟩

theorem readPage_valid {st : Store} {n : Fin 128} {b : List Byte} (h : st.library.get n = .valid b) :
    st.readPage n.val = b.take 80 := by
  unfold Store.readPage Store.pageCodes
  rw [dif_pos n.isLt, h]
  rfl

theorem readPage_blank {st : Store} (h : ∀ n, st.library.get n = .blank) (page : Nat) :
    st.readPage page = List.replicate 80 32 := by
  unfold Store.readPage Store.pageCodes
  split
  · rw [h]
    rfl
  · rfl

-- ---------------------------------------------------------------- a write that lands and rewrites pages

/-- A write lands and the pages of a test are composed again (R57, R154). -/
theorem landed_rewritten_spec (w : StoreWrite) (v : LatchValue) (p : Nat → Bool) (s : State) :
    let u := s.landWrite w v
    let t := u.rewritten p
    KeepsBut [.store, .links, .latch, .board] s t ∧ Gains Attn.store s t ∧ t.latch = u.latch ∧ t.store = u.store ∧
      ∃ board, Recomposed (codesWhere u.store p) s.board board ∧ t.board = board.arbitrate := by
  obtain ⟨hkeep, hgain, _, _⟩ := landWrite_spec w v s
  obtain ⟨hrk, hrg, board, hrec, hboard⟩ := rewritten_spec p (s.landWrite w v)
  have hb : (s.landWrite w v).board = s.board := hkeep .board (by simp)
  have hg := hgain.trans' hrg
  rw [show Attn.store ||| 0 = Attn.store from rfl] at hg
  exact ⟨(hkeep.mono (by simp)).trans' (hrk.mono (by simp)), hg, hrk .latch (by simp), hrk .store (by simp), board,
    hb ▸ hrec, hboard⟩

theorem KeepsBut.drop_latch {l : List Block} {s t : State} (h : KeepsBut (.latch :: l) s t) (hl : t.latch = s.latch) :
    KeepsBut l s t := fun b hb => by
  by_cases hbl : b = .latch
  · subst hbl
    exact hl
  · exact h b (by simp [hbl, hb])

-- ---------------------------------------------------------------- requests on the panel that change the store

/-- A frame on the panel link releases nothing (R25). -/
theorem not_releases_panel (s : State) : ¬ Releases .panel s := by
  rintro ⟨_, _, ⟨h, _⟩ | ⟨h, _⟩⟩ <;> cases h

/-- The event of a frame on the panel link has nothing to select. -/
theorem hearing_panel (s : State) : hearing .panel s = Ev.start (s.hear .panel) :=
  hearing_of_not_releases (not_releases_panel s)

/-- An accepted request on the panel link whose effect is a change of the store. -/
theorem accepted_onStore {s : State} {kind : Byte} {judge : Ev → Verdict} {f : Store → Store} (h : Ready .panel s)
    (hj : judge (hearing .panel s) = Verdict.done ((hearing .panel s).onStore f)) :
    let t := takeRequest .panel kind judge s
    Answered .panel kind [0x00] 0 (heardState .panel s) t ∧ KeepsBut [.links, .store] (heardState .panel s) t ∧
      t.store = f s.store := by
  let u : State := { heardState .panel s with store := f (heardState .panel s).store }
  have hfin : ((hearing .panel s).onStore f).finish = u :=
    finish_quiet _ (hearing_raised_none (not_releases_panel s)) (hearing_acts .panel s)
  have hkeep : KeepsBut [.links, .store] (heardState .panel s) u := by
    intro b hb
    cases b <;> first | rfl | exact ⟨rfl, rfl⟩ | exact absurd (by decide) hb
  have hgain : Gains 0 (heardState .panel s) u := Gains.of_eq rfl
  rw [takeRequest_accepted h hj, hfin]
  exact ⟨hgain.answered .panel kind _, hkeep.trans' ((startReply_answered _ _ _ _).2.mono (by simp)),
    congrArg f (heardState_store .panel s)⟩

/-- The store is busy while a write is in flight or a latch word write is pending (R195). -/
theorem busy_iff (st : Store) : st.busy = true ↔ st.inFlight.isSome = true ∨ st.latchPending = true := by
  simp [Store.busy]

end Sys2Proof.Machine

open Sys2Proof Sys2Proof.Machine

/-- Settles O27: each write lands alike; a rewritten page is composed again for the signs that name it. -/
theorem storeWriteCompletes : Obligations.StoreWriteCompletes := by
  intro s settled
  have hexec : exec .storeWriteComplete s = .next (match s.store.inFlight with
      | some (.description n b) => s.landWrite (.description n b) s.latch.stored
      | some (.library n b) => (s.landWrite (.library n b) s.latch.stored).rewritten fun p => p == n.val
      | some (.control b) => s.landWrite (.control b) s.latch.stored
      | _ => s) := rfl
  refine ⟨fun n b hin => ?_, fun b hin => ?_, fun n b hin => ?_⟩
  · obtain ⟨hkeep, hgain, hlatch, hstore⟩ := landWrite_spec (.description n b) s.latch.stored s
    refine ⟨_, by rw [hexec, hin], ⟨hlatch, hgain, ?_⟩, (hkeep.mono (by simp)).drop_latch hlatch, ?_⟩ <;> rw [hstore] <;>
      simp [Store.land, Store.writeRecord]
  · obtain ⟨hkeep, hgain, hlatch, hstore⟩ := landWrite_spec (.control b) s.latch.stored s
    refine ⟨_, by rw [hexec, hin], ⟨hlatch, hgain, ?_⟩, (hkeep.mono (by simp)).drop_latch hlatch, ?_⟩ <;> rw [hstore] <;>
      simp [Store.land, Store.writeRecord]
  · obtain ⟨_, _, hlatch, hstore⟩ := landWrite_spec (.library n b) s.latch.stored s
    obtain ⟨hkeep, hgain, hl, hst, board, hrec, hboard⟩ :=
      landed_rewritten_spec (.library n b) s.latch.stored (fun p => p == n.val) s
    have hcodes : codesWhere (s.landWrite (.library n b) s.latch.stored).store (fun p => p == n.val) =
        fun d => if d.ref.page = n.val then compose (b.take 80) d.ref else d.codes := by
      funext d
      unfold codesWhere
      by_cases hp : d.ref.page = n.val
      · rw [if_pos (by simp [hp]), if_pos hp, hp, readPage_valid (by rw [hstore]; exact get_put_same ..)]
      · rw [if_neg (by simp [hp]), if_neg hp]
    rw [hcodes] at hrec
    rw [hlatch] at hl
    refine ⟨_, by rw [hexec, hin], ⟨hl, hgain, ?_⟩, (hkeep.mono (by simp)).drop_latch hl, ?_⟩ <;> rw [hst, hstore]
    · simp [Store.land, Store.writeRecord]
    · exact ⟨rfl, rfl, rfl, board, hrec, hboard⟩

/-- Settles O30: the checks of R197 in their order; an erase that lands leaves blank slots and pages of 80 spaces. -/
theorem eraseBlanksTheStore : Obligations.EraseBlanksTheStore := by
  refine ⟨fun l s hr => ?_, fun s hin => ?_⟩
  · have hps := needPanelService_heard l s
    refine ⟨_, rfl, fun h => ?_, fun h1 h2 => ?_, fun h1 h2 h3 => ?_, fun h1 h2 h3 h4 => ?_, fun h1 h2 h3 h4 => ?_⟩
    · exact refused_of_deny hr (check_of_failure (by rw [hearing_st, hps]; simp [h]))
    · exact refused_of_deny hr (check_of_failure (by rw [hearing_st, hps]; simp [h1, h2]))
    · exact refused_of_deny hr (check_of_failure (by rw [hearing_st, hps, heardState_store]; simp [h1, h2, h3]))
    · have hb : s.store.busy = true := (busy_iff _).2 h4
      exact refused_of_deny hr (check_of_failure (by rw [hearing_st, hps, heardState_store]; simp [h1, h2, h3, hb]))
    · have hb : s.store.busy = false := Bool.eq_false_iff.2 fun hb => h4 ((busy_iff _).1 hb)
      subst h1
      exact accepted_onStore (f := Store.beginErase) hr (check_of_pass (by
        rw [hearing_st, hps, heardState_store]
        simp [h2, h3, hb]))
  · obtain ⟨_, _, hlatch, hstore⟩ := landWrite_spec .erase .clear s
    obtain ⟨hkeep, hgain, hl, hst, board, hrec, hboard⟩ := landed_rewritten_spec .erase .clear (fun _ => true) s
    have hcodes : codesWhere (s.landWrite .erase .clear).store (fun _ => true) =
        fun d => compose (List.replicate 80 32) d.ref := by
      funext d
      exact (if_pos rfl).trans (by rw [readPage_blank fun n => by rw [hstore]; exact get_replicate ..])
    rw [hcodes] at hrec
    have hexec : exec .eraseComplete s = .next ((s.landWrite .erase .clear).rewritten fun _ => true) := by
      show Host.Outcome.next (match s.store.inFlight with | _ => _) = _
      rw [hin]
    have hflight : (if s.latch.persisted = .clear then none else some (StoreWrite.latchSlot (nextSlot .blank .blank).1 s.latch.persisted
        (nextSlot .blank .blank).2)) = if s.latch.state = .clear then none else some (StoreWrite.latchSlot false .latched 0) := by
      unfold Latch.persisted
      cases s.latch.state <;> rfl
    refine ⟨_, hexec, hkeep.mono (by simp), hgain, hl.trans hlatch, ?_⟩
    rw [hst, hstore]
    exact ⟨fun i => get_replicate .., fun i => get_replicate .., rfl, rfl, rfl, rfl, rfl, rfl, rfl, rfl, rfl, hflight, board, hrec,
      hboard⟩

end

section
/-! The load checks of R200 as the layouts of R194 spell them, and the relations between records that the load reads (R2, R80,
R101, R194). -/

namespace Sys2Proof.Machine

-- ---------------------------------------------------------------- relations between records

/-- The listing segments of a gate are those that its record names (R29, R194). -/
theorem listing_eq (st : Store) (g : GateId) : st.listing g = (List.finRange 8).filter (namesSegment st g) := by
  unfold Store.listing idsWhere
  congr 1
  funext i
  unfold namesSegment Store.gateNames Store.gateRec
  dsimp only
  split
  · next h => simp [h, Bool.beq_eq_decide_eq, eq_comm]
  · next h => simp [h, Bool.beq_eq_decide_eq, eq_comm]

theorem mem_listing {st : Store} {g : GateId} {i : SegId} : i ∈ st.listing g ↔ namesSegment st g i = true := by
  rw [listing_eq]
  simp

theorem gatesOf_eq (st : Store) (i : SegId) : st.gatesOf i = (List.finRange 6).filter fun g => namesSegment st g i := by
  unfold Store.gatesOf idsWhere
  congr 1
  funext g
  rw [Bool.eq_iff_iff, List.contains_iff_mem, mem_listing]

theorem exposes_eq (st : Store) (z : ZoneId) (i : SegId) : st.exposes z i = exposesSegment st z i := by
  unfold Store.exposes exposesSegment Store.zoneRec
  rw [BitVec.getLsbD_ofNat]
  simp

theorem defined_iff (st : Store) (i : SegId) : st.defined i = true ↔ at1 (st.desc (1 + i.val)) 0 = 1 := by
  unfold Store.defined Store.segRec
  exact beq_iff_eq

theorem siteUsed_iff (st : Store) (t : SiteId) : st.siteUsed t = true ↔ InUse st t := by
  unfold Store.siteUsed InUse describedChannels Store.chanRec
  simp only [anyId_iff, within, Bool.and_eq_true, decide_eq_true_eq, beq_iff_eq, InRange, ne_eq, List.filter_eq_nil_iff,
    List.mem_finRange, true_imp_iff, not_forall, not_not]
  constructor
  · rintro ⟨c, hkind, howner⟩
    exact ⟨_, hkind, c, rfl, howner⟩
  · rintro ⟨_, hkind, c, rfl, howner⟩
    exact ⟨c, hkind, howner⟩

theorem siteOfSeg_iff (st : Store) (i : SegId) (t : SiteId) : st.siteOfSeg i = some t ↔ at1 (st.desc (1 + i.val)) 3 = t.val := by
  unfold Store.siteOfSeg Store.segRec
  dsimp only
  split
  · simp [Fin.ext_iff]
  · next h =>
    have := t.isLt
    simp
    omega

-- ---------------------------------------------------------------- the fields of a record by its table (R194)

theorem descValid_iff (st : Store) (n : Fin 53) : st.descValid n.val = true ↔ ∃ b, st.description.get n = .valid b := by
  have hrec : st.record 0 n.val = some (st.description.get n) := by
    unfold Store.record
    rw [if_pos rfl, dif_pos n.isLt]
  unfold Store.descValid
  rw [hrec]
  cases st.description.get n <;> simp

theorem all_range_iff {n : Nat} (p : Nat → Bool) : (List.range n).all p = true ↔ ∀ i : Fin n, p i.val = true := by
  simp [Fin.forall_iff]

section fields
variable {st : Store} (h : ∀ n : Fin 53, FieldsInRange n.val (st.desc n.val))
include h

theorem corridorFields_at : CorridorFields (st.desc 0) := h 0

theorem segmentFields_at (i : SegId) : SegmentFields (st.desc (1 + i.val)) := by
  have hf : FieldsInRange (1 + i.val) _ := h ⟨1 + i.val, by omega⟩
  unfold FieldsInRange at hf
  rwa [if_neg (by omega), if_pos (by omega)] at hf

theorem gateFields_at (g : GateId) : GateFields (st.desc (9 + g.val)) := by
  have hf : FieldsInRange (9 + g.val) _ := h ⟨9 + g.val, by omega⟩
  unfold FieldsInRange at hf
  rwa [if_neg (by omega), if_neg (by omega), if_pos (by omega)] at hf

theorem signFields_at (j : SignId) : SignFields (st.desc (15 + j.val)) := by
  have hf : FieldsInRange (15 + j.val) _ := h ⟨15 + j.val, by omega⟩
  unfold FieldsInRange at hf
  rwa [if_neg (by omega), if_neg (by omega), if_neg (by omega), if_pos (by omega)] at hf

theorem channelFields_at (c : ChanId) : ChannelFields (st.desc (33 + c.val)) := by
  have hf : FieldsInRange (33 + c.val) _ := h ⟨33 + c.val, by omega⟩
  unfold FieldsInRange at hf
  rwa [if_neg (by omega), if_neg (by omega), if_neg (by omega), if_neg (by omega), if_neg (by omega),
    if_pos (by omega)] at hf

theorem siteFields_at (t : SiteId) : SiteFields (st.desc (49 + t.val)) := by
  have hf : FieldsInRange (49 + t.val) _ := h ⟨49 + t.val, by omega⟩
  unfold FieldsInRange at hf
  rwa [if_neg (by omega), if_neg (by omega), if_neg (by omega), if_neg (by omega), if_neg (by omega), if_neg (by omega)] at hf

end fields

-- ---------------------------------------------------------------- the checks (R200)

/-- A number in the range of segments names a defined one (R200). -/
theorem names_defined {st : Store} {n : Nat} (hn : n < 8) :
    (match idOf 8 (BitVec.ofNat 8 n) with | some i => st.defined i | none => false) = true ↔
      ∀ i : SegId, n = i.val → at1 (st.desc (1 + i.val)) 0 = 1 := by
  rw [idOf_ofNat ⟨n, hn⟩]
  simp only [defined_iff]
  constructor
  · rintro h i rfl
    exact h
  · exact fun h => h ⟨n, hn⟩ rfl

/-- Two names in the range of segments are listed twice or once (R29). -/
theorem two_names_length : ∀ a b : SegId,
    ((List.finRange 8).filter fun i => [a.val, b.val].contains i.val).length = if a = b then 1 else 2 := by
  decide

theorem one_name_length : ∀ a : SegId, ((List.finRange 8).filter fun i => [a.val].contains i.val).length = 1 := by decide

/-- The check of one gate: distinct defined segments (R200). -/
theorem gateCheck_iff {st : Store} {g : GateId} (hf : GateFields (st.desc (9 + g.val))) :
    ((Store.gateNames (st.gateRec g)).all
        (fun n => match idOf 8 (BitVec.ofNat 8 n) with | some i => st.defined i | none => false) &&
      ((Store.gateNames (st.gateRec g)).length == (st.listing g).length)) = true ↔
    (at1 (st.desc (9 + g.val)) 0 = 2 → at1 (st.desc (9 + g.val)) 1 ≠ at1 (st.desc (9 + g.val)) 2) ∧
      ∀ i, namesSegment st g i = true → at1 (st.desc (1 + i.val)) 0 = 1 := by
  obtain ⟨hcount, hfirst, _⟩ := hf
  have hlisting : st.listing g = (List.finRange 8).filter fun i => (Store.gateNames (st.gateRec g)).contains i.val := rfl
  have hfirst' : at1 (st.desc (9 + g.val)) 1 < 8 := by omega
  rw [hlisting, Bool.and_eq_true, List.all_eq_true, beq_iff_eq, and_comm]
  unfold Store.gateNames Store.gateRec namesSegment
  dsimp only
  obtain ⟨hone, _⟩ | ⟨htwo, hsecond⟩ := hcount
  · have hlen := one_name_length ⟨_, hfirst'⟩
    rw [if_neg (by omega), hone]
    refine and_congr (by simpa using hlen.symm) ?_
    simp [names_defined hfirst']
  · have hsecond' : at1 (st.desc (9 + g.val)) 2 < 8 := by omega
    have hlen := two_names_length ⟨_, hfirst'⟩ ⟨_, hsecond'⟩
    rw [if_pos htwo, htwo]
    refine and_congr ?_ ?_
    · dsimp only at hlen
      rw [hlen]
      simp [Fin.ext_iff]
    · simp only [List.mem_cons, List.not_mem_nil, or_false, forall_eq_or_imp, forall_eq, names_defined hfirst',
        names_defined hsecond', beq_self_eq_true, Bool.true_and, Bool.or_eq_true, beq_iff_eq]
      exact ⟨fun h i hi => hi.elim (h.1 i) (h.2 i), fun h => ⟨fun i hi => h i (Or.inl hi), fun i hi => h i (Or.inr hi)⟩⟩

theorem siteCheck_iff (st : Store) (t : SiteId) : st.siteRules t = true ↔
    (InUse st t → (describedChannels st 2 t.val).length = 1 ∧
      ∀ kind ∈ [1, 3, 4], (describedChannels st kind t.val).length ≤ 1) := by
  unfold Store.siteRules
  rw [← siteUsed_iff]
  cases st.siteUsed t
  · simp
  · simp only [Bool.not_true, Bool.false_or, Bool.and_eq_true, beq_iff_eq, decide_eq_true_eq, List.mem_cons,
      List.not_mem_nil, or_false, forall_eq_or_imp, forall_eq, and_assoc, true_imp_iff]
    rfl

theorem segmentCheck_iff (st : Store) (i : SegId) :
    (!st.defined i || match st.siteOfSeg i with | some t => st.siteUsed t | none => true) = true ↔
    ∀ t : SiteId, at1 (st.desc (1 + i.val)) 0 = 1 → at1 (st.desc (1 + i.val)) 3 = t.val → InUse st t := by
  simp only [← siteOfSeg_iff, ← siteUsed_iff, ← defined_iff]
  cases st.defined i
  · simp
  · cases st.siteOfSeg i with
    | none => simp
    | some t => simp

/-- The load passes exactly where every check holds as the layouts spell it (R200). -/
theorem loadOk_iff (st : Store) : st.loadOk = true ↔ PassesLoad st := by
  unfold Store.loadOk PassesLoad
  simp only [Bool.and_eq_true, and_assoc]
  refine and_congr ((all_range_iff _).trans (forall_congr' fun n => descValid_iff st n)) ?_
  have hfields : (List.range 53).all (fun n => fieldsOk 0 n (st.desc n)) = true ↔
      ∀ n : Fin 53, FieldsInRange n.val (st.desc n.val) :=
    (all_range_iff _).trans (forall_congr' fun n => fieldsOk_iff n.val _)
  rw [hfields]
  refine and_congr_right fun hf => ?_
  refine and_congr ?_ (and_congr ?_ (and_congr ?_ (and_congr ?_ (and_congr ?_ (and_congr ?_ (and_congr ?_ (and_congr ?_ ?_)))))))
  · exact (anyId_iff _).trans (exists_congr fun i => defined_iff st i)
  · exact (allIds_iff _).trans (forall_congr' fun g => gateCheck_iff (gateFields_at hf g))
  · exact (allIds_iff _).trans (forall_congr' fun i => by rw [gatesOf_eq]; exact decide_eq_true_iff)
  · exact (allIds_iff _).trans (forall_congr' fun j => names_defined (Nat.lt_succ_of_le (signFields_at hf j).1))
  · refine (allIds_iff _).trans (forall_congr' fun z => (allIds_iff _).trans (forall_congr' fun i => ?_))
    rw [exposes_eq, ← defined_iff]
    cases exposesSegment st z i <;> simp
  · exact (allIds_iff _).trans (forall_congr' fun z => decide_eq_true_iff)
  · exact (allIds_iff _).trans (forall_congr' fun t => siteCheck_iff st t)
  · exact (allIds_iff _).trans (forall_congr' fun i => segmentCheck_iff st i)
  · refine (all_range_iff _).trans (forall_congr' fun c => ?_)
    simp [entryAt, imp_iff_not_or]

end Sys2Proof.Machine

end

section
/-! The records that a load makes of a description, as the layouts of R194 spell them: one lemma for each table (R1, R2, R27, R28,
R46, R66, R76, R79, R97, R100, R107, R118, R146). -/

namespace Sys2Proof.Machine

-- ---------------------------------------------------------------- segments and their start hold sets

theorem loadSeg_eq {st : Store} {i : SegId} {sg : Segment} (h : st.loadSeg i = some sg) : sg =
    { state := .closed, holds := HoldSet.none, gates := st.gatesOf i, signs := st.signsOf i, site := st.siteOfSeg i,
      zones := st.zonesOf i, iceAuto := at1 (st.segRec i) 4 % 2 == 1, windAuto := at1 (st.segRec i) 4 / 2 == 1,
      warningInterval := at2 (st.segRec i) 1, confirmWait := none, warningTimer := none, incomplete := false,
      restriction := match st.siteOfSeg i with
        | some t => (st.loadSite t).restriction
        | none => { advisory := 0, chains := false, ban := false } } := by
  unfold Store.loadSeg at h
  split at h
  · exact (Option.some.inj h).symm
  · cases h

theorem loadSeg_isSome (st : Store) (i : SegId) : (st.loadSeg i).isSome = true ↔ at1 (st.desc (1 + i.val)) 0 = 1 := by
  rw [← defined_iff]
  unfold Store.loadSeg
  cases st.defined i <;> simp

/-- The two options of a segment record (R194). -/
theorem options_eq : ∀ n : Fin 4, (n.val % 2 == 1) = n.val.testBit 0 ∧ (n.val / 2 == 1) = n.val.testBit 1 := by decide

/-- A loaded segment is as described (R1, R2, R194). -/
theorem loadSeg_described {st : Store} {i : SegId} {sg : Segment} (hf : SegmentFields (st.desc (1 + i.val)))
    (h : st.loadSeg i = some sg) : SegmentAsDescribed st i sg := by
  have hopt : at1 (st.desc (1 + i.val)) 4 < 4 := by
    obtain ⟨_, _, _, h4⟩ | ⟨_, _, _, h4⟩ := hf <;> omega
  obtain ⟨hice, hwind⟩ := options_eq ⟨_, hopt⟩
  rw [loadSeg_eq h]
  refine ⟨gatesOf_eq st i, rfl, fun t => siteOfSeg_iff st i t, ?_, hice, hwind, rfl⟩
  exact congrArg (fun p => (List.finRange 6).filter p) (funext fun z => exposes_eq st z i)

/-- The state with the start hold sets keeps every record but the hold sets. -/
theorem placeStart_get (s : State) (since : Option Nat) (i : SegId) : (s.placeStart since).road.segs.get i =
    (s.road.segs.get i).map fun sg => { sg with holds := s.startHolds since sg } := get_mapIds _ _ i

/-- The WEATHER causes of a segment whose site has just been loaded: ICE where the fail grade is 4 (R93, R94). -/
theorem weatherCauses_fresh (used ice wind : Bool) (cfg : SiteConfig) :
    ((weatherCauses (Site.fresh used cfg) ice wind).filter (·.2)).map (·.1) =
      if cfg.fail == 4 && ice then [causeIce] else [] := by
  show ((([(causeIce, cfg.fail == 4 && ice), (causeWind, false)] : List (Nat × Bool)).filter (·.2)).map (·.1)) = _
  cases cfg.fail == 4 && ice <;> rfl

/-- The zones in zone closure that expose a segment, as the sources of its ZONE entry (R28). -/
def startZones (s : State) (sg : Segment) : List Nat :=
  (sg.zones.filter fun z => (s.zoneUnit.zones.get z).closure).map (·.val)

/-- The causes of the WEATHER entry that a load gives a segment (R27, R93). -/
def startCauses (s : State) (sg : Segment) : List Nat :=
  match sg.site with
  | some t => ((weatherCauses (s.sites.get t) sg.iceAuto sg.windAuto).filter (·.2)).map (·.1)
  | none => []

/-- The hold set of a load from the state of the latch and the two lists of sources (R27, R28). -/
def startSet (since : Option Nat) (latch : LatchState) (zones causes : List Nat) : HoldSet :=
  let h := put HoldSet.none HoldKind.startup.idx (some (State.startEntry since []))
  let h := if latch = .clear then h else put h HoldKind.full.idx (some (State.startEntry since []))
  let h := if causes.isEmpty then h else put h HoldKind.weather.idx (some (State.startEntry since causes))
  if zones.isEmpty then h else put h HoldKind.zone.idx (some (State.startEntry since zones))

theorem startHolds_eq (s : State) (since : Option Nat) (sg : Segment) :
    s.startHolds since sg = startSet since s.latch.state (startZones s sg) (startCauses s sg) := rfl

/-- A start hold set, kind by kind (R27, R28). -/
theorem startSet_entry (since : Option Nat) (latch : LatchState) (zones causes : List Nat) (k : HoldKind) :
    (startSet since latch zones causes).entry k = match k with
      | .startup => some (State.startEntry since [])
      | .full => if latch = .clear then none else some (State.startEntry since [])
      | .weather => if causes = [] then none else some (State.startEntry since causes)
      | .zone => if zones = [] then none else some (State.startEntry since zones)
      | _ => none := by
  have hnone : HoldSet.none.entry k = none := get_replicate ..
  have hput : ∀ (p : Prop) [Decidable p] (h : HoldSet) (k' : HoldKind) (o : Option HoldEntry),
      HoldSet.entry (if p then h else put h k'.idx o) k = if k' = k then (if p then h.entry k else o) else h.entry k := by
    intro p _ h k' o
    split <;> simp [entry_put]
  unfold startSet
  simp only [hput, entry_put, hnone, List.isEmpty_iff]
  cases k <;> simp

/-- The reported grade of the site of a segment at a load, 0 without a site (R97). -/
def startGrade (st : Store) (i : SegId) : Nat :=
  match st.siteOfSeg i with
  | some j => (st.siteConfig j).fail
  | none => 0

theorem startCauses_loaded {st : Store} {i : SegId} {sg : Segment} (h : st.loadSeg i = some sg) {u : State}
    (hu : ∀ j, u.sites.get j = st.loadSite j) :
    startCauses u sg = if startGrade st i == 4 && sg.iceAuto then [causeIce] else [] := by
  have hsite : sg.site = st.siteOfSeg i := by rw [loadSeg_eq h]
  unfold startCauses startGrade
  rw [hsite]
  cases st.siteOfSeg i with
  | none => rfl
  | some j =>
    dsimp only
    rw [hu]
    exact weatherCauses_fresh _ _ _ _

/-- A loaded segment with its start hold set, seen from a state with the same latch, sites and zones (R1, R3, R27, R28, R93). -/
theorem loadSeg_atLoad {st : Store} {i : SegId} {sg : Segment} (h : st.loadSeg i = some sg) {u t : State} (since : Option Nat)
    (hu : ∀ j, u.sites.get j = st.loadSite j) (hlatch : t.latch = u.latch) (hsites : t.sites = u.sites)
    (hzones : t.zoneUnit = u.zoneUnit) : SegmentAtLoad since t { sg with holds := u.startHolds since sg } := by
  have hgrade : (match sg.site with | some j => (t.sites.get j).config.fail | none => 0) = startGrade st i := by
    have hsite : sg.site = st.siteOfSeg i := by rw [loadSeg_eq h]
    unfold startGrade
    rw [hsite, hsites]
    cases st.siteOfSeg i with
    | none => rfl
    | some j => exact congrArg (fun x : Site => x.config.fail) (hu j)
  have hrestriction : sg.restriction =
      { advisory := startGrade st i, chains := decide (3 ≤ startGrade st i), ban := false } := by
    rw [loadSeg_eq h]
    unfold startGrade
    dsimp only
    cases st.siteOfSeg i <;> rfl
  have hentry := startSet_entry since u.latch.state (startZones u sg) (startCauses u sg)
  rw [← startHolds_eq] at hentry
  unfold SegmentAtLoad
  dsimp only
  rw [hlatch, hzones]
  refine ⟨by rw [loadSeg_eq h], by rw [loadSeg_eq h], by rw [loadSeg_eq h], by rw [loadSeg_eq h],
    hrestriction.trans (congrArg (fun n : Nat => (⟨n, decide (3 ≤ n), false⟩ : Restriction)) hgrade.symm),
    hentry .startup, hentry .full, hentry .zone,
    Eq.trans ?_ (congrArg (fun n : Nat => if n == 4 && sg.iceAuto then some (State.startEntry since [causeIce]) else none)
      hgrade.symm), ?_⟩
  · rw [hentry .weather, startCauses_loaded h hu]
    cases startGrade st i == 4 && sg.iceAuto <;> rfl
  · simp [hentry]

-- ---------------------------------------------------------------- gates, zones, sites and channels

theorem loadGate_eq (st : Store) (g : GateId) (old : Gate) :
    st.loadGate g old = describedGate st g old.raisedSwitch old.loweredSwitch := by
  unfold Store.loadGate describedGate
  rw [listing_eq]
  rfl

theorem loadZone_atLoad (st : Store) (z : ZoneId) : ZoneAtLoad st z (st.loadZone z) := by
  have hexp : (fun i => st.exposes z i) = exposesSegment st z := funext fun i => exposes_eq st z i
  unfold ZoneAtLoad Store.loadZone Zone.judge idsWhere
  dsimp only
  rw [show st.exposes z = exposesSegment st z from hexp, Nat.zero_max]
  rfl

/-- The period that a period code gives (R79, R194). -/
theorem period_eq : ∀ n : Fin 4, [8, 16, 32, 64][n.val]? = some (8 * 2 ^ n.val) := by decide

theorem loadSite_atLoad {st : Store} {j : SiteId} (hf : SiteFields (st.desc (49 + j.val))) : SiteAtLoad st j (st.loadSite j) := by
  obtain ⟨hperiod, _⟩ := hf
  exact ⟨siteUsed_iff st j, period_eq ⟨_, Nat.lt_succ_of_le hperiod⟩, rfl, rfl⟩

/-- The kind that a kind code names (R194). -/
theorem chanKindOf_eq : ∀ n : Fin 6,
    [ChanKind.unused, .wind, .surfaceTemp, .airTemp, .precip, .detector][n.val]? = some (chanKindOf n.val) ∧
      (chanKindOf n.val = .unused ↔ n.val = 0) ∧ (chanKindOf n.val = .detector ↔ n.val = 5) := by
  decide

/-- The gate length that a gate length code gives (R66, R194). -/
theorem gateLength_eq : ∀ n : Fin 4, [1, 2, 4, 8][n.val]? = some (2 ^ n.val) := by decide

theorem notifyOf_eq : ∀ n : Fin 4, [NotifyMode.none, .enter, .leave, .both][n.val]? = some (notifyOf n.val) := by decide

/-- The owner of a channel whose fields lie in their ranges (R66, R194). -/
theorem ownerOf_described {kind : ChanKind} {n : Nat} (hzone : kind = .detector → n < 6)
    (hsite : kind ≠ .detector → kind ≠ .unused → n < 4) :
    match ownerOf kind n with
      | .none => kind = .unused
      | .zone z => kind = .detector ∧ n = z.val
      | .site t => kind ≠ .unused ∧ kind ≠ .detector ∧ n = t.val := by
  cases kind with
  | unused => rfl
  | detector => simp [ownerOf, hzone rfl]
  | wind | surfaceTemp | airTemp | precip =>
    have h4 : n < 4 := hsite (by decide) (by decide)
    simp [ownerOf, h4]

theorem carrier_eq (kind : ChanKind) (x : Carrier) : (match kind with
    | .detector => some x
    | _ => none) = if kind = .detector then some x else none := by
  cases kind <;> rfl

theorem loadChannel_atLoad {st : Store} {c : ChanId} (hf : ChannelFields (st.desc (33 + c.val))) (old : Channel) :
    ChannelAtLoad st c old.filter old.edge (st.loadChannel c old) := by
  obtain ⟨hkind, hlen, hnf, hdet, hother⟩ := hf
  obtain ⟨hcode, hunused, hdetector⟩ := chanKindOf_eq ⟨_, Nat.lt_succ_of_le hkind⟩
  refine ⟨hcode, ?_, gateLength_eq ⟨_, Nat.lt_succ_of_le hlen⟩, rfl, rfl, rfl, rfl, rfl, rfl, ?_⟩
  · refine ownerOf_described (fun hk => ?_) (fun hk hu => ?_)
    · exact Nat.lt_succ_of_le (hdet (hdetector.1 hk)).1
    · have h0 : at1 (st.desc (33 + c.val)) 0 ≠ 0 := fun h => hu (hunused.2 h)
      have h5 : at1 (st.desc (33 + c.val)) 0 ≠ 5 := fun h => hk (hdetector.2 h)
      have howner := (hother h5).1
      rw [if_neg h0] at howner
      exact Nat.lt_succ_of_le howner
  · exact carrier_eq _ _

theorem loadQual_atLoad {st : Store} {c : ChanId} (hf : ChannelFields (st.desc (33 + c.val))) :
    QualAtLoad st c (st.loadQual c) := by
  obtain ⟨hkind, _, _, hdet, _⟩ := hf
  obtain ⟨_, _, hdetector⟩ := chanKindOf_eq ⟨_, Nat.lt_succ_of_le hkind⟩
  unfold QualAtLoad Store.loadQual Store.chanRec
  dsimp only
  split
  · next h5 =>
    obtain ⟨_, _, _, _, _, hnotify⟩ := hdet h5
    rw [hdetector.2 h5]
    exact ⟨_, notifyOf_eq ⟨_, Nat.lt_succ_of_le hnotify⟩, rfl⟩
  · next h5 =>
    split
    · next hk => exact absurd (hdetector.1 hk) h5
    · rfl

-- ---------------------------------------------------------------- the page map

theorem formatOf_eq : ∀ n : Fin 4,
    ([none, some .integer, some .tenths, some .time] : List (Option Format))[n.val]? = some (formatOf n.val) := by
  decide

theorem sourceOf_eq : ∀ n : Fin 10, ([.none, .classValue, .segmentId, .advisory, .surfaceTemp, .airTemp, .gust, .meanWind,
    .precip, .zoneLevel] : List Source)[n.val]? = some (sourceOf n.val) := by
  decide

theorem loadEntry_atLoad {st : Store} (hf : CorridorFields (st.desc 0)) (k : Fin 12) : EntryAtLoad st k (st.loadEntry k) := by
  obtain ⟨_, _, _, hentries⟩ := hf
  obtain ⟨_, _, hfa, hsa, hfb, hsb⟩ := hentries k
  exact ⟨rfl, rfl, formatOf_eq ⟨_, Nat.lt_succ_of_le hfa⟩, sourceOf_eq ⟨_, Nat.lt_succ_of_le hsa⟩,
    formatOf_eq ⟨_, Nat.lt_succ_of_le hfb⟩, sourceOf_eq ⟨_, Nat.lt_succ_of_le hsb⟩⟩

-- ---------------------------------------------------------------- the tables of a load, record by record

section tables
variable (s : State)

theorem loadTables_site (j : SiteId) : s.loadTables.sites.get j = s.store.loadSite j := get_ofFn ..

theorem loadTables_zone (z : ZoneId) : s.loadTables.zoneUnit.zones.get z = s.store.loadZone z := get_ofFn ..

theorem loadTables_qual (c : ChanId) : s.loadTables.zoneUnit.quals.get c = s.store.loadQual c := get_ofFn ..

theorem loadTables_channel (c : ChanId) :
    s.loadTables.field.channels.get c = s.store.loadChannel c (s.field.channels.get c) := get_mapIds ..

theorem loadTables_entry (k : Fin 12) : s.loadTables.board.pageMap.get k = s.store.loadEntry k := get_ofFn ..

theorem loadTables_sign (j : SignId) : s.loadTables.board.signs.get j = s.store.loadSign j := get_ofFn ..

theorem loadTables_seg (i : SegId) : s.loadTables.road.segs.get i = s.store.loadSeg i := get_ofFn ..

theorem loadTables_gate (g : GateId) : s.loadTables.road.gates.get g =
    describedGate s.store g (s.road.gates.get g).raisedSwitch (s.road.gates.get g).loweredSwitch :=
  (get_mapIds ..).trans (loadGate_eq ..)

end tables

end Sys2Proof.Machine

end

section
/-! The gates of a load: each of them, in UNKNOWN under the demand LOWER, is resolved by its switches, and no segment moves (R33,
R42, R45 to R47). -/

namespace Sys2Proof.Machine

/-- What a gate in UNKNOWN under the demand LOWER becomes, by what its switches read (R33, R45). -/
def Gate.resolved (x : Gate) : Gate :=
  match x.reading with
  | .down => x.rest .lowered
  | .up => x.travel .lower .checked
  | .mid => x.travel .lower .unchecked
  | .both => x.fail .conflict

/-- A loaded gate, once resolved (R45 to R47). -/
theorem gateAtLoad_resolved (st : Store) (g : GateId) (raised lowered : Filter) :
    GateAtLoad st g raised lowered (describedGate st g raised lowered).resolved := by
  have hreading : (describedGate st g raised lowered).reading = (match raised.level, lowered.level with
    | true, false => .up
    | false, true => .down
    | false, false => .mid
    | true, true => .both) := rfl
  unfold GateAtLoad Gate.resolved
  rw [hreading]
  cases raised.level <;> cases lowered.level <;> rfl

namespace RoadEv

/-- One gate has become another record, with GATE attention; the segments and the other gates are as they were. -/
structure SetsGate (g : GateId) (x : Gate) (e e' : RoadEv) : Prop where
  segs : e'.road.segs = e.road.segs
  gates : ∀ j, e'.road.gates.get j = if g = j then x else e.road.gates.get j
  flags : e'.flags = e.flags ||| Attn.gate

theorem gateTo_setsGate (e : RoadEv) (g : GateId) (x : Gate) (more : List Task) : SetsGate g x e (e.gateTo g x more).1 :=
  ⟨rfl, fun _ => gateTo_get .., rfl⟩

theorem SetsGate.then {g : GateId} {x y : Gate} {e e' e'' : RoadEv} (h : SetsGate g x e e') (k : SetsGate g y e' e'') :
    SetsGate g y e e'' := by
  refine ⟨k.segs.trans h.segs, fun j => ?_, ?_⟩
  · rw [k.gates, h.gates]
    split <;> rfl
  · rw [k.flags, h.flags, BitVec.or_assoc, BitVec.or_self]

/-- No segment is in a state in which it waits for gates. -/
def Still (r : Road) : Prop := ∀ i, r.segState i ≠ some .closing ∧ r.segState i ≠ some .opening

theorem SetsGate.still {g : GateId} {x : Gate} {e e' : RoadEv} (h : SetsGate g x e e') (hs : Still e.road) : Still e'.road := by
  intro i
  unfold Road.segState
  rw [h.segs]
  exact hs i

section
variable (ctx : RoadCtx) {e : RoadEv} (hs : Still e.road)
include hs

/-- A change of a gate has no effect on segments that do not wait. -/
theorem run_gateTo (n : Nat) {g : GateId} {x : Gate} {t : Task} {more : List Task}
    (h : doTask ctx t e = e.gateTo g x more) : run ctx (n + 2) [t] e = run ctx n more (e.gateTo g x more).1 := by
  have hquiet : doTask ctx (.handed g (x.state == .fault)) (e.gateTo g x more).1 = ((e.gateTo g x more).1, []) :=
    handed_quiet ctx _ rfl fun i _ => (gateTo_setsGate e g x more).still hs i
  rw [run_step h, List.append_nil]
  exact run_step hquiet

/-- A gate in UNKNOWN is resolved; no segment waits for it (R33, R45). -/
theorem resolve_setsGate {g : GateId} (hu : (e.road.gates.get g).state = .unknown)
    (hd : (e.road.gates.get g).demand = .lower) :
    SetsGate g (e.road.gates.get g).resolved e (chain ctx (e, [.resolve g])) := by
  have hget : ∀ (x : Gate) (more : List Task), (e.gateTo g x more).1.road.gates.get g = x := fun x more =>
    (gateTo_get ..).trans (if_pos rfl)
  have hres : doTask ctx (.resolve g) e = match (e.road.gates.get g).reading with
      | .down => e.gateTo g ((e.road.gates.get g).rest .lowered) [.apply g]
      | .up => e.gateTo g ((e.road.gates.get g).rest .raised) [.apply g]
      | .both => e.gateTo g ((e.road.gates.get g).fail .conflict) []
      | .mid => e.gateTo g ((e.road.gates.get g).travel (e.road.gates.get g).demand .unchecked) [.settle g] := if_pos hu
  rw [chain_eq]
  unfold Gate.resolved
  cases hread : (e.road.gates.get g).reading <;> rw [hread] at hres <;> dsimp only at hres ⊢
  case down =>
    rw [run_gateTo ctx hs 1022 hres, run_step (doTask_apply_agrees ctx (d := .lower) (by rw [hget]; exact hd) (by rw [hget]; rfl)),
      List.nil_append, run_nil]
    exact gateTo_setsGate ..
  case up =>
    have hset := gateTo_setsGate e g ((e.road.gates.get g).rest .raised) [.apply g]
    have hleaves : Leaves .lower ((e.road.gates.get g).rest .raised) := leaves_of_reading (d := .raise) hread
    have happly := doTask_apply_leaves ctx (e := (e.gateTo g ((e.road.gates.get g).rest .raised) [.apply g]).1) (g := g)
      (d := .lower) (by rw [hget]; exact hd) (by rw [hget]; exact hleaves)
    rw [run_gateTo ctx hs 1022 hres, run_gateTo ctx (hset.still hs) 1020 happly,
      run_step (doTask_settle_goes_on ctx (d := .lower) (x := (e.road.gates.get g).rest .raised)
        ((gateTo_get ..).trans ((if_pos rfl).trans (by rw [hget]))) hleaves), List.nil_append, run_nil, hget]
    exact hset.then (gateTo_setsGate ..)
  case mid =>
    rw [hd] at hres
    rw [run_gateTo ctx hs 1022 hres, run_step (doTask_settle_mid ctx (by rw [hget]; exact hread)), List.nil_append, run_nil]
    exact gateTo_setsGate ..
  case both =>
    rw [run_gateTo ctx hs 1022 hres, run_nil]
    exact gateTo_setsGate ..

end

/-- The gates of a list, each once, are resolved in turn (R46). -/
theorem resolve_each (ctx : RoadCtx) (l : List GateId) : ∀ e : RoadEv, l.Nodup → Still e.road →
    (∀ g ∈ l, (e.road.gates.get g).state = .unknown ∧ (e.road.gates.get g).demand = .lower) →
    let e' := l.foldl (fun e g => chain ctx (e, [.resolve g])) e
    e'.road.segs = e.road.segs ∧
      (∀ j, e'.road.gates.get j = if j ∈ l then (e.road.gates.get j).resolved else e.road.gates.get j) ∧
      e'.flags = e.flags ||| (if l = [] then 0 else Attn.gate) := by
  induction l with
  | nil => exact fun e _ _ _ => ⟨rfl, fun j => by simp, by simp⟩
  | cons g l ih =>
    intro e hn hs hl
    obtain ⟨hg, hn⟩ := List.nodup_cons.1 hn
    obtain ⟨hu, hd⟩ := hl g List.mem_cons_self
    have hset := resolve_setsGate ctx hs hu hd
    have hother : ∀ j ∈ l, (chain ctx (e, [.resolve g])).road.gates.get j = e.road.gates.get j := fun j hj => by
      rw [hset.gates, if_neg]
      rintro rfl
      exact hg hj
    obtain ⟨hsegs, hgates, hflags⟩ := ih _ hn (hset.still hs) fun j hj => by
      rw [hother j hj]
      exact hl j (List.mem_cons_of_mem _ hj)
    refine ⟨hsegs.trans hset.segs, fun j => (hgates j).trans ?_, ?_⟩
    · rw [hset.gates]
      by_cases hj : g = j
      · subst hj
        rw [if_neg hg, if_pos rfl, if_pos List.mem_cons_self]
      · simp [hj, Ne.symm hj]
    · rw [List.foldl_cons, hflags, hset.flags, if_neg (List.cons_ne_nil g l), BitVec.or_assoc]
      split
      · simp
      · rw [BitVec.or_self]

/-- All gates are resolved at a load (R46). -/
theorem resolveAll_spec (ctx : RoadCtx) {e : RoadEv} (hs : Still e.road)
    (hg : ∀ g, (e.road.gates.get g).state = .unknown ∧ (e.road.gates.get g).demand = .lower) :
    (resolveAll ctx e).road.segs = e.road.segs ∧
      (∀ j, (resolveAll ctx e).road.gates.get j = (e.road.gates.get j).resolved) ∧
      (resolveAll ctx e).flags = e.flags ||| Attn.gate := by
  have hn := List.nodup_finRange 6
  have hmem : ∀ j, j ∈ List.finRange 6 := List.mem_finRange
  have hne : List.finRange 6 ≠ [] := List.ne_nil_of_mem (hmem 0)
  unfold resolveAll
  generalize List.finRange 6 = l at hn hmem hne
  obtain ⟨hsegs, hgates, hflags⟩ := resolve_each ctx l e hn hs fun g _ => hg g
  exact ⟨hsegs, fun j => (hgates j).trans (if_pos (hmem j)), hflags.trans (by rw [if_neg hne])⟩

end RoadEv

end Sys2Proof.Machine

end

section
/-! The end of the event of a load: every sign is selected for the first time and the line is given away (R46, R151 to R153,
R156, R162, R186, R200). -/

namespace Sys2Proof.Machine

-- ---------------------------------------------------------------- the selection of a sign without a desired page

/-- A sign of a CLOSED segment shows a class that closes the road (R148, R149). -/
theorem chooseClass_closed_urgent (s : State) (sign : Sign) (i : SegId) {sg : Segment} (h : sg.state = .closed) :
    (s.chooseClass sign i sg).urgent = true := by
  have hclass : ∀ c, sg.closureClass = some c → c.urgent = true := by
    intro c hc
    unfold Segment.closureClass at hc
    rw [h] at hc
    dsimp only at hc
    split at hc
    · cases hc
      rfl
    · next k _ =>
      cases hc
      cases k <;> rfl
  unfold State.chooseClass
  split
  · rfl
  · split
    · next c hc => exact hclass c hc
    · next hnone =>
      unfold Segment.closureClass at hnone
      rw [h] at hnone
      dsimp only at hnone
      split at hnone <;> cases hnone

namespace BoardEv

theorem select_pageMap (s : State) (i : SignId) (e : BoardEv) : (select s i e).board.pageMap = e.board.pageMap := by
  rcases select_cases s i e with h | ⟨_, h⟩ | ⟨c, ref, h⟩ <;> rw [h] <;> rfl

theorem selectAll_pageMap (s : State) (l : List SignId) :
    ∀ e : BoardEv, (selectAll s l e).board.pageMap = e.board.pageMap := by
  induction l with
  | nil => exact fun _ => rfl
  | cons i l ih => exact fun e => (ih _).trans (select_pageMap s i e)

/-- A sign without a desired page that is among those selected, each once, takes what was chosen for it (R152). -/
theorem selectAll_takes {s : State} {i : SignId} {c : PageClass} {ref : PageRef} {l : List SignId} :
    ∀ {e : BoardEv}, l.Nodup → i ∈ l → s.choose (e.board.signs.get i) = some (c, ref) →
    (e.board.signs.get i).desired = none →
    ((selectAll s l e).board.signs.get i).desired = some (s.desiredOf c ref) ∧
      ((selectAll s l e).board.signs.get i).urgent = c.urgent := by
  induction l with
  | nil => exact fun _ h => absurd h List.not_mem_nil
  | cons j l ih =>
    intro e hn hi hc hd
    obtain ⟨hj, hn⟩ := List.nodup_cons.1 hn
    show ((selectAll s l (select s j e)).board.signs.get i).desired = _ ∧
      ((selectAll s l (select s j e)).board.signs.get i).urgent = _
    by_cases hij : j = i
    · subst hij
      rw [selectAll_other hj, select_new hc (by rw [hd]; simp), newPage_get, if_pos rfl]
      exact ⟨rfl, rfl⟩
    · have hother : (select s j e).board.signs.get i = e.board.signs.get i := select_other hij
      exact ih hn ((List.mem_cons.1 hi).resolve_left (Ne.symm hij)) (by rw [hother]; exact hc) (by rw [hother]; exact hd)

end BoardEv

-- ---------------------------------------------------------------- the arbiter after a load

/-- Sign 0 is the first after the mark 11 (R162). -/
theorem afterMark_last : afterMark 11 = 0 :: (afterMark 11).tail := by decide

/-- On a free line whose last-served mark is 11 an urgent and eligible sign 0 is served (R162, R164). -/
theorem Board.arbitrate_first {b : Board} {d : Desired} (hfree : b.isFree = true) (hmark : b.line.lastServed = 11)
    (he : b.eligible 0 = true) (hu : (b.signs.get 0).urgent = true) (hd : (b.signs.get 0).desired = some d) :
    b.arbitrate = b.begun 0 d := by
  have hfind : (afterMark b.line.lastServed).find? (fun i => b.eligible i && (b.signs.get i).urgent) = some 0 := by
    rw [hmark, afterMark_last]
    exact List.find?_cons_of_pos (by rw [he, hu]; rfl)
  have hnext : b.nextSign = some 0 := by
    unfold Board.nextSign
    dsimp only
    rw [hfind]
  unfold Board.arbitrate
  rw [if_pos hfree, hnext]
  exact Board.begin_eq hd

-- ---------------------------------------------------------------- the event of a load

/-- The state of a load before its event: every record as loaded, and the line as a reset or a COMMIT leaves it (R46, R156, R173,
R175). -/
structure JustLoaded (u : State) : Prop where
  commissioned : u.commissioned = true
  closed : ∀ i sg, u.road.segs.get i = some sg → sg.state = .closed
  gates : ∀ g, (u.road.gates.get g).state = .unknown ∧ (u.road.gates.get g).demand = .lower
  signs : ∀ j, (u.board.signs.get j).desired = none ∧ (u.board.signs.get j).needs = true ∧
    (u.road.segs.get (u.board.signs.get j).segment).isSome = true
  records : ∀ j, (u.board.line.records.get j).state = .stale
  free : u.board.line.transfer = none ∧ u.board.line.probing = none
  mark : u.board.line.lastServed = 11

/-- A sign selected at a load (R145, R148, R152, R156). -/
structure FirstSelected (g g' : Sign) : Prop where
  segment : g'.segment = g.segment
  role : g'.role = g.role
  override : g'.override = g.override
  contentMark : g'.contentMark = g.contentMark
  needs : g'.needs = true
  urgent : g'.urgent = true
  desired : ∃ d, g'.desired = some d ∧ d.cls ∈ closureClasses

/-- What the event of a load leaves of the state before it, beside the attention that enters the links (R46, R156, R162). -/
structure LoadEvent (u t : State) : Prop where
  keeps : KeepsBut [.links, .road, .board] u t
  segs : ∀ i, t.road.segs.get i = u.road.segs.get i
  gates : ∀ g, t.road.gates.get g = (u.road.gates.get g).resolved
  signs : ∀ j, FirstSelected (u.board.signs.get j) (t.board.signs.get j)
  pageMap : t.board.pageMap = u.board.pageMap
  record : ∀ j, t.board.line.records.get j =
    if j = 0 then { u.board.line.records.get j with state := .sending } else u.board.line.records.get j
  transfer : ∃ tr, t.board.line.transfer = some tr ∧ tr.target = 0
  marks : t.board.line.lastServed = 0 ∧ t.board.line.probing = none ∧ t.board.line.probeMark = u.board.line.probeMark

/-- A change of the links alone leaves what the event of a load has done. -/
theorem LoadEvent.of_links {u t t' : State} (h : LoadEvent u t) (k : KeepsBut [.links] t t') : LoadEvent u t' := by
  have hroad : t'.road = t.road := k .road (by simp)
  have hboard : t'.board = t.board := k .board (by simp)
  refine { keeps := h.keeps.trans' (k.mono (by simp)), segs := ?_, gates := ?_, signs := ?_, pageMap := ?_, record := ?_,
           transfer := ?_, marks := ?_ }
  · rw [hroad]
    exact h.segs
  · rw [hroad]
    exact h.gates
  all_goals rw [hboard]
  · exact h.signs
  · exact h.pageMap
  · exact h.record
  · exact h.transfer
  · exact h.marks

section
variable {u : State} (h : JustLoaded u)
include h

/-- Nothing waits for the gates of a load. -/
theorem JustLoaded.still : RoadEv.Still u.road := by
  intro i
  unfold Road.segState
  cases hi : u.road.segs.get i with
  | none => simp
  | some sg => simp [h.closed i sg hi]

/-- Every sign is selected for the first time (R148, R152, R156). -/
theorem JustLoaded.selected {v : State} (hsegs : ∀ i, v.road.segs.get i = u.road.segs.get i) (hboard : v.board = u.board) (j : SignId) :
    FirstSelected (u.board.signs.get j)
      ((BoardEv.selectAll v (List.finRange 12) (BoardEv.start v.board)).board.signs.get j) := by
  obtain ⟨hd, hn, hs⟩ := h.signs j
  obtain ⟨sg, hsg⟩ := Option.isSome_iff_exists.1 hs
  have hchoose := choose_some (u := v) ((hsegs _).trans hsg)
  rw [hboard]
  have hre := BoardEv.selectAll_reselects v (List.finRange 12) (BoardEv.start u.board)
  obtain ⟨hsegment, hrole, hoverride, hcontent⟩ := hre.sign j
  obtain ⟨hdesired, hurgent⟩ := BoardEv.selectAll_takes (e := BoardEv.start u.board) (List.nodup_finRange 12)
    (List.mem_finRange j) hchoose hd
  have hclass := chooseClass_closed_urgent v (u.board.signs.get j) (u.board.signs.get j).segment (h.closed _ _ hsg)
  exact ⟨hsegment, hrole, hoverride, hcontent,
    hre.needs j (by rw [show (BoardEv.start u.board).board = u.board from rfl, h.records]; simp) hn,
    hurgent.trans hclass, _, hdesired, (mem_closureClasses _).2 hclass⟩

/-- The event of a load on a board whose signs have been selected: sign 0 is served (R156, R162). -/
theorem JustLoaded.served {b : Board} (hre : BoardEv.Reselects u.board b) (hsel : FirstSelected (u.board.signs.get 0) (b.signs.get 0)) :
    ∃ d, b.arbitrate = b.begun 0 d := by
  obtain ⟨ht, hp⟩ := h.free
  obtain ⟨d, hd, _⟩ := hsel.desired
  have hline : b.line = u.board.line := hre.line ht
  refine ⟨d, Board.arbitrate_first ?_ (by rw [hline]; exact h.mark) ?_ hsel.urgent hd⟩
  · unfold Board.isFree
    rw [hline, ht, hp]
    rfl
  · unfold Board.eligible
    dsimp only
    rw [hsel.needs, hd, hline, h.records]
    rfl

/-- A state that confirms warnings of a load alone holds its segments (R11). -/
theorem JustLoaded.confirmed {v t : State} (hsegs : v.road.segs = u.road.segs) (hc : ConfirmsAll v t) (i : SegId) :
    t.road.segs.get i = u.road.segs.get i := by
  have hi := hc.2 i
  rw [hsegs] at hi
  cases hs : u.road.segs.get i with
  | none =>
    rw [hs] at hi
    cases ht : t.road.segs.get i with
    | none => rfl
    | some sg' =>
      rw [ht] at hi
      cases hi
  | some sg =>
    rw [hs] at hi
    cases ht : t.road.segs.get i with
    | none =>
      rw [ht] at hi
      cases hi
    | some sg' =>
      rw [ht] at hi
      cases hi with
      | some hi => rw [hi.eq (by rw [h.closed i sg hs]; decide)]

/-- The road of the event of a load: SEGMENT attention for the start entries, and every gate resolved (R46, R186). -/
theorem JustLoaded.resolved {e : Ev} (he : e.st = u) : ∃ v : Ev, e.afterLoad = v.raiseAll ∧ v.st.road.segs = u.road.segs ∧
    (∀ g, v.st.road.gates.get g = (u.road.gates.get g).resolved) ∧ KeepsBut [.links, .road] u v.st ∧
    Gains (Attn.segment ||| Attn.gate) u v.st := by
  subst he
  obtain ⟨f, hf⟩ : ∃ f : RoadCtx → RoadEv → RoadEv,
      f = fun ctx r => RoadEv.resolveAll ctx { r with flags := r.flags ||| Attn.segment } := ⟨_, rfl⟩
  have hload : e.afterLoad = (e.onRoad f).raiseAll := by
    subst hf
    exact if_pos h.commissioned
  have hspec := RoadEv.resolveAll_spec e.st.roadCtx (e := { roadStart e.st with flags := 0 ||| Attn.segment }) h.still h.gates
  have hstep : RoadEv.resolveAll e.st.roadCtx { roadStart e.st with flags := 0 ||| Attn.segment } =
      f e.st.roadCtx (roadStart e.st) := by
    subst hf
    rfl
  rw [hstep] at hspec
  obtain ⟨hsegs, hgates, hflags⟩ := hspec
  obtain ⟨hroad, hkeep, hgain⟩ := onRoad_spec f e
  refine ⟨e.onRoad f, hload, (congrArg Road.segs hroad).trans hsegs, fun g => ?_, hkeep, ?_⟩
  · rw [hroad]
    exact hgates g
  · have hflags' : (f e.st.roadCtx (roadStart e.st)).flags = Attn.segment ||| Attn.gate := hflags.trans
      (show (0 ||| Attn.segment) ||| Attn.gate = Attn.segment ||| Attn.gate by decide)
    rw [← hflags']
    exact hgain

/-- What the event of a load does (R46, R156, R162, R186). -/
theorem afterLoad_finish {e : Ev} (he : e.st = u) :
    LoadEvent u e.afterLoad.finish ∧ Gains (Attn.segment ||| Attn.gate) u e.afterLoad.finish := by
  obtain ⟨v, hload, hsegs, hgates, hkeep, hgain⟩ := h.resolved he
  rw [hload]
  have hboard : v.st.board = u.board := hkeep .board (by simp)
  have hraised : setIds v.raiseAll.raised = List.finRange 12 := by simp [Ev.raiseAll, setIds, idsWhere]
  have hfin : v.raiseAll.finish.board =
      (BoardEv.selectAll v.st (List.finRange 12) (BoardEv.start v.st.board)).board.arbitrate := by
    rw [finish_board (Or.inr (by rw [hraised]; decide)), hraised]
    rfl
  have hsel := h.selected (v := v.st) (fun i => by rw [hsegs]) hboard
  have hre := BoardEv.selectAll_reselects v.st (List.finRange 12) (BoardEv.start v.st.board)
  have hpages := BoardEv.selectAll_pageMap v.st (List.finRange 12) (BoardEv.start v.st.board)
  rw [hboard] at hsel hre hpages hfin
  generalize (BoardEv.selectAll v.st (List.finRange 12) (BoardEv.start u.board)).board = b at hsel hre hpages hfin
  obtain ⟨d, hserved⟩ := h.served hre (hsel 0)
  have hline : b.line = u.board.line := hre.line h.free.1
  obtain ⟨hkeep', _, _⟩ := finish_spec v.raiseAll
  refine ⟨?_, Gains.finish (e := v.raiseAll) hgain⟩
  refine { keeps := (hkeep.mono (by simp)).trans' hkeep', segs := h.confirmed hsegs (finish_confirms v.raiseAll),
           gates := fun g => ?_, signs := fun j => ?_, pageMap := ?_, record := fun j => ?_, transfer := ?_, marks := ?_ }
  · rw [(finish_confirms v.raiseAll).1]
    exact hgates g
  all_goals rw [hfin, hserved]
  · exact hsel j
  · exact hpages
  · show (put b.line.records 0 { b.line.records.get 0 with state := .sending }).get j = _
    rw [get_put, hline]
    by_cases hj : j = 0
    · subst hj
      rfl
    · rw [if_neg hj, if_neg (Ne.symm hj)]
  · exact ⟨_, rfl, rfl⟩
  · refine ⟨rfl, ?_, ?_⟩
    · show b.line.probing = none
      rw [hline, h.free.2]
    · show b.line.probeMark = _
      rw [hline]

end

end Sys2Proof.Machine

end

section
/-! COMMIT: the tables are loaded again from the description, the control record write begins with the next commission id, and the
event of the load follows (R28, R47, R60, R78, R98, R119, R157, R175, R184, R199). -/

namespace Sys2Proof.Machine

-- ---------------------------------------------------------------- the state of a COMMIT before its event

/-- The working tables of a COMMIT with its start hold sets, before its event (R28, R175, R184, R199). -/
def committed (s : State) : State :=
  let v := s.loadTables.placeStart s.since
  { v with valleyHeard := false, avalancheHeard := false, board := v.board.setLine SignLine.commit,
           store := v.store.beginControlWrite (s.store.commissionId + 1) }

/-- The attention of a COMMIT for the signs that leave FAULT (R175). -/
def commitFlags (s : State) : FlagSet := FlagSet.when (anyId fun i => s.board.line.faulty.get i) Attn.sign

theorem commit_eq (e : Ev) :
    e.commit = ({ e with st := (committed e.st).attend (commitFlags e.st) } : Ev).afterLoad := rfl

theorem commitFlags_eq (s : State) : commitFlags s =
    if ∃ j, (s.board.line.records.get j).state = .fault then Attn.sign else 0 := by
  have hfaulty : ∀ i, s.board.line.faulty.get i = ((s.board.line.records.get i).state == .fault) := fun i => get_mapIds ..
  unfold commitFlags FlagSet.when
  refine if_congr ?_ rfl rfl
  rw [anyId_iff]
  exact exists_congr fun i => by rw [hfaulty, beq_iff_eq]

theorem committed_seg (s : State) (i : SegId) : (committed s).road.segs.get i =
    (s.store.loadSeg i).map fun sg => { sg with holds := s.loadTables.startHolds s.since sg } :=
  (placeStart_get s.loadTables s.since i).trans (by rw [loadTables_seg])

theorem committed_gate (s : State) (g : GateId) : (committed s).road.gates.get g =
    describedGate s.store g (s.road.gates.get g).raisedSwitch (s.road.gates.get g).loweredSwitch := loadTables_gate s g

theorem commit_records_get (l : SignLine) (j : SignId) : l.commit.records.get j =
    { l.records.get j with state := .stale, cause := none, probe := .stopped } := by
  unfold SignLine.commit
  rw [get_mapIds]

theorem committed_line (s : State) : (committed s).board.line = s.board.line.commit := rfl

theorem committed_record (s : State) (j : SignId) : (committed s).board.line.records.get j =
    { s.board.line.records.get j with state := .stale, cause := none, probe := .stopped } := by
  rw [committed_line, commit_records_get]

/-- The working limits are the described ones; the links are as they were else (R184). -/
theorem committed_link (s : State) (m : Link) : (committed s).links.get m = { s.links.get m with
    limit := match m with
      | .panel => s.links.panel.limit
      | .valley => some (at2 (s.store.desc 0) 0)
      | .avalanche => some (at2 (s.store.desc 0) 2) } := by
  cases m <;> rfl

theorem committed_keeps (s : State) : KeepsBut [.commissioned, .marks, .road, .latch, .field, .sites, .zoneUnit, .board, .links,
    .store] s (committed s) := by
  intro b hb
  cases b with
  | key | notices | draws | queue => rfl
  | _ => exact absurd (by decide) hb

/-- The segment of a loaded sign is the one that its record names (R145, R194). -/
theorem loadSign_segment {st : Store} (hp : PassesLoad st) (j : SignId) :
    (st.loadSign j).segment.val = at1 (st.desc (15 + j.val)) 0 := by
  obtain ⟨_, hf, _⟩ := hp
  have hlt : at1 (st.desc (15 + j.val)) 0 < 8 := Nat.lt_succ_of_le (signFields_at hf j).1
  have hid : idOf 8 (BitVec.ofNat 8 (at1 (st.desc (15 + j.val)) 0)) = some ⟨_, hlt⟩ := idOf_ofNat ⟨_, hlt⟩
  show ((idOf 8 (BitVec.ofNat 8 (at1 (st.desc (15 + j.val)) 0))).getD 0).val = _
  rw [hid]
  rfl

theorem committed_loaded {s : State} (hp : PassesLoad s.store) : JustLoaded ((committed s).attend (commitFlags s)) := by
  have hsigns : ∀ j, (committed s).board.signs.get j = s.store.loadSign j := loadTables_sign s
  refine { commissioned := rfl, closed := fun i sg hi => ?_, gates := fun g => ?_, signs := fun j => ?_, records := fun j => ?_,
           free := ⟨rfl, rfl⟩, mark := rfl }
  · obtain ⟨sg0, h0, rfl⟩ := Option.map_eq_some_iff.1 ((committed_seg s i).symm.trans hi)
    exact congrArg Segment.state (loadSeg_eq h0)
  · have hg : ((committed s).attend (commitFlags s)).road.gates.get g = _ := committed_gate s g
    rw [hg]
    exact ⟨rfl, rfl⟩
  · have hj : ((committed s).attend (commitFlags s)).board.signs.get j = _ := hsigns j
    rw [hj]
    refine ⟨rfl, rfl, ?_⟩
    have hseg : ((committed s).attend (commitFlags s)).road.segs.get (s.store.loadSign j).segment = _ := committed_seg s _
    rw [hseg, Option.isSome_map, loadSeg_isSome]
    obtain ⟨_, _, _, _, _, hdefined, _⟩ := id hp
    exact hdefined j _ (loadSign_segment hp j).symm
  · have hr : ((committed s).attend (commitFlags s)).board.line.records.get j = _ := committed_record s j
    rw [hr]

-- ---------------------------------------------------------------- the tables after the event of a COMMIT

section
variable {s t : State} (hp : PassesLoad s.store) (h : LoadEvent ((committed s).attend (commitFlags s)) t)
include hp h

theorem commit_segments (i : SegId) {sg : Segment} (hi : t.road.segs.get i = some sg) :
    SegmentAtLoad s.since t sg ∧ SegmentAsDescribed s.store i sg := by
  have hseg : (committed s).road.segs.get i = some sg := (h.segs i).symm.trans hi
  obtain ⟨sg0, h0, rfl⟩ := Option.map_eq_some_iff.1 ((committed_seg s i).symm.trans hseg)
  obtain ⟨_, hf, _⟩ := hp
  have hdescribed := loadSeg_described (segmentFields_at hf i) h0
  exact ⟨loadSeg_atLoad h0 s.since (loadTables_site s) (h.keeps .latch (by simp)) (h.keeps .sites (by simp))
    (h.keeps .zoneUnit (by simp)), hdescribed⟩

omit hp in
theorem commit_configured (i : SegId) : (t.road.segs.get i).isSome = true ↔ at1 (s.store.desc (1 + i.val)) 0 = 1 := by
  have hseg : t.road.segs.get i = _ := (h.segs i).trans (committed_seg s i)
  rw [hseg, Option.isSome_map, loadSeg_isSome]

omit hp in
theorem commit_gates (g : GateId) :
    GateAtLoad s.store g (s.road.gates.get g).raisedSwitch (s.road.gates.get g).loweredSwitch (t.road.gates.get g) := by
  have hgate : t.road.gates.get g = _ := (h.gates g).trans (congrArg Gate.resolved (committed_gate s g))
  rw [hgate]
  exact gateAtLoad_resolved ..

omit hp in
/-- The line record of a sign after a COMMIT: STALE, or SENDING for sign 0, which is served first (R162, R175). -/
theorem commit_record (j : SignId) : t.board.line.records.get j = { s.board.line.records.get j with
    state := if j = 0 then .sending else .stale, cause := none, probe := .stopped } := by
  have hrec : ((committed s).attend (commitFlags s)).board.line.records.get j = _ := committed_record s j
  rw [h.record, hrec]
  split <;> rfl

theorem commit_signs (j : SignId) : SignAtLoad s.store t j := by
  have hsign : ((committed s).attend (commitFlags s)).board.signs.get j = s.store.loadSign j := loadTables_sign s j
  have hsel := h.signs j
  rw [hsign] at hsel
  obtain ⟨tr, htr, htarget⟩ := h.transfer
  refine ⟨(congrArg Fin.val hsel.segment).trans (loadSign_segment hp j), hsel.role, hsel.override, hsel.contentMark, hsel.needs,
    hsel.urgent, hsel.desired, ?_⟩
  rw [commit_record h]
  by_cases hj : j = 0
  · exact Or.inr ⟨if_pos hj, tr, htr, htarget.trans hj.symm⟩
  · exact Or.inl (if_neg hj)

/-- The tables without an event of their own are as loaded (R76, R97, R118, R146). -/
theorem commit_tables : (∀ i, SiteAtLoad s.store i (t.sites.get i)) ∧ (∀ z, ZoneAtLoad s.store z (t.zoneUnit.zones.get z)) ∧
    (∀ c, QualAtLoad s.store c (t.zoneUnit.quals.get c)) ∧ (∀ k, EntryAtLoad s.store k (t.board.pageMap.get k)) ∧
    (∀ c, ChannelAtLoad s.store c (s.field.channels.get c).filter (s.field.channels.get c).edge (t.field.channels.get c)) := by
  obtain ⟨_, hf, _⟩ := hp
  have hsites : t.sites = s.loadTables.sites := h.keeps .sites (by simp)
  have hzones : t.zoneUnit = s.loadTables.zoneUnit := h.keeps .zoneUnit (by simp)
  have hfield : t.field = s.loadTables.field := h.keeps .field (by simp)
  have hpages : t.board.pageMap = s.loadTables.board.pageMap := h.pageMap
  rw [hsites, hzones, hfield, hpages]
  refine ⟨fun i => ?_, fun z => ?_, fun c => ?_, fun k => ?_, fun c => ?_⟩
  · rw [loadTables_site]
    exact loadSite_atLoad (siteFields_at hf i)
  · rw [loadTables_zone]
    exact loadZone_atLoad ..
  · rw [loadTables_qual]
    exact loadQual_atLoad (channelFields_at hf c)
  · rw [loadTables_entry]
    exact loadEntry_atLoad (corridorFields_at hf) k
  · rw [loadTables_channel]
    exact loadChannel_atLoad (channelFields_at hf c) _

end

-- ---------------------------------------------------------------- the request

theorem allClosed_iff (r : Road) : r.allClosed = true ↔ ∀ i sg, r.segs.get i = some sg → sg.state = .closed := by
  unfold Road.allClosed
  rw [allIds_iff]
  refine forall_congr' fun i => ?_
  unfold Road.configured Road.isIn Road.segState
  cases r.segs.get i <;> simp

theorem heardState_panel_road (s : State) : (heardState .panel s).road = s.road := by
  rw [heardState_of_not_releases (not_releases_panel s), hear_road]

/-- The checks of a COMMIT on the panel link (R199). -/
theorem judgeCommit_panel (s : State) : judgeCommit .panel (hearing .panel s) =
    Verdict.check [if s.key = .service then none else some .key, need s.store.modeOn .state, need s.road.allClosed .state,
      need s.notices.list.isEmpty .state, need (!s.store.busy) .busy, need s.store.loadOk .state] fun _ =>
      .accept (hearing .panel s).commit fun s => Result.ok.code :: splitWord16 s.store.commissionId := by
  have hps := needPanelService_heard .panel s
  rw [if_pos rfl] at hps
  unfold judgeCommit
  rw [hearing_st, hps, heardState_store, heardState_panel_road, heardState_notices]

/-- An accepted COMMIT: the event of the load on the state in which it was judged, and the reply with the new id (R178, R199). -/
theorem commit_accepted {s : State} (hr : Ready .panel s) (hp : PassesLoad s.store)
    (hj : judgeCommit .panel (hearing .panel s) =
      .accept (hearing .panel s).commit fun s => Result.ok.code :: splitWord16 s.store.commissionId) :
    let u := heardState .panel s
    let t := takeRequest .panel 0x1C (judgeCommit .panel) s
    LoadEvent ((committed u).attend (commitFlags u)) t ∧
      Answered .panel 0x1C (0x00 :: splitWord16 (s.store.commissionId + 1)) (commitFlags u ||| (Attn.segment ||| Attn.gate))
        (committed u) t := by
  have hp' : PassesLoad (heardState .panel s).store := by rwa [heardState_store]
  obtain ⟨hload, hgain⟩ := afterLoad_finish (committed_loaded hp') (e := { hearing .panel s with
      st := (committed (heardState .panel s)).attend (commitFlags (heardState .panel s)) }) rfl
  change LoadEvent _ (hearing .panel s).commit.finish at hload
  change Gains _ _ (hearing .panel s).commit.finish at hgain
  have hstore : (hearing .panel s).commit.finish.store = (committed (heardState .panel s)).store := hload.keeps .store (by simp)
  have hid : (committed (heardState .panel s)).store.commissionId = s.store.commissionId + 1 := by
    show (heardState .panel s).store.commissionId + 1 = _
    rw [heardState_store]
  rw [takeRequest_accepted hr hj, hstore, hid]
  exact ⟨hload.of_links (startReply_answered ..).2, ((attend_gains _ _).trans' hgain).answered .panel 0x1C _⟩

theorem reloaded_attention (a : FlagSet) (s : State) :
    a ||| (commitFlags s ||| (Attn.segment ||| Attn.gate)) = a ||| Attn.segment ||| Attn.gate |||
      (if ∃ j, (s.board.line.records.get j).state = .fault then Attn.sign else 0) := by
  rw [commitFlags_eq]
  generalize (if ∃ j, (s.board.line.records.get j).state = .fault then Attn.sign else 0) = f
  rw [BitVec.or_comm f, BitVec.or_assoc, BitVec.or_assoc, BitVec.or_assoc]

/-- Hearing a frame on the panel link changes the links alone (R25, R178). -/
theorem heardState_panel_eq (s : State) : heardState .panel s = { s with links := (heardState .panel s).links } := by
  rw [heardState_of_not_releases (not_releases_panel s)]
  have hpanel : (Link.panel == Link.valley) = false ∧ (Link.panel == Link.avalanche) = false := by decide
  unfold State.hear State.hearLink
  rw [hpanel.1, hpanel.2, Bool.or_false, Bool.or_false]
  dsimp only
  split <;> rfl

/-- The links after a COMMIT: the reply on the panel link, the attention, and the described limits (R178, R184, R186). -/
theorem commit_link {s t : State} {body : List Byte} {f : FlagSet} (hans : Answered .panel 0x1C body f (committed s) t) (m : Link) :
    t.links.get m = { s.links.get m with
      receiver := if m = .panel then .replying (linkFrame 0x9C body) else (s.links.get m).receiver,
      attention := (s.links.get m).attention ||| f,
      limit := match m with
        | .panel => s.links.panel.limit
        | .valley => some (at2 (s.store.desc 0) 0)
        | .avalanche => some (at2 (s.store.desc 0) 2),
      line := (t.links.get m).line } := by
  have h := hans m
  rw [committed_link] at h
  exact h

end Sys2Proof.Machine

open Sys2Proof Sys2Proof.Machine

/-- Settles O31: each check of a COMMIT is refused in its order; where all pass, the tables are those of the description and the
event of the load resolves every gate, selects every sign and serves sign 0. -/
theorem commitReloads : Obligations.CommitReloads := by
  intro l s hr
  have hps := needPanelService_heard l s
  have hclosed := allClosed_iff s.road
  have hlist : s.notices.list.isEmpty = true ↔ s.notices.list = [] := List.isEmpty_iff
  have hbusy := busy_iff s.store
  have hload := loadOk_iff s.store
  refine ⟨_, rfl, fun hl => ?_, ?_, ?_, ?_, ?_, ?_⟩
  · exact refused_of_deny hr (check_of_failure (by rw [hearing_st, hps]; simp [hl]))
  all_goals rintro rfl
  · intro hk
    exact refused_of_deny hr ((judgeCommit_panel s).trans (check_of_failure (by simp [hk])))
  · intro hk hstate
    refine refused_of_deny hr ((judgeCommit_panel s).trans (check_of_failure ?_))
    rw [← hclosed, ne_eq, ← hlist] at hstate
    simp only [hk, if_true, need]
    cases hm : s.store.modeOn
    · rfl
    cases hc : s.road.allClosed
    · rfl
    cases hn : s.notices.list.isEmpty
    · rfl
    · simp [hm, hc, hn] at hstate
  · intro hk hm hc hn hb
    refine refused_of_deny hr ((judgeCommit_panel s).trans (check_of_failure ?_))
    simp [hk, hm, hclosed.2 hc, hlist.2 hn, hbusy.2 hb, need]
  · intro hk hm hc hn hb hp
    refine refused_of_deny hr ((judgeCommit_panel s).trans (check_of_failure ?_))
    simp [hk, hm, hclosed.2 hc, hlist.2 hn, mt hbusy.1 hb, mt hload.1 hp, need]
  · intro hk hm hc hn hb hp
    have hj := (judgeCommit_panel s).trans (check_of_pass (by
      simp [hk, hm, hclosed.2 hc, hlist.2 hn, mt hbusy.1 hb, hload.2 hp, need]))
    obtain ⟨hev, hans⟩ := commit_accepted hr hp hj
    have hlink := commit_link hans
    have hkeep := ((heardState_keeps .panel s).mono (by simp)).trans' ((committed_keeps (heardState .panel s)).trans'
      ((((attend_keeps _ _).mono (by simp)).trans' hev.keeps).mono (by simp)))
    have hheard := fun m => hear_get .panel m s
    simp only [← heardState_of_not_releases (not_releases_panel s)] at hheard
    generalize takeRequest .panel 0x1C (judgeCommit .panel) s = t at hev hans hlink hkeep ⊢
    rw [heardState_panel_eq s] at hev
    have hfield : t.field = s.loadTables.field := hev.keeps .field (by simp)
    have hconfigured := commit_configured hev
    have hsegments := commit_segments (s := { s with links := (heardState .panel s).links }) hp hev
    have hgates := commit_gates hev
    have hsigns := commit_signs (s := { s with links := (heardState .panel s).links }) hp hev
    obtain ⟨hsites, hzones, hquals, hentries, hchannels⟩ :=
      commit_tables (s := { s with links := (heardState .panel s).links }) hp hev
    obtain ⟨tr, htr, htarget⟩ := hev.transfer
    obtain ⟨hlast, hprobing, hmark⟩ := hev.marks
    obtain ⟨hvalley, havalanche⟩ := hev.keeps .marks (by simp)
    refine ⟨hkeep, hev.keeps .commissioned (by simp), hvalley, havalanche, hev.keeps .latch (by simp), hev.keeps .store (by simp),
      hconfigured, fun i sg => hsegments i, hgates, hsigns, fun m => ?_, hsites,
      hzones, hquals, hentries, hchannels, congrArg FieldUnit.sinceEpoch hfield, fun j => ?_, ?_, hprobing, hlast, hmark,
      (congrArg FieldUnit.keyA hfield :),
      (congrArg FieldUnit.keyB hfield :), ?_, ?_, ?_, fun m => ⟨?_, fun hm => ⟨?_, ?_, ?_⟩⟩⟩
    · rw [hlink]
      exact (reloaded_attention _ _).trans (by rw [heardState_board])
    · obtain ⟨_, _, hoverride, _⟩ := hsigns j
      rw [commit_record hev]
      exact ⟨rfl, rfl, rfl, rfl, hoverride⟩
    · rw [htr]
      exact congrArg some htarget
    · rw [hlink, if_pos rfl]
    · exact (congrArg LinkRecord.limit (hlink .valley)).trans (by rw [heardState_store])
    · exact (congrArg LinkRecord.limit (hlink .avalanche)).trans (by rw [heardState_store])
    all_goals
      rw [hlink]
      obtain ⟨_, hreceiver, henable, _, hactive, htimer⟩ := hheard m
    · exact henable
    · exact hactive.trans (by simp [Ne.symm hm])
    · exact htimer.trans (if_neg (Ne.symm hm))
    · exact (if_neg hm).trans hreceiver

end

section
/-! KEY_PIN_CHANGE and PULSE_INPUT_CHANGE (R65, R68, R69, R73, R75, R198): accepted changes that are an event of their own. -/

namespace Sys2Proof.Machine

/-- The key position tells the pins apart only where one alone is ACTIVE (R65). -/
theorem keyPosition_eq (a b : Bool) :
    keyPosition a b = if a = b then .locked else if a then .operate else .service := by
  cases a <;> cases b <;> rfl

/-- Leaving SERVICE ends commissioning mode (R198). -/
theorem modeAfter_eq (before after : KeyPosition) (on : Bool) :
    Ev.modeAfter before after on = if before = .service ∧ after ≠ .service then false else on := by
  cases before <;> cases after <;> cases on <;> rfl

/-- The key decoded from the pins, and what it leaves of commissioning mode (R65, R198). -/
theorem decodeKey_eq {s : State} {k : KeyPosition} (h : keyPosition s.field.keyA.level s.field.keyB.level = k) :
    s.decodeKey = { s with
      key := k,
      store := { s.store with modeOn := if s.key = .service ∧ k ≠ .service then false else s.store.modeOn } } := by
  rw [← modeAfter_eq, ← h]
  rfl

/-- An event whose operation raises no sign and asks for no arbitration ends in the state that the operation reaches. -/
theorem event_quiet {s : State} {f : Ev → Ev} (hr : (f (Ev.start s)).raised = Vector.replicate 12 false)
    (ha : (f (Ev.start s)).acts = false) : s.event f = (f (Ev.start s)).st :=
  finish_quiet _ (by rw [hr]; exact setIds_replicate_false) ha

theorem exec_keyPinChange {pin : KeyPin} {level : Bool} {s : State} (h : (s.field.pin pin).level ≠ level) :
    exec (.keyPinChange pin level) s =
      .next ({ s with field := s.field.setPin pin ⟨level, 0⟩ } : State).decodeKey := by
  have hev : s.event (Ev.acceptPin pin level) = _ := event_quiet rfl rfl
  exact congrArg Host.Outcome.next ((if_neg h).trans hev)

/-- A channel record with the accepted level (R62, R68). -/
theorem setLevel_eq (level : Bool) (ch : Channel) : ch.setLevel level =
    { ch with filter := if ch.edgeDriven then ch.filter else ⟨level, 0⟩, edge := level } := by
  unfold Channel.setLevel
  split <;> rfl

/-- What an accepted change to a level does to a channel record (R68, R69, R73, R75). -/
theorem accept_eq (level : Bool) (ch : Channel) : ch.accept level = { ch with
    count := if level = true ∧ ch.kind ≠ .unused then min 65535 (ch.count + 1) else ch.count,
    carrier := ch.carrier.map Carrier.change } := by
  unfold Channel.accept Channel.countOne Channel.counting
  cases level with
  | false => simp
  | true => by_cases hk : ch.kind = .unused <;> simp [hk]

theorem setLevel_acceptedLevel (level : Bool) (ch : Channel) : (ch.setLevel level).acceptedLevel = level := by
  unfold Channel.setLevel Channel.acceptedLevel
  split
  · next h => exact if_pos h
  · next h => exact if_neg h

theorem setLevel_acceptFlags (level : Bool) (ch : Channel) : (ch.setLevel level).acceptFlags = ch.acceptFlags := by
  unfold Channel.setLevel
  split <;> rfl

/-- An accepted change restores a carrier, with DETECTOR attention, only where it was LOST (R75). -/
theorem acceptFlags_eq (ch : Channel) :
    ch.acceptFlags = match ch.carrier with | some k => if k.present then 0 else Attn.detector | none => 0 := by
  unfold Channel.acceptFlags FlagSet.when
  cases ch.carrier with
  | none => rfl
  | some k => cases hp : k.present <;> simp [hp]

theorem exec_pulseInputChange {c : ChanId} {level : Bool} {s : State} (h : (s.field.channels.get c).acceptedLevel ≠ level) :
    exec (.pulseInputChange c level) s = .next (Ev.pulseChange c level (Ev.start s)).st := by
  have hev : s.event (Ev.pulseChange c level) = _ := event_quiet rfl rfl
  exact congrArg Host.Outcome.next ((if_neg h).trans hev)

theorem pulseChange_get (c j : ChanId) (level : Bool) (s : State) :
    (Ev.pulseChange c level (Ev.start s)).st.field.channels.get j =
      if c = j then ((s.field.channels.get c).setLevel level).accept level else s.field.channels.get j := by
  unfold Ev.pulseChange
  rw [Ev.acceptPulse_get, Ev.setChannel_get, Ev.setChannel_get]
  split
  · rw [if_pos rfl, start_st]
  · rfl

theorem pulseChange_keeps (c : ChanId) (level : Bool) (s : State) :
    KeepsBut [.field, .links] s (Ev.pulseChange c level (Ev.start s)).st :=
  ((Ev.setChannel_keeps c (Channel.setLevel level) (Ev.start s)).trans' (Ev.setChannel_keeps c (Channel.accept level) _)).trans'
    ((attend_keeps _ _).mono (by simp))

theorem pulseChange_gains (c : ChanId) (level : Bool) (s : State) :
    Gains (s.field.channels.get c).acceptFlags s (Ev.pulseChange c level (Ev.start s)).st := by
  have hflags : (((Ev.start s).setChannel c (Channel.setLevel level)).st.field.channels.get c).acceptFlags =
      (s.field.channels.get c).acceptFlags := by
    rw [Ev.setChannel_get, if_pos rfl]
    exact setLevel_acceptFlags level _
  rw [← hflags]
  exact attend_gains _ _

end Sys2Proof.Machine

open Sys2Proof Sys2Proof.Machine

/-- Settles O33: the state of the changed pin, with the key decoded from it. -/
theorem keyPinChangeDecodesTheKey : Obligations.KeyPinChangeDecodesTheKey := by
  intro pin level s h
  exact (exec_keyPinChange h).trans (congrArg Host.Outcome.next (decodeKey_eq (keyPosition_eq _ _)))

/-- Settles O34: the record of the changed channel, and the flag for its carrier. -/
theorem pulseChangeCountsAndFeedsTheCarrier : Obligations.PulseChangeCountsAndFeedsTheCarrier := by
  intro c level s h
  have hget := fun j => pulseChange_get c j level s
  have hgain := pulseChange_gains c level s
  rw [acceptFlags_eq] at hgain
  refine ⟨_, exec_pulseInputChange h, pulseChange_keeps c level s, fun j hj => (hget j).trans (if_neg (Ne.symm hj)),
    rfl, rfl, rfl, ?_⟩
  rw [hget, if_pos rfl, accept_eq]
  refine ⟨setLevel_acceptedLevel level _, ?_⟩
  rw [setLevel_eq]
  exact ⟨rfl, rfl, rfl, rfl, rfl, rfl, rfl, rfl, hgain⟩

end

section
/-! Changes of a qualification record (R108, R110, R112, R113): DETECTOR attention, the DETECTOR sources and what their arrival
makes of the exposed segments; CARRIER_LOSS (R74, R110). -/

namespace Sys2Proof.Machine

-- ---------------------------------------------------------------- an urgent kind holds the road shut (R9, R14)

/-- A segment that holds a kind is in CLOSING or CLOSED. -/
def HeldShut (k : HoldKind) (r : Road) (j : SegId) : Prop :=
  ∀ sg, r.segs.get j = some sg → sg.holds.has k = true → sg.state.shut = true

theorem heldShut_of_absent {k : HoldKind} {r : Road} {j : SegId} {sg : Segment} (hj : r.segs.get j = some sg)
    (hk : sg.holds.has k = false) : HeldShut k r j := by
  intro sg' hj' hk'
  obtain rfl := Option.some.inj (hj.symm.trans hj')
  rw [hk] at hk'
  cases hk'

/-- A change of the record that keeps the hold set and opens no shut segment. -/
theorem heldShut_of_rel {R : Segment → Segment → Prop} {k : HoldKind} {r r' : Road} {j : SegId}
    (hR : ∀ a b, R a b → b.holds = a.holds ∧ (a.state.shut = true → b.state.shut = true))
    (h : Option.Rel R (r.segs.get j) (r'.segs.get j)) (hs : HeldShut k r j) : HeldShut k r' j := by
  intro sg' hj' hk'
  rw [hj'] at h
  cases hj : r.segs.get j with
  | none => rw [hj] at h; cases h
  | some sg =>
    rw [hj] at h
    cases h with
    | some h =>
      obtain ⟨hholds, hshut⟩ := hR sg sg' h
      exact hshut (hs sg hj (by rw [← hholds]; exact hk'))

theorem heldShut_of_chain {k : HoldKind} {r r' : Road} {j : SegId}
    (h : Option.Rel ChainSeg (r.segs.get j) (r'.segs.get j)) (hs : HeldShut k r j) : HeldShut k r' j :=
  heldShut_of_rel (fun _ _ h => ⟨h.holds, h.shut⟩) h hs

theorem heldShut_of_confirms {k : HoldKind} {r r' : Road} {j : SegId}
    (h : Option.Rel Confirms (r.segs.get j) (r'.segs.get j)) (hs : HeldShut k r j) : HeldShut k r' j :=
  heldShut_of_rel (fun _ _ h => ⟨h.holds, fun hshut => by rw [h.state]; exact hshut⟩) h hs

/-- The arrival of an urgent kind shuts its segment, whatever the state (R9, R14, R20). -/
theorem Arrives.shut {k : HoldKind} {sg a : Segment} (hu : k.urgent = true) (h : Arrives k sg a) : a.state.shut = true := by
  unfold Arrives RoadEv.arrivalState at h
  cases hs : sg.state <;> simp only [hs, hu, Bool.true_or, if_true] at h
  case closing | closed => rw [h, hs]; rfl
  all_goals
    obtain rfl | ⟨h, _⟩ := h
    · rfl
    · cases h

namespace RoadEv

theorem createEntry_heldShut (ctx : RoadCtx) {k : HoldKind} (hu : k.urgent = true) (reason : Option Byte) (sources : List Nat)
    (i j : SegId) {e : RoadEv} (h : HeldShut k e.road j) : HeldShut k (createEntry ctx i k reason sources e).road j := by
  cases hi : e.road.segs.get i with
  | none =>
    unfold createEntry
    rw [hi]
    exact h
  | some sg =>
    obtain ⟨⟨b, a, hb, hc, ha⟩, hother⟩ := createEntry_seg ctx k reason sources hi
    by_cases hij : i = j
    · subst hij
      intro sg' hj' _
      obtain rfl := Option.some.inj (ha.symm.trans hj')
      exact hc.shut (hb.shut hu)
    · exact heldShut_of_chain (hother j hij) h

theorem addSource_heldShut (ctx : RoadCtx) {k : HoldKind} (hu : k.urgent = true) (n : Nat) (i j : SegId) {e : RoadEv}
    (h : HeldShut k e.road j) : HeldShut k (addSource ctx k n i e).road j := by
  unfold addSource
  split
  · exact h
  · next sg hi =>
    split
    · exact createEntry_heldShut ctx hu none [n] i j h
    · next old ho =>
      split
      · exact h
      · intro sg' hj' hk'
        rw [writeEntry_get k _ j hi] at hj'
        by_cases hij : i = j
        · subst hij
          rw [if_pos rfl] at hj'
          cases hj'
          exact h sg hi (by simp [HoldSet.has, ho])
        · rw [if_neg hij] at hj'
          exact h sg' hj' hk'

theorem each_addSource_heldShut (ctx : RoadCtx) {k : HoldKind} (hu : k.urgent = true) (n : Nat) (j : SegId) :
    ∀ (l : List SegId) {e : RoadEv}, HeldShut k e.road j → HeldShut k (each (addSource ctx k n) l e).road j
  | [], _, h => h
  | i :: l, _, h => each_addSource_heldShut ctx hu n j l (addSource_heldShut ctx hu n i j h)

end RoadEv

theorem Ev.addSource_heldShut {k : HoldKind} (hu : k.urgent = true) (n : Nat) (l : List SegId) (e : Ev) {j : SegId}
    (h : HeldShut k e.st.road j) : HeldShut k (e.addSource k n l).st.road j := by
  unfold Ev.addSource
  rw [(onRoad_spec _ e).1]
  exact RoadEv.each_addSource_heldShut _ hu n j l h

-- ---------------------------------------------------------------- a change of a qualification record

/-- What a change of a qualification record does to the DETECTOR sources of the exposed segments (R113). -/
def detectorSources (before after : Qualification) (exposed : List SegId) (n : Nat) (r : Road) (j : SegId) (m : Nat) : Prop :=
  match before.state.closes, after.state.closes with
  | false, true => Sourced r j .detector m ∨ (j ∈ exposed ∧ m = n ∧ r.configured j = true)
  | true, false => Sourced r j .detector m ∧ ¬ (j ∈ exposed ∧ m = n)
  | _, _ => Sourced r j .detector m

/-- What a change of a qualification record leaves, in its event and at the end of it (R112, R113). -/
structure QualStep (changed : List Block) (c : ChanId) (before after : Qualification) (exposed : List SegId) (s t : State) :
    Prop where
  zoneUnit : t.zoneUnit = { s.zoneUnit with quals := put s.zoneUnit.quals c (some after) }
  keeps : KeepsBut changed s t
  gains : ∃ g, Gains (detectorFlags before after ||| g) s t ∧ Within (Attn.segment ||| Attn.gate) g
  configured : ∀ i, t.road.configured i = s.road.configured i
  others : ∀ i k, k ≠ .detector → heldEntry t.road i k = heldEntry s.road i k
  sources : ∀ j m, Sourced t.road j .detector m ↔ detectorSources before after exposed c.val s.road j m
  shut : before.state.closes = false → after.state.closes = true → ∀ j, HeldShut .detector s.road j →
    HeldShut .detector t.road j

/-- The qualification record is written, and its attention set, before its sources follow. -/
def qualWritten (c : ChanId) (before after : Qualification) (s : State) : State :=
  ({ s with zoneUnit := { s.zoneUnit with quals := put s.zoneUnit.quals c (some after) } } : State).attend
    (detectorFlags before after)

theorem QualStep.of_entryStep {c : ChanId} {before after : Qualification} {exposed : List SegId} {s t : State}
    (h : EntryStep .detector (qualWritten c before after s) t)
    (hs : ∀ j m, Sourced t.road j .detector m ↔ detectorSources before after exposed c.val s.road j m)
    (hshut : before.state.closes = false → after.state.closes = true → ∀ j, HeldShut .detector s.road j →
      HeldShut .detector t.road j) : QualStep [.zoneUnit, .links, .road] c before after exposed s t := by
  obtain ⟨f, hg, hw⟩ := h.gains
  have hkeep : KeepsBut [.zoneUnit, .links] s (qualWritten c before after s) := by
    intro b hb
    cases b <;> simp_all [Block.same, qualWritten]
  have hgain : Gains (detectorFlags before after) s (qualWritten c before after s) := attend_gains _ _
  exact ⟨h.keeps .zoneUnit (by simp), (hkeep.mono (by simp)).trans' (h.keeps.mono (by simp)), ⟨f, hgain.trans' hg, hw⟩,
    h.configured, h.others, hs, hshut⟩

/-- A change of a qualification record within an event, by whether it begins or ends a hold (R113). -/
theorem onQual_spec {c : ChanId} {f : Qualification → Qualification} {e : Ev} {q : Qualification}
    (h : e.st.zoneUnit.quals.get c = some q) :
    QualStep [.zoneUnit, .links, .road] c q (f q) (e.exposedBy c) e.st (e.onQual c f).st := by
  unfold Ev.onQual
  rw [h]
  dsimp only
  generalize f q = after
  generalize he : Ev.attend (detectorFlags q after) _ = e1
  have hst : e1.st = qualWritten c q after e.st := by
    rw [← he]
    rfl
  have hexp : e1.exposedBy c = e.exposedBy c := by
    rw [← he]
    rfl
  rw [hexp]
  split
  · next hb ha =>
    obtain ⟨h1, h2⟩ := e1.addSource_spec .detector c.val (e.exposedBy c)
    have h3 := fun j => e1.addSource_heldShut (k := .detector) rfl c.val (e.exposedBy c) (j := j)
    rw [hst] at h1 h2 h3
    exact .of_entryStep h1 (fun j m => by rw [h2, detectorSources, hb, ha]; rfl) fun _ _ => h3
  · next hb ha =>
    obtain ⟨h1, h2⟩ := e1.removeSource_spec .detector c.val (e.exposedBy c)
    rw [hst] at h1 h2
    exact .of_entryStep h1 (fun j m => by rw [h2, detectorSources, hb, ha]; rfl) fun hb' => by rw [hb] at hb'; cases hb'
  · next h1 h2 =>
    refine .of_entryStep (by rw [hst]; exact .rfl' _ _) (fun j m => ?_) fun hb ha => absurd ha (h1 hb)
    rw [hst, detectorSources]
    split
    · next hb ha => exact absurd ha (h1 hb)
    · next hb ha => exact absurd ha (h2 hb)
    · rfl

/-- The end of the event leaves what the change has done. -/
theorem QualStep.finish {c : ChanId} {before after : Qualification} {exposed : List SegId} {s : State} {e : Ev}
    (h : QualStep [.zoneUnit, .links, .road] c before after exposed s e.st) :
    QualStep [.zoneUnit, .links, .road, .board] c before after exposed s e.finish := by
  have hfin := finish_ends e
  obtain ⟨g, hg, hw⟩ := h.gains
  refine ⟨(hfin.keeps .zoneUnit (by simp)).trans h.zoneUnit, (h.keeps.mono (by simp)).trans' (hfin.keeps.mono (by simp)),
    ⟨g, hg.finish, hw⟩, fun i => (hfin.configured i).trans (h.configured i),
    fun i k hk => (hfin.entries i k).trans (h.others i k hk), fun j m => ?_, fun hb ha j hj => ?_⟩
  · rw [sourced_congr (hfin.entries j .detector)]
    exact h.sources j m
  · exact heldShut_of_confirms ((finish_confirms e).2 j) (h.shut hb ha j hj)

section
variable {changed : List Block} {c : ChanId} {before after : Qualification} {exposed : List SegId} {s t : State}

theorem QualStep.onlyKind (h : QualStep changed c before after exposed s t) : OnlyKind .detector s t :=
  segmentBecomes_of_entries h.configured fun i sg sg' _ _ he he' k hk => by
    rw [← he', ← he]
    exact h.others i k hk

/-- A detector that begins to close is a DETECTOR source of every exposed segment (R113). -/
theorem QualStep.hasSource (h : QualStep changed c before after exposed s t) (hb : before.state.closes = false)
    (ha : after.state.closes = true) {i : SegId} (hi : i ∈ exposed) : HasSource t i .detector c.val :=
  hasSource_of_sourced fun hc => (h.sources i c.val).2 (by
    rw [detectorSources, hb, ha]
    exact Or.inr ⟨hi, rfl, (h.configured i).symm.trans hc⟩)

/-- An exposed segment that held no DETECTOR entry is shut by the arrival of one (R9, R113). -/
theorem QualStep.arrives_shut (h : QualStep changed c before after exposed s t) (hb : before.state.closes = false)
    (ha : after.state.closes = true) {i : SegId} (hi : i ∈ exposed) {sg : Segment} (hsg : s.road.segs.get i = some sg)
    (hnone : sg.holds.has .detector = false) : ∃ sg', t.road.segs.get i = some sg' ∧ sg'.state.shut = true := by
  have hconf := h.configured i
  unfold Road.configured at hconf
  rw [hsg] at hconf
  obtain ⟨sg', hsg'⟩ := Option.isSome_iff_exists.1 hconf
  obtain ⟨x, hx, _⟩ := h.hasSource hb ha hi sg' hsg'
  exact ⟨sg', hsg', h.shut hb ha i (heldShut_of_absent hsg hnone) sg' hsg' (by simp [HoldSet.has, hx])⟩

end

theorem exposedBy_zone {e : Ev} {c : ChanId} {z : ZoneId} (h : (e.st.field.channels.get c).owner = .zone z) :
    e.exposedBy c = (e.st.zoneUnit.zones.get z).exposed := by
  unfold Ev.exposedBy
  rw [h]
  rfl

theorem closes_of_open {d : DetectorState} (h : d = .quiet ∨ d = .pending) : d.closes = false := by
  rcases h with rfl | rfl <;> rfl

-- ---------------------------------------------------------------- CARRIER_LOSS (R74, R110)

/-- A carrier that is LOST, with its counter stopped, and DETECTOR attention for it (R74). -/
def carrierLost (c : ChanId) (s : State) : State :=
  ({ s with field := { s.field with
    channels := alter s.field.channels c fun ch => { ch with carrier := ch.carrier.map Carrier.lose } } } : State).attend
      Attn.detector

theorem carrierLost_keeps (c : ChanId) (s : State) : KeepsBut [.field, .links] s (carrierLost c s) := by
  intro b hb
  cases b <;> simp_all [Block.same, carrierLost]

theorem carrierLost_gains (c : ChanId) (s : State) : Gains Attn.detector s (carrierLost c s) := attend_gains _ _

theorem carrierLost_field {c : ChanId} {s : State} {k : Carrier} (hk : (s.field.channels.get c).carrier = some k) :
    (carrierLost c s).field = { s.field with channels := put s.field.channels c { s.field.channels.get c with
      carrier := some { k with present := false, counter := none, phase := 0 } } } := by
  have hlost : (s.field.channels.get c).carrier.map Carrier.lose =
      some { k with present := false, counter := none, phase := 0 } := by
    rw [hk]
    rfl
  rw [← hlost]
  rfl

theorem exec_carrierLoss {c : ChanId} {s : State} {k : Carrier} (hk : (s.field.channels.get c).carrier = some k)
    (hdue : k.counter = some 0) : exec (.carrierLoss c) s =
      .next ((Ev.start (carrierLost c s)).onQual c Qualification.lose).finish := by
  have hd : (s.field.channels.get c).carrierDue = true := by
    unfold Channel.carrierDue
    rw [hk]
    exact (due_iff _).2 hdue
  exact congrArg Host.Outcome.next (if_pos hd)

end Sys2Proof.Machine

open Sys2Proof Sys2Proof.Machine

/-- Settles O35: the carrier is lost, and the qualification record taken to FAILED from the state that this leaves. -/
theorem carrierLossFailsTheDetector : Obligations.CarrierLossFailsTheDetector := by
  intro c s k q hk hdue hq
  have hstep : QualStep _ c q q.lose _ (carrierLost c s) _ := (onQual_spec (f := Qualification.lose)
    (e := Ev.start (carrierLost c s)) hq).finish
  have hfield := hstep.keeps .field (by simp)
  obtain ⟨g, hg, _⟩ := hstep.gains
  refine ⟨_, exec_carrierLoss hk hdue, hfield.trans (carrierLost_field hk), hstep.zoneUnit,
    ((carrierLost_keeps c s).mono (by simp)).trans' (hstep.keeps.mono (by simp)), hstep.onlyKind,
    ⟨_, (carrierLost_gains c s).trans' hg, (includes_self _).or_left _⟩, fun z hz hopen i hi => ?_⟩
  have howner : ((carrierLost c s).field.channels.get c).owner = .zone z := by
    rw [carrierLost_field hk]
    simpa using hz
  have hi' : i ∈ (Ev.start (carrierLost c s)).exposedBy c := by
    rw [exposedBy_zone howner]
    exact hi
  exact ⟨hstep.hasSource (closes_of_open hopen) rfl hi',
    fun sg hsg hnone => hstep.arrives_shut (closes_of_open hopen) rfl hi' hsg hnone⟩

end

section
/-! MEASUREMENT_GATE_END (R71, R72, R81, R82, R108): the delivery of a site, alone or with the close of its period, and the
result of a detector. -/

namespace Sys2Proof.Machine

theorem exec_measurementGateEnd {c : ChanId} {s : State} (h : s.field.gateDue c = true) :
    exec (.measurementGateEnd c) s = .next (s.event (Ev.measurementGateEnd c)) := congrArg Host.Outcome.next (if_pos h)

theorem measurementGateEnd_site {c : ChanId} {e : Ev} {i : SiteId} (h : (e.st.field.channels.get c).owner = .site i) :
    e.measurementGateEnd c = e.siteGateEnd i := by
  unfold Ev.measurementGateEnd
  rw [h]

theorem measurementGateEnd_zone {c : ChanId} {e : Ev} {z : ZoneId} (h : (e.st.field.channels.get c).owner = .zone z) :
    e.measurementGateEnd c = e.endGate c := by
  unfold Ev.measurementGateEnd
  rw [h]

-- ---------------------------------------------------------------- the delivery of a site (R72, R82)

/-- One result enters the accumulator of its site (R82). -/
theorem take_eq (w : Nat) (a : Accumulator) (ch : Channel) :
    a.take w ch.kind ch.gateLength ch.count = afterResult w a ch := by
  have hgust : ∀ speed, max a.gustMax speed = if a.gustMax < speed then speed else a.gustMax := fun speed => by
    split <;> omega
  unfold Accumulator.take afterResult gateSpeed
  cases ch.kind with
  | wind => dsimp only; rw [hgust]
  | _ => rfl

/-- The gates of a list of channels end (R71). -/
def endGates (l : List ChanId) (v : Vector Channel 16) : Vector Channel 16 :=
  mapIds (fun j x => if l.contains j then x.endGate else x) v

/-- The results of a list of channels enter the accumulator of a site, in the order of the list (R72, R82). -/
def takeResults (l : List ChanId) (v : Vector Channel 16) (t : Site) : Site :=
  { t with acc := l.foldl (fun a j => afterResult t.config.w a (v.get j)) t.acc }

/-- A delivery to a site (R72). -/
def delivered (i : SiteId) (l : List ChanId) (s : State) : State :=
  { s with field := { s.field with channels := endGates l s.field.channels },
           sites := put s.sites i (takeResults l s.field.channels (s.sites.get i)) }

theorem endGates_get (l : List ChanId) (v : Vector Channel 16) (j : ChanId) :
    (endGates l v).get j = if l.contains j then (v.get j).endGate else v.get j := get_mapIds ..

theorem endGates_owner (l : List ChanId) (v : Vector Channel 16) (j : ChanId) :
    ((endGates l v).get j).owner = (v.get j).owner := by
  rw [endGates_get]
  split <;> rfl

theorem endGates_nil (v : Vector Channel 16) : endGates [] v = v := table_ext fun j => endGates_get [] v j

theorem endGates_cons {c : ChanId} {l : List ChanId} (hc : c ∉ l) (v : Vector Channel 16) :
    endGates l (endGates [c] v) = endGates (c :: l) v := table_ext fun j => by
  simp only [endGates_get]
  by_cases hj : j = c
  · subst hj
    simp [hc]
  · simp [hj]

theorem endGates_single (c : ChanId) (v : Vector Channel 16) : alter v c Channel.endGate = endGates [c] v :=
  table_ext fun j => by
    rw [get_alter, endGates_get]
    by_cases hj : c = j
    · subst hj
      simp
    · simp [hj, Ne.symm hj]

theorem takeResults_cons {c : ChanId} {l : List ChanId} (hc : c ∉ l) (v : Vector Channel 16) (t : Site) :
    takeResults l (endGates [c] v) (takeResults [c] v t) = takeResults (c :: l) v t := by
  have hother : ∀ j ∈ l, (endGates [c] v).get j = v.get j := fun j hj => by
    rw [endGates_get, if_neg]
    simpa using fun h : j = c => hc (h ▸ hj)
  unfold takeResults
  dsimp only [List.foldl_cons, List.foldl_nil]
  rw [List.foldl_ext _ _ _ fun a j hj => by rw [hother j hj]]

theorem takeResults_single (c : ChanId) (v : Vector Channel 16) (t : Site) :
    Site.deliver (v.get c).kind (v.get c).gateLength (v.get c).count t = takeResults [c] v t := by
  unfold Site.deliver
  rw [take_eq]
  rfl

theorem delivered_nil (i : SiteId) (s : State) : delivered i [] s = s := by
  have h : put s.sites i (takeResults [] s.field.channels (s.sites.get i)) = s.sites := put_get_self s.sites i
  unfold delivered
  rw [endGates_nil, h]

theorem delivered_cons {c : ChanId} {l : List ChanId} (hc : c ∉ l) (i : SiteId) (s : State) :
    delivered i l (delivered i [c] s) = delivered i (c :: l) s := by
  have hput : ∀ x y : Site, put (put s.sites i x) i y = put s.sites i y := fun x y => table_ext fun j => by
    by_cases hj : i = j <;> simp [get_put, hj]
  unfold delivered
  dsimp only
  rw [endGates_cons hc, get_put_same, takeResults_cons hc, hput]

theorem endGate_site {c : ChanId} {e : Ev} {i : SiteId} (h : (e.st.field.channels.get c).owner = .site i) :
    e.endGate c = e.on (delivered i [c]) := by
  unfold Ev.endGate
  dsimp only
  rw [h]
  unfold Ev.setChannel Ev.on delivered
  dsimp only
  rw [endGates_single, ← takeResults_single]
  rfl

theorem foldl_endGate {i : SiteId} : ∀ (l : List ChanId), l.Nodup → ∀ e : Ev,
    (∀ c ∈ l, (e.st.field.channels.get c).owner = .site i) →
    l.foldl (fun e c => e.endGate c) e = e.on (delivered i l)
  | [], _, e, _ => by
    unfold Ev.on
    rw [delivered_nil]
    rfl
  | c :: l, hn, e, h => by
    obtain ⟨hc, hn⟩ := List.nodup_cons.1 hn
    have howner : ∀ j ∈ l, ((e.on (delivered i [c])).st.field.channels.get j).owner = .site i := fun j hj =>
      (endGates_owner [c] e.st.field.channels j).trans (h j (List.mem_cons_of_mem _ hj))
    rw [List.foldl_cons, endGate_site (h c List.mem_cons_self), foldl_endGate l hn _ howner]
    unfold Ev.on
    rw [delivered_cons hc]

theorem mem_ofSite {f : FieldUnit} {i : SiteId} {c : ChanId} :
    c ∈ f.ofSite i ↔ (f.channels.get c).counting = true ∧ (f.channels.get c).owner = .site i := by
  simp [FieldUnit.ofSite]

theorem mem_delivery {f : FieldUnit} {i : SiteId} {c : ChanId} : c ∈ f.delivery i ↔
    c ∈ f.ofSite i ∧ ∀ j ∈ f.ofSite i, (f.channels.get c).nextEnd ≤ (f.channels.get j).nextEnd := by
  simp [FieldUnit.delivery]

theorem deliverSite_eq (i : SiteId) (e : Ev) : e.deliverSite i = e.on (delivered i (e.st.field.delivery i)) :=
  foldl_endGate _ ((nodup_idsWhere _).filter _) e fun _ hc => (mem_ofSite.1 (mem_delivery.1 hc).1).2

theorem endsPeriod_iff {f : FieldUnit} {i : SiteId} {t : Site} : f.endsPeriod i t = true ↔
    t.inUse = true ∧ ∃ c ∈ f.delivery i, (f.channels.get c).nextEnd = t.nextEnd := by
  simp [FieldUnit.endsPeriod]

theorem gateDue_iff {f : FieldUnit} {c : ChanId} : f.gateDue c = true ↔
    (f.channels.get c).counting = true ∧ (f.channels.get c).nextEnd ≤ f.sinceEpoch := by
  simp [FieldUnit.gateDue]

/-- Where a gate of the site is due and the next delivery ends the period, the period is due (R81). -/
theorem periodDue_of_endsPeriod {f : FieldUnit} {i : SiteId} {c : ChanId} {t : Site} (hc : c ∈ f.ofSite i)
    (hdue : f.gateDue c = true) (h : f.endsPeriod i t = true) : f.periodDue i t = true := by
  obtain ⟨huse, j, hj, hend⟩ := endsPeriod_iff.1 h
  have hfirst := (mem_delivery.1 hj).2
  rw [hend] at hfirst
  have hreached : t.nextEnd ≤ f.sinceEpoch := (hfirst c hc).trans (gateDue_iff.1 hdue).2
  simpa [FieldUnit.periodDue, huse, hreached] using hfirst

/-- The period-end delivery of a site closes its period, as SITE_PERIOD_CLOSE does (R81). -/
theorem siteGateEnd_closes {c : ChanId} {i : SiteId} {s : State} (hdue : s.field.gateDue c = true)
    (howner : (s.field.channels.get c).owner = .site i) (h : s.field.endsPeriod i (s.sites.get i) = true) :
    exec (.measurementGateEnd c) s = exec (.sitePeriodClose i) s := by
  have hperiod := periodDue_of_endsPeriod (mem_ofSite.2 ⟨(gateDue_iff.1 hdue).1, howner⟩) hdue h
  have hclose : exec (.sitePeriodClose i) s = .next (s.event (Ev.sitePeriodEnd i)) :=
    congrArg Host.Outcome.next (if_pos hperiod)
  have hev : (Ev.start s).siteGateEnd i = (Ev.start s).sitePeriodEnd i := (if_pos h).trans (if_pos h).symm
  rw [exec_measurementGateEnd hdue, hclose]
  unfold State.event
  rw [measurementGateEnd_site howner, hev]

/-- Another delivery of a site enters its accumulator, and nothing else (R72, R82). -/
theorem siteGateEnd_delivers {c : ChanId} {i : SiteId} {s : State} (hdue : s.field.gateDue c = true)
    (howner : (s.field.channels.get c).owner = .site i) (h : s.field.endsPeriod i (s.sites.get i) ≠ true) :
    exec (.measurementGateEnd c) s = .next (delivered i (s.field.delivery i) s) := by
  have hev : (Ev.start s).measurementGateEnd c = (Ev.start s).on (delivered i (s.field.delivery i)) := by
    rw [measurementGateEnd_site howner]
    exact (if_neg h).trans (deliverSite_eq i (Ev.start s))
  rw [exec_measurementGateEnd hdue]
  unfold State.event
  rw [hev, finish_quiet _ setIds_replicate_false rfl]
  rfl

theorem delivered_keeps (i : SiteId) (l : List ChanId) (s : State) : KeepsBut [.field, .sites] s (delivered i l s) := by
  intro b hb
  cases b <;> simp_all [Block.same, delivered]

theorem delivered_sinceEpoch (i : SiteId) (l : List ChanId) (s : State) :
    (delivered i l s).field.sinceEpoch = s.field.sinceEpoch := by
  unfold delivered
  dsimp only

-- ---------------------------------------------------------------- the result of a detector (R108, R112)

/-- The states to which one result can take a detector (R108). -/
def ResultMoves (a b : DetectorState) : Prop :=
  a = b ∨ ((a = .quiet ∨ a = .pending) ∧ b = .confirmed) ∨ (a = .quiet ∧ b = .pending) ∨ (a = .pending ∧ b = .quiet)

theorem step_moves (exceeding : Bool) (q : Qualification) : ResultMoves q.state (q.step exceeding).state := by
  unfold ResultMoves Qualification.step
  cases exceeding <;> cases q.state <;> dsimp only <;> split_ifs <;> simp

theorem includes_when_detector (b : Bool) : Includes Attn.detector (FlagSet.when b Attn.detector) ↔ b = true := by
  unfold Includes
  cases b <;> decide

theorem detectorFlags_notifies {q q' : Qualification} (h : ResultMoves q.state q'.state) (hn : q'.notify = q.notify) :
    Includes Attn.detector (detectorFlags q q') ↔ NotifiesDetector q q' := by
  unfold detectorFlags NotifiesDetector
  rw [includes_when_detector, hn]
  rcases h with h | ⟨h | h, h'⟩ | ⟨h, h'⟩ | ⟨h, h'⟩
  · rw [← h]
    cases q.state <;> simp
  · rw [h, h']; simp
  · rw [h, h']; simp
  · rw [h, h']
    cases q.notify <;> simp [NotifyMode.entry]
  · rw [h, h']
    cases q.notify <;> simp [NotifyMode.exit]

/-- A delivered result is recorded, and nothing but count and state moves beside it (R108). -/
theorem deliver_keeps (result : Nat) (q : Qualification) :
    (q.deliver result).notify = q.notify ∧ (q.deliver result).latest = some result ∧ (q.deliver result).test = q.test ∧
      (q.deliver result).trip = q.trip ∧ (q.deliver result).np = q.np ∧ (q.deliver result).nc = q.nc := by
  unfold Qualification.deliver Qualification.step
  split <;> exact ⟨rfl, rfl, rfl, rfl, rfl, rfl⟩

theorem deliver_moves (result : Nat) (q : Qualification) : ResultMoves q.state (q.deliver result).state :=
  step_moves _ { q with latest := some result }

/-- An exceeding result (R108). -/
theorem deliver_exceeding {result : Nat} {q : Qualification} (h : q.trip ≤ result) :
    (q.deliver result).count = min 15 (q.count + 1) ∧ (q.deliver result).state = match q.state with
      | .confirmed => .confirmed
      | .failed => .failed
      | .pending => if q.nc ≤ (q.deliver result).count then .confirmed else .pending
      | .quiet => if q.nc ≤ (q.deliver result).count then .confirmed
        else if q.np ≤ (q.deliver result).count then .pending else .quiet := by
  have he : q.deliver result = ({ q with latest := some result } : Qualification).step true :=
    congrArg (fun b => ({ q with latest := some result } : Qualification).step b) (decide_eq_true h)
  rw [he]
  refine ⟨rfl, ?_⟩
  unfold Qualification.step
  dsimp only
  cases q.state <;> rfl

/-- A non-exceeding result (R108). -/
theorem deliver_below {result : Nat} {q : Qualification} (h : result < q.trip) :
    (q.deliver result).count = 0 ∧ (q.deliver result).state = if q.state = .pending then .quiet else q.state := by
  have he : q.deliver result = ({ q with latest := some result } : Qualification).step false :=
    congrArg (fun b => ({ q with latest := some result } : Qualification).step b) (decide_eq_false (Nat.not_le.2 h))
  rw [he]
  refine ⟨rfl, ?_⟩
  unfold Qualification.step
  cases q.state <;> rfl

/-- The gate of one channel has ended, its result not yet delivered (R71). -/
def gateEnded (c : ChanId) (s : State) : State :=
  { s with field := { s.field with channels := put s.field.channels c (s.field.channels.get c).endGate } }

theorem gateEnded_keeps (c : ChanId) (s : State) : KeepsBut [.field] s (gateEnded c s) := by
  intro b hb
  cases b <;> simp_all [Block.same, gateEnded]

theorem detector_event {c : ChanId} {z : ZoneId} {s : State} (howner : (s.field.channels.get c).owner = .zone z) :
    s.event (Ev.measurementGateEnd c) =
      ((Ev.start (gateEnded c s)).onQual c (Qualification.deliver (s.field.channels.get c).count)).finish := by
  unfold State.event
  rw [measurementGateEnd_zone howner]
  unfold Ev.endGate
  dsimp only [start_st]
  rw [howner]
  rfl

/-- A delivered result: the change of the qualification record, from the state in which the gate has ended. -/
theorem detector_step {c : ChanId} {z : ZoneId} {s : State} {q : Qualification} (hq : s.zoneUnit.quals.get c = some q)
    (howner : (s.field.channels.get c).owner = .zone z) :
    QualStep [.zoneUnit, .links, .road, .board] c q (q.deliver (s.field.channels.get c).count)
      (s.zoneUnit.zones.get z).exposed (gateEnded c s) (s.event (Ev.measurementGateEnd c)) := by
  have howner' : ((gateEnded c s).field.channels.get c).owner = .zone z := by
    unfold gateEnded
    dsimp only
    rw [get_put_same]
    exact howner
  have hstep := (onQual_spec (f := Qualification.deliver (s.field.channels.get c).count)
    (e := Ev.start (gateEnded c s)) hq).finish
  rw [exposedBy_zone howner'] at hstep
  rw [detector_event howner]
  exact hstep

end Sys2Proof.Machine

open Sys2Proof Sys2Proof.Machine

/-- Settles O36: by the owner of the channel; the delivery of a site by whether it ends the period. -/
theorem measurementGateDelivers : Obligations.MeasurementGateDelivers := by
  intro c s hdue
  refine ⟨fun i howner => ⟨fun huse hend => ?_, fun h => ?_⟩, fun z q howner hq => ?_⟩
  · exact siteGateEnd_closes hdue howner (endsPeriod_iff.2 ⟨huse, hend⟩)
  · have hno : s.field.endsPeriod i (s.sites.get i) ≠ true := fun hp => by
      obtain ⟨huse, j, hj, hend⟩ := endsPeriod_iff.1 hp
      rcases h with h | h
      · rw [huse] at h
        cases h
      · exact h j hj hend
    exact ⟨_, siteGateEnd_delivers hdue howner hno, delivered_keeps i _ s, endGates_get _ s.field.channels,
      delivered_sinceEpoch i _ s, rfl⟩
  · have hstep := detector_step hq howner
    have hmoves := deliver_moves (s.field.channels.get c).count q
    obtain ⟨hnotify, hlatest, htest, htrip, hnp, hnc⟩ := deliver_keeps (s.field.channels.get c).count q
    obtain ⟨g, hg, hw⟩ := hstep.gains
    refine ⟨_, q.deliver (s.field.channels.get c).count, exec_measurementGateEnd hdue, hstep.zoneUnit,
      hstep.keeps .field (by simp), ((gateEnded_keeps c s).mono (by simp)).trans' (hstep.keeps.mono (by simp)),
      hstep.onlyKind, ⟨_, hg, ?_, ?_⟩, hnotify, hlatest, htest, htrip, hnp, hnc, deliver_exceeding, deliver_below,
      fun hopen hconf i hi => hstep.hasSource (closes_of_open hopen) (by rw [hconf]; rfl) hi⟩
    · exact ((detectorFlags_within _ _).mono (by decide)).or (hw.mono (by decide))
    · exact (includes_or_iff hw (by decide)).trans (detectorFlags_notifies hmoves hnotify)

end

section
/-! QUERY (R190): its checks in their order (log 13), and the report of each object. -/

namespace Sys2Proof.Machine

-- ---------------------------------------------------------------- the reply

/-- An accepted QUERY is answered from the state that hearing its frame leaves (R190). -/
theorem exec_query {l : Link} {object id part : Byte} {s : State} (hr : Ready l s) : exec (.query l object id part) s =
    .next ((afterHearing l s).startReply l 0x02 (queryBody (afterHearing l s) object id part)) :=
  congrArg Host.Outcome.next
    (takeRequest_accepted (judge := judgeQuery object id part) (e := hearing l s) (kind := 0x02) hr rfl)

theorem queryBody_of_error {h : State} {object id part : Byte} {r : Result} (hq : queryFields h object id part = .error r) :
    queryBody h object id part = [r.code] := by
  unfold queryBody
  rw [hq]

theorem queryBody_of_ok {h : State} {object id part : Byte} {fields : List Byte}
    (hq : queryFields h object id part = .ok fields) :
    queryBody h object id part = [0x00, object, id, part] ++ fields := by
  unfold queryBody
  rw [hq]
  rfl

theorem idOf_eq_none {n : Nat} {b : Byte} (h : n ≤ b.toNat) : idOf n b = none := dif_neg (Nat.not_lt.2 h)

theorem transferOf_eq (h : State) (i : SignId) :
    transferOf h i = h.board.line.transfer.filter fun x => x.target == i := by
  unfold transferOf
  cases h.board.line.transfer with
  | none => rfl
  | some x => by_cases hx : x.target = i <;> simp [hx, Option.filter]

theorem unreadable_eq (h : State) (i : SignId) : unreadable h i =
    ((h.board.signs.get i).desired.map fun d => (h.store.pageCodes d.ref.page).isNone).getD false := by
  unfold unreadable
  cases (h.board.signs.get i).desired <;> rfl

-- ---------------------------------------------------------------- the checks and the reports

section fields

variable {h : State} {object id part : Byte}

theorem query_largeObject (ho : 9 < object.toNat) : queryFields h object id part = .error .range := if_pos ho

/-- An object that exists, with a part that it does not have (log 13). -/
theorem query_badPart (ho : object.toNat ≤ 9) (hp : (object = 2 ∧ 3 < part.toNat) ∨ (object ≠ 2 ∧ part ≠ 0)) :
    queryFields h object id part = .error .range := by
  have hbad : (if object = 2 then decide (part.toNat ≤ 3) else part == 0) = false := by
    rcases hp with ⟨rfl, hp⟩ | ⟨hne, hp⟩
    · simpa using hp
    · rw [if_neg hne]
      simpa using hp
  unfold queryFields
  dsimp only
  rw [if_neg (Nat.not_lt.2 ho), hbad]
  rfl

theorem query_segment {i : SegId} {sg : Segment} (ho : object = 0) (hp : part = 0) (hi : id.toNat = i.val)
    (hs : h.road.segs.get i = some sg) : queryFields h object id part = .ok (segmentFields sg) := by
  subst ho hp
  simp [queryFields, idOf_eq_some.2 hi, hs]

theorem query_noSegment (ho : object = 0) (hp : part = 0)
    (hs : ∀ i : SegId, id.toNat = i.val → h.road.segs.get i = none) : queryFields h object id part = .error .range := by
  subst ho hp
  cases hid : idOf 8 id with
  | none => simp [queryFields, hid]
  | some i => simp [queryFields, hid, hs i (idOf_eq_some.1 hid)]

theorem query_gate {i : GateId} (ho : object = 1) (hp : part = 0) (hi : id.toNat = i.val) :
    queryFields h object id part = .ok (gateFields (h.road.gates.get i)) := by
  subst ho hp
  simp [queryFields, idOf_eq_some.2 hi]

theorem query_zone {z : ZoneId} (ho : object = 3) (hp : part = 0) (hi : id.toNat = z.val) :
    queryFields h object id part = .ok (zoneFields h z) := by
  subst ho hp
  simp [queryFields, idOf_eq_some.2 hi]

theorem query_noGateOrZone (ho : object = 1 ∨ object = 3) (hp : part = 0) (hi : 6 ≤ id.toNat) :
    queryFields h object id part = .error .range := by
  rcases ho with rfl | rfl <;> subst hp <;> simp [queryFields, idOf_eq_none hi]

theorem query_sign {i : SignId} {fields : List Byte} (ho : object = 2) (hp : part.toNat ≤ 3) (hi : id.toNat = i.val)
    (hs : signPart h i part.toNat = some fields) : queryFields h object id part = .ok fields := by
  subst ho
  simp [queryFields, hp, idOf_eq_some.2 hi, hs]

theorem query_signRecord {i : SignId} (ho : object = 2) (hp : part = 0) (hi : id.toNat = i.val) :
    queryFields h object id part = .ok (signFields (h.board.signs.get i) ++ lineFields (h.board.line.records.get i)
      ++ optField transferFields (h.board.line.transfer.filter fun x => x.target == i)
      ++ flag1 (((h.board.signs.get i).desired.map fun d => (h.store.pageCodes d.ref.page).isNone).getD false)) := by
  rw [← transferOf_eq, ← unreadable_eq]
  subst hp
  exact query_sign ho (by decide) hi rfl

theorem query_signDesired {i : SignId} (ho : object = 2) (hp : part = 1) (hi : id.toNat = i.val) :
    queryFields h object id part = .ok (optField Desired.codes (h.board.signs.get i).desired) := by
  subst hp
  exact query_sign ho (by decide) hi rfl

theorem query_signConfirmed {i : SignId} (ho : object = 2) (hp : part = 2) (hi : id.toNat = i.val) :
    queryFields h object id part = .ok (optField Confirmed.codes (h.board.line.records.get i).confirmed) := by
  subst hp
  exact query_sign ho (by decide) hi rfl

theorem query_signTransfer {i : SignId} (ho : object = 2) (hp : part = 3) (hi : id.toNat = i.val) :
    queryFields h object id part =
      .ok (optField (fun x => x.page.codes) (h.board.line.transfer.filter fun x => x.target == i)) := by
  rw [← transferOf_eq]
  subst hp
  exact query_sign ho (by decide) hi rfl

theorem query_noSign (ho : object = 2) (hp : part.toNat ≤ 3) (hi : 12 ≤ id.toNat) :
    queryFields h object id part = .error .range := by
  subst ho
  simp [queryFields, hp, idOf_eq_none hi]

theorem query_channel {c : ChanId} (ho : object = 4) (hp : part = 0) (hi : id.toNat = c.val) :
    queryFields h object id part = .ok (channelFields h.field c) := by
  subst ho hp
  simp [queryFields, idOf_eq_some.2 hi]

theorem query_noChannel (ho : object = 4) (hp : part = 0) (hi : 16 ≤ id.toNat) :
    queryFields h object id part = .error .range := by
  subst ho hp
  simp [queryFields, idOf_eq_none hi]

theorem query_site {i : SiteId} (ho : object = 5) (hp : part = 0) (hi : id.toNat = i.val) :
    queryFields h object id part = .ok (siteFields h.field (h.sites.get i) i) := by
  subst ho hp
  simp [queryFields, idOf_eq_some.2 hi]

theorem query_noSite (ho : object = 5) (hp : part = 0) (hi : 4 ≤ id.toNat) :
    queryFields h object id part = .error .range := by
  subst ho hp
  simp [queryFields, idOf_eq_none hi]

theorem within_noticeIds {id : Byte} : within 1 16 id.toNat = true ↔ id ≠ 0 ∧ id.toNat ≤ 16 := by
  have hzero : id = 0 ↔ id.toNat = 0 := ⟨fun h => by rw [h]; rfl, fun h => BitVec.eq_of_toNat_eq h⟩
  rw [ne_eq, hzero]
  simp [within]
  omega

theorem query_notice {n : Notice} (ho : object = 6) (hp : part = 0) (hi : id ≠ 0) (hmax : id.toNat ≤ 16)
    (hn : h.notices.list.find? (fun m => m.id == id.toNat) = some n) :
    queryFields h object id part = .ok (noticeFields n) := by
  subst ho hp
  simp [queryFields, within_noticeIds.2 ⟨hi, hmax⟩, findNotice, hn]

theorem query_unknownNotice (ho : object = 6) (hp : part = 0) (hi : id ≠ 0) (hmax : id.toNat ≤ 16)
    (hn : ∀ n ∈ h.notices.list, n.id ≠ id.toNat) : queryFields h object id part = .error .unknownId := by
  subst ho hp
  have hnone : findNotice h.notices.list id.toNat = none := by
    simpa [findNotice] using hn
  simp [queryFields, within_noticeIds.2 ⟨hi, hmax⟩, hnone]

theorem query_noNotice (ho : object = 6) (hp : part = 0) (hi : id = 0 ∨ 16 < id.toNat) :
    queryFields h object id part = .error .range := by
  subst ho hp
  have hout : within 1 16 id.toNat = false := Bool.eq_false_iff.2 fun hw => by
    obtain ⟨hz, hmax⟩ := within_noticeIds.1 hw
    exact hi.elim hz (Nat.not_lt.2 hmax)
  simp [queryFields, hout]

theorem query_noticeList (ho : object = 7) (hp : part = 0) :
    queryFields h object id part = .ok (listField noticeLine h.notices.list) := by
  subst ho hp
  simp [queryFields]

theorem query_latch (ho : object = 8) (hp : part = 0) : queryFields h object id part = .ok (latchFields h) := by
  subst ho hp
  simp [queryFields]

theorem query_link {m : Link} (ho : object = 9) (hp : part = 0) (hi : linkOf id.toNat = some m) :
    queryFields h object id part = .ok (linkReport h m) := by
  subst ho hp
  simp [queryFields, hi]

/-- The report of a link, its two sets by the numbers of their flags (R183, R186, log 43). -/
theorem linkReport_eq (h : State) (m : Link) : linkReport h m =
    byte1 (if (h.links.get m).active then 0 else 1) ++ optField byte2 (h.links.get m).limit ++ timerField (h.links.get m).timer
      ++ byte1 ((List.range 11).filter fun n => (h.links.get m).attention.getLsbD n).length
      ++ ((List.range 11).filter fun n => (h.links.get m).attention.getLsbD n).flatMap byte1
      ++ byte1 ((List.range 11).filter fun n => (h.links.get m).enable.getLsbD n).length
      ++ ((List.range 11).filter fun n => (h.links.get m).enable.getLsbD n).flatMap byte1
      ++ if m = .panel then byte1 h.key.code else [] := by
  unfold linkReport linkFields flagListField listField firstNamed
  simp only [List.append_assoc]

theorem query_noLink (ho : object = 9) (hp : part = 0) (hi : 3 ≤ id.toNat) :
    queryFields h object id part = .error .range := by
  subst ho hp
  have hnone : linkOf id.toNat = none := by
    unfold linkOf
    rw [if_neg (by omega), if_neg (by omega), if_neg (by omega)]
  simp [queryFields, hnone]

end fields

end Sys2Proof.Machine

open Sys2Proof Sys2Proof.Machine

/-- Settles O8: the reply by the object, the part and the id, in this order. -/
theorem queryReportsAndChangesNothing : Obligations.QueryReportsAndChangesNothing := by
  intro l object id part s hr
  refine ⟨_, exec_query hr, ?_⟩
  intro h reports
  have hno : ∀ r, queryFields h object id part = .error r → Refused l 0x02 r s _ := fun r hq =>
    congrArg (fun body => h.startReply l 0x02 body) (queryBody_of_error hq)
  have hok : ∀ fields, queryFields h object id part = .ok fields → reports fields := fun fields hq =>
    congrArg (fun body => h.startReply l 0x02 body) (queryBody_of_ok hq)
  refine ⟨fun ho => hno _ (query_largeObject ho), fun ho hp => hno _ (query_badPart ho hp),
    fun ho hp hi => hno _ (query_noSign ho hp hi),
    fun hp => ⟨fun ho hs => hno _ (query_noSegment ho hp hs), fun ho hi => hno _ (query_noGateOrZone ho hp hi),
      fun ho hi => hno _ (query_noChannel ho hp hi), fun ho hi => hno _ (query_noSite ho hp hi),
      fun ho hi => hno _ (query_noNotice ho hp hi), fun ho hi hmax hn => hno _ (query_unknownNotice ho hp hi hmax hn),
      fun ho hi => hno _ (query_noLink ho hp hi)⟩,
    fun hp => ⟨fun i sg ho hi hs => hok _ (query_segment ho hp hi hs), fun i ho hi => hok _ (query_gate ho hp hi),
      fun z ho hi => hok _ (query_zone ho hp hi), fun c ho hi => hok _ (query_channel ho hp hi),
      fun i ho hi => hok _ (query_site ho hp hi), fun n ho hi hmax hn => hok _ (query_notice ho hp hi hmax hn),
      fun ho => hok _ (query_noticeList ho hp), fun ho => hok _ (query_latch ho hp), fun m ho hi => ?_⟩,
    fun i ho hi => ⟨fun hp => hok _ (query_signRecord ho hp hi), fun hp => hok _ (query_signDesired ho hp hi),
      fun hp => hok _ (query_signConfirmed ho hp hi), fun hp => hok _ (query_signTransfer ho hp hi)⟩⟩
  have hm : linkOf id.toNat = some m := by
    rw [hi]
    cases m <;> rfl
  exact hok _ ((query_link ho hp hm).trans (congrArg Except.ok (linkReport_eq h m)))

end

section
/-! What a step on hold entries leaves of a segment record (R5 to R9, R42): everything but its hold set and the fields of the
segment state machine; and what several additions or removals of sources make together. -/

namespace Sys2Proof.Machine

-- ---------------------------------------------------------------- the segment record beside its hold set

/-- A segment record without its hold set and without the fields that the segment state machine writes. -/
def segFixed (sg : Segment) : Segment := { segFrame sg with holds := HoldSet.none }

/-- Two roads agree on every segment record, but for the hold sets and the segment state machine. -/
def RoadFixed (r r' : Road) : Prop := ∀ i, (r'.segs.get i).map segFixed = (r.segs.get i).map segFixed

theorem RoadFixed.rfl' (r : Road) : RoadFixed r r := fun _ => rfl

theorem RoadFixed.of_eq {r r' : Road} (h : r' = r) : RoadFixed r r' := h ▸ .rfl' r

theorem RoadFixed.trans' {a b c : Road} (h : RoadFixed a b) (k : RoadFixed b c) : RoadFixed a c := fun i => (k i).trans (h i)

theorem RoadFrame.fixed {r r' : Road} (h : RoadFrame r r') : RoadFixed r r' := fun i => by
  have hframe : ∀ o : Option Segment, o.map segFixed = (o.map segFrame).map segFixed := fun o => by cases o <;> rfl
  rw [hframe, h.1 i, ← hframe]

theorem SameRoad.fixed {s t : State} (h : SameRoad s t) : RoadFixed s.road t.road := fun i => by
  have htimeless : ∀ o : Option Segment, o.map segFixed = (o.map Segment.timeless).map segFixed := fun o => by cases o <;> rfl
  rw [htimeless, h.2 i, ← htimeless]

namespace RoadEv

theorem setSeg_fixed (e : RoadEv) (i : SegId) {f : Segment → Segment} (hf : ∀ sg, segFixed (f sg) = segFixed sg) :
    RoadFixed e.road (e.setSeg i f).road := fun j => by
  rw [setSeg_get]
  split
  · next hij => subst hij; cases e.road.segs.get i <;> simp [hf]
  · rfl

theorem writeEntry_fixed (e : RoadEv) (i : SegId) (k : HoldKind) (o : Option HoldEntry) :
    RoadFixed e.road (e.writeEntry i k o).road := setSeg_fixed e i fun _ => rfl

theorem createEntry_fixed (ctx : RoadCtx) (i : SegId) (k : HoldKind) (reason : Option Byte) (sources : List Nat) (e : RoadEv) :
    RoadFixed e.road (createEntry ctx i k reason sources e).road := by
  unfold createEntry
  split
  · exact .rfl' _
  · dsimp only
    split
    · exact (writeEntry_fixed e i k _).trans' (chain_enterSeg_frame ctx _ i _).fixed
    · exact writeEntry_fixed e i k _

theorem deleteEntry_fixed (ctx : RoadCtx) (i : SegId) (k : HoldKind) (e : RoadEv) :
    RoadFixed e.road (deleteEntry ctx i k e).road := by
  unfold deleteEntry
  split
  · exact .rfl' _
  · split
    · dsimp only
      split
      · exact (writeEntry_fixed e i k none).trans' (chain_enterSeg_frame ctx _ i _).fixed
      · exact writeEntry_fixed e i k none
    · exact .rfl' _

theorem place_fixed (ctx : RoadCtx) (k : HoldKind) (reason : Option Byte) (i : SegId) (e : RoadEv) :
    RoadFixed e.road (place ctx k reason i e).road := by
  unfold place
  split
  · exact .rfl' _
  · split
    · exact createEntry_fixed ctx i k reason [] e
    · split
      · exact .rfl' _
      · exact writeEntry_fixed e i k _

theorem addSource_fixed (ctx : RoadCtx) (k : HoldKind) (n : Nat) (i : SegId) (e : RoadEv) :
    RoadFixed e.road (addSource ctx k n i e).road := by
  unfold addSource
  split
  · exact .rfl' _
  · split
    · exact createEntry_fixed ctx i k none [n] e
    · split
      · exact .rfl' _
      · exact writeEntry_fixed e i k _

theorem removeSource_fixed (ctx : RoadCtx) (k : HoldKind) (n : Nat) (i : SegId) (e : RoadEv) :
    RoadFixed e.road (removeSource ctx k n i e).road := by
  unfold removeSource
  split
  · exact .rfl' _
  · split
    · exact .rfl' _
    · split
      · dsimp only
        split
        · exact deleteEntry_fixed ctx i k e
        · exact writeEntry_fixed e i k _
      · exact .rfl' _

theorem each_fixed {f : SegId → RoadEv → RoadEv} (hf : ∀ i e, RoadFixed e.road (f i e).road) :
    ∀ (l : List SegId) (e : RoadEv), RoadFixed e.road (each f l e).road
  | [], _ => .rfl' _
  | i :: l, e => (hf i e).trans' (each_fixed hf l (f i e))

/-- A step at one segment leaves the entries of the others, and so do such steps at the segments of a list. -/
theorem each_elsewhere {f : SegId → RoadEv → RoadEv} {k : HoldKind}
    (hf : ∀ i e j, i ≠ j → heldEntry (f i e).road j k = heldEntry e.road j k) :
    ∀ (l : List SegId) (e : RoadEv) (j : SegId), j ∉ l → heldEntry (each f l e).road j k = heldEntry e.road j k
  | [], _, _, _ => rfl
  | i :: l, e, j, hj => (each_elsewhere hf l (f i e) j (fun h => hj (List.mem_cons_of_mem _ h))).trans
      (hf i e j fun h => hj (h ▸ List.mem_cons_self))

theorem addSource_elsewhere (ctx : RoadCtx) (k : HoldKind) (n : Nat) (i : SegId) (e : RoadEv) (j : SegId) (h : i ≠ j) :
    heldEntry (addSource ctx k n i e).road j k = heldEntry e.road j k :=
  ((addSource_spec ctx k n i e).2 j k).trans (if_neg fun h' => h h'.1)

theorem removeSource_elsewhere (ctx : RoadCtx) (k : HoldKind) (n : Nat) (i : SegId) (e : RoadEv) (j : SegId) (h : i ≠ j) :
    heldEntry (removeSource ctx k n i e).road j k = heldEntry e.road j k :=
  ((removeSource_spec ctx k n i e).2 j k).trans (if_neg fun h' => h h'.1)

theorem place_others (ctx : RoadCtx) (k : HoldKind) (reason : Option Byte) (i : SegId) (e : RoadEv) :
    (∀ j, (place ctx k reason i e).road.configured j = e.road.configured j) ∧
      ∀ j k', k' ≠ k → heldEntry (place ctx k reason i e).road j k' = heldEntry e.road j k' :=
  ⟨(place_spec ctx k reason i e).1, fun j k' hk => ((place_spec ctx k reason i e).2 j k').trans
    (if_neg fun h => hk h.2.1.symm)⟩

end RoadEv

-- ---------------------------------------------------------------- a step on the sources of one kind, within an event

/-- A step within an event that changes the entries of one kind at the segments of a list and what follows from them on the
road (R5 to R9). -/
structure SourceStep (k : HoldKind) (l : List SegId) (s t : State) : Prop extends EntryStep k s t where
  fixed : RoadFixed s.road t.road
  elsewhere : ∀ j, j ∉ l → heldEntry t.road j k = heldEntry s.road j k

theorem SourceStep.rfl' (k : HoldKind) (l : List SegId) (s : State) : SourceStep k l s s :=
  ⟨.rfl' k s, .rfl' _, fun _ _ => rfl⟩

theorem EntryStep.trans' {k : HoldKind} {s t u : State} (h : EntryStep k s t) (h' : EntryStep k t u) : EntryStep k s u := by
  obtain ⟨f, hf, hwf⟩ := h.gains
  obtain ⟨g, hg, hwg⟩ := h'.gains
  exact ⟨h.keeps.trans' h'.keeps, ⟨_, hf.trans' hg, hwf.or hwg⟩, fun i => (h'.configured i).trans (h.configured i),
    fun i k' hk => (h'.others i k' hk).trans (h.others i k' hk)⟩

theorem SourceStep.trans' {k : HoldKind} {l : List SegId} {s t u : State} (h : SourceStep k l s t) (h' : SourceStep k l t u) :
    SourceStep k l s u :=
  ⟨h.toEntryStep.trans' h'.toEntryStep, h.fixed.trans' h'.fixed, fun j hj => (h'.elsewhere j hj).trans (h.elsewhere j hj)⟩

theorem SourceStep.mono {k : HoldKind} {l l' : List SegId} {s t : State} (h : SourceStep k l s t) (hl : ∀ j ∈ l, j ∈ l') :
    SourceStep k l' s t := ⟨h.toEntryStep, h.fixed, fun j hj => h.elsewhere j fun h => hj (hl j h)⟩

theorem SourceStep.foldl {α : Type} {k : HoldKind} {l : List SegId} {f : Ev → α → Ev} :
    ∀ {xs : List α}, (∀ x ∈ xs, ∀ e, SourceStep k l e.st (f e x).st) → ∀ e : Ev, SourceStep k l e.st (xs.foldl f e).st
  | [], _, _ => .rfl' ..
  | x :: _, hf, e => (hf x List.mem_cons_self e).trans'
      (SourceStep.foldl (fun y hy => hf y (List.mem_cons_of_mem _ hy)) (f e x))

theorem onRoad_fixed {f : RoadCtx → RoadEv → RoadEv} (hf : ∀ ctx e, RoadFixed e.road (f ctx e).road) (e : Ev) :
    RoadFixed e.st.road (e.onRoad f).st.road := by
  rw [(onRoad_spec f e).1]
  exact hf e.st.roadCtx (roadStart e.st)

theorem Ev.addSource_step (k : HoldKind) (n : Nat) (l : List SegId) (e : Ev) :
    SourceStep k l e.st (e.addSource k n l).st := by
  refine ⟨(e.addSource_spec k n l).1, onRoad_fixed (fun ctx => RoadEv.each_fixed (RoadEv.addSource_fixed ctx k n) l) e,
    fun j hj => ?_⟩
  unfold Ev.addSource
  rw [(onRoad_spec _ e).1]
  exact RoadEv.each_elsewhere (RoadEv.addSource_elsewhere _ k n) l (roadStart e.st) j hj

theorem Ev.removeSource_step (k : HoldKind) (n : Nat) (l : List SegId) (e : Ev) :
    SourceStep k l e.st (e.removeSource k n l).st := by
  refine ⟨(e.removeSource_spec k n l).1, onRoad_fixed (fun ctx => RoadEv.each_fixed (RoadEv.removeSource_fixed ctx k n) l) e,
    fun j hj => ?_⟩
  unfold Ev.removeSource
  rw [(onRoad_spec _ e).1]
  exact RoadEv.each_elsewhere (RoadEv.removeSource_elsewhere _ k n) l (roadStart e.st) j hj

-- ---------------------------------------------------------------- several sources, one after the other

section
variable {α : Type} (k : HoldKind) (n : α → Nat) (segs : α → List SegId)

/-- The sources of a list of causes are added, each at its own segments. -/
def Ev.addEach (xs : List α) (e : Ev) : Ev := xs.foldl (fun e x => e.addSource k (n x) (segs x)) e

/-- The sources of a list of causes are removed, each at its own segments. -/
def Ev.removeEach (xs : List α) (e : Ev) : Ev := xs.foldl (fun e x => e.removeSource k (n x) (segs x)) e

theorem Ev.addEach_step {l : List SegId} {xs : List α} (hl : ∀ x ∈ xs, ∀ j ∈ segs x, j ∈ l) (e : Ev) :
    SourceStep k l e.st (e.addEach k n segs xs).st :=
  SourceStep.foldl (fun x hx e => (e.addSource_step k (n x) (segs x)).mono (hl x hx)) e

theorem Ev.removeEach_step {l : List SegId} {xs : List α} (hl : ∀ x ∈ xs, ∀ j ∈ segs x, j ∈ l) (e : Ev) :
    SourceStep k l e.st (e.removeEach k n segs xs).st :=
  SourceStep.foldl (fun x hx e => (e.removeSource_step k (n x) (segs x)).mono (hl x hx)) e

theorem Ev.addEach_sourced (j : SegId) (m : Nat) : ∀ (xs : List α) (e : Ev),
    Sourced (e.addEach k n segs xs).st.road j k m ↔
      Sourced e.st.road j k m ∨ (e.st.road.configured j = true ∧ ∃ x ∈ xs, j ∈ segs x ∧ m = n x)
  | [], e => by simp [Ev.addEach]
  | x :: xs, e => by
    obtain ⟨hstep, hsource⟩ := e.addSource_spec k (n x) (segs x)
    show Sourced ((e.addSource k (n x) (segs x)).addEach k n segs xs).st.road j k m ↔ _
    rw [Ev.addEach_sourced j m xs, hsource, hstep.configured]
    simp only [List.mem_cons, exists_eq_or_imp]
    tauto

theorem Ev.removeEach_sourced (j : SegId) (m : Nat) : ∀ (xs : List α) (e : Ev),
    Sourced (e.removeEach k n segs xs).st.road j k m ↔ Sourced e.st.road j k m ∧ ¬ ∃ x ∈ xs, j ∈ segs x ∧ m = n x
  | [], e => by simp [Ev.removeEach]
  | x :: xs, e => by
    show Sourced ((e.removeSource k (n x) (segs x)).removeEach k n segs xs).st.road j k m ↔ _
    rw [Ev.removeEach_sourced j m xs, (e.removeSource_spec k (n x) (segs x)).2]
    simp only [List.mem_cons, exists_eq_or_imp]
    rw [not_or, and_assoc]

end

end Sys2Proof.Machine

end

section
/-! The close of a site period (R81, R92 to R94, R96): the restriction records and the WEATHER causes of the served segments,
and the state that the event leaves. -/

namespace Sys2Proof.Machine

-- ---------------------------------------------------------------- the WEATHER causes of one segment (R94)

/-- The reported values of a site give a segment a WEATHER cause, by the segment's options (R94). -/
def CauseReported (t : Site) (sg : Segment) (n : Nat) : Prop :=
  (n = causeIce ∧ t.reportedGrade = 4 ∧ sg.iceAuto = true) ∨ (n = causeWind ∧ t.reportedWind = 2 ∧ sg.windAuto = true)

/-- The same, of the segment that a road holds. -/
def CauseDue (t : Site) (r : Road) (j : SegId) (n : Nat) : Prop := ∃ sg, r.segs.get j = some sg ∧ CauseReported t sg n

theorem mem_weatherCauses {t : Site} {ice wind : Bool} {c : Nat × Bool} : c ∈ weatherCauses t ice wind ↔
    c = (causeIce, t.reportedGrade == 4 && ice) ∨ c = (causeWind, t.reportedWind == 2 && wind) := by
  simp [weatherCauses]

/-- The causes that should be present are those that the reported values give (R94). -/
theorem weatherCauses_present (t : Site) (sg : Segment) (n : Nat) :
    (∃ c ∈ (weatherCauses t sg.iceAuto sg.windAuto).filter (·.2), n = c.1) ↔ CauseReported t sg n := by
  simp only [List.mem_filter, mem_weatherCauses, CauseReported]
  constructor
  · rintro ⟨c, ⟨rfl | rfl, h⟩, rfl⟩
    · exact Or.inl ⟨rfl, by simpa using h⟩
    · exact Or.inr ⟨rfl, by simpa using h⟩
  · rintro (⟨rfl, h1, h2⟩ | ⟨rfl, h1, h2⟩)
    · exact ⟨_, ⟨Or.inl rfl, by simp [h1, h2]⟩, rfl⟩
    · exact ⟨_, ⟨Or.inr rfl, by simp [h1, h2]⟩, rfl⟩

/-- Every other WEATHER cause should be absent (R94). -/
theorem weatherCauses_absent (t : Site) (sg : Segment) (n : Nat) :
    (∃ c ∈ (weatherCauses t sg.iceAuto sg.windAuto).filter (!·.2), n = c.1) ↔
      (n = causeIce ∨ n = causeWind) ∧ ¬ CauseReported t sg n := by
  simp only [List.mem_filter, mem_weatherCauses, CauseReported]
  have hne : causeIce ≠ causeWind := by decide
  constructor
  · rintro ⟨c, ⟨rfl | rfl, h⟩, rfl⟩
    · exact ⟨Or.inl rfl, by simpa [hne, imp_iff_not_or] using h⟩
    · exact ⟨Or.inr rfl, by simpa [hne.symm, imp_iff_not_or] using h⟩
  · rintro ⟨rfl | rfl, h⟩
    · exact ⟨_, ⟨Or.inl rfl, by simpa [hne, imp_iff_not_or] using h⟩, rfl⟩
    · exact ⟨_, ⟨Or.inr rfl, by simpa [hne.symm, imp_iff_not_or] using h⟩, rfl⟩

theorem causeDue_congr {r r' : Road} (h : RoadFixed r r') (t : Site) (j : SegId) (n : Nat) :
    CauseDue t r' j n ↔ CauseDue t r j n := by
  have hfixed : ∀ q : Road, CauseDue t q j n ↔ ∃ x, (q.segs.get j).map segFixed = some x ∧ CauseReported t x n := fun q => by
    unfold CauseDue
    cases q.segs.get j with
    | none => simp
    | some sg => exact ⟨fun ⟨_, hx, hc⟩ => ⟨_, rfl, by cases hx; exact hc⟩, fun ⟨_, hx, hc⟩ => ⟨_, rfl, by cases hx; exact hc⟩⟩
  rw [hfixed, hfixed, h j]

theorem alignWeather_eq {t : Site} {j : SegId} {e : Ev} {sg : Segment} (h : e.st.road.segs.get j = some sg) :
    e.alignWeather t j =
      (e.addEach .weather Prod.fst (fun _ => [j]) ((weatherCauses t sg.iceAuto sg.windAuto).filter (·.2))).removeEach .weather
        Prod.fst (fun _ => [j]) ((weatherCauses t sg.iceAuto sg.windAuto).filter (!·.2)) := by
  have hkeep : (fun (e : Ev) (c : Nat × Bool) => if c.2 then e else e.removeSource .weather c.1 [j]) =
      fun e c => if (!c.2) = true then e.removeSource .weather c.1 [j] else e := by
    funext e c
    cases c.2 <;> rfl
  unfold Ev.alignWeather Ev.addEach Ev.removeEach
  rw [h, List.foldl_filter, List.foldl_filter, ← hkeep]

theorem alignWeather_unconfigured {t : Site} {j : SegId} {e : Ev} (h : e.st.road.segs.get j = none) :
    e.alignWeather t j = e := by
  unfold Ev.alignWeather
  rw [h]

theorem alignWeather_step (t : Site) (j : SegId) (e : Ev) : SourceStep .weather [j] e.st (e.alignWeather t j).st := by
  cases h : e.st.road.segs.get j with
  | none =>
    rw [alignWeather_unconfigured h]
    exact .rfl' ..
  | some sg =>
    rw [alignWeather_eq h]
    exact (Ev.addEach_step _ _ _ (fun _ _ _ => id) e).trans' (Ev.removeEach_step _ _ _ (fun _ _ _ => id) _)

/-- The two causes are as the reported values give them, and no other source is touched (R94). -/
theorem alignWeather_sourced (t : Site) (j : SegId) (e : Ev) (n : Nat) :
    Sourced (e.alignWeather t j).st.road j .weather n ↔
      CauseDue t e.st.road j n ∨ (Sourced e.st.road j .weather n ∧ n ≠ causeIce ∧ n ≠ causeWind) := by
  cases h : e.st.road.segs.get j with
  | none =>
    rw [alignWeather_unconfigured h]
    have hno : ¬ Sourced e.st.road j .weather n := fun hs => by
      have hc := sourced_configured hs
      simp [Road.configured, h] at hc
    simp [hno, CauseDue, h]
  | some sg =>
    have hconf : e.st.road.configured j = true := by simp [Road.configured, h]
    have hdue : CauseDue t e.st.road j n ↔ CauseReported t sg n := by simp [CauseDue, h]
    have hcause : CauseReported t sg n → n = causeIce ∨ n = causeWind := Or.imp And.left And.left
    rw [alignWeather_eq h, Ev.removeEach_sourced, Ev.addEach_sourced]
    simp only [List.mem_singleton, true_and, hconf, weatherCauses_present, weatherCauses_absent, hdue]
    tauto

theorem alignAll_step (t : Site) (l : List SegId) (e : Ev) :
    SourceStep .weather l e.st (l.foldl (fun e j => e.alignWeather t j) e).st :=
  SourceStep.foldl (fun j hj e => (alignWeather_step t j e).mono fun _ h => List.mem_singleton.1 h ▸ hj) e

theorem alignAll_sourced (t : Site) (j : SegId) (n : Nat) : ∀ (l : List SegId) (e : Ev), j ∈ l →
    (Sourced (l.foldl (fun e j => e.alignWeather t j) e).st.road j .weather n ↔
      CauseDue t e.st.road j n ∨ (Sourced e.st.road j .weather n ∧ n ≠ causeIce ∧ n ≠ causeWind))
  | [], _, h => nomatch h
  | i :: l, e, h => by
    have hone : i = j → (Sourced (e.alignWeather t i).st.road j .weather n ↔
        CauseDue t e.st.road j n ∨ (Sourced e.st.road j .weather n ∧ n ≠ causeIce ∧ n ≠ causeWind)) := by
      rintro rfl
      exact alignWeather_sourced t i e n
    rw [List.foldl_cons]
    by_cases hj : j ∈ l
    · rw [alignAll_sourced t j n l _ hj, causeDue_congr (alignWeather_step t i e).fixed]
      by_cases hij : i = j
      · rw [hone hij]
        tauto
      · rw [sourced_congr ((alignWeather_step t i e).elsewhere j fun h => hij (List.mem_singleton.1 h).symm)]
    · rw [sourced_congr ((alignAll_step t l (e.alignWeather t i)).elsewhere j hj)]
      exact hone ((List.mem_cons.1 h).resolve_right hj).symm

-- ---------------------------------------------------------------- the restriction records (R93)

/-- The restriction records of a list of segments are written (R93). -/
def restricted (x : Restriction) (l : List SegId) (s : State) : State :=
  { s with road := { s.road with
      segs := mapIds (fun j o => if l.contains j then o.map fun sg => { sg with restriction := x } else o) s.road.segs } }

theorem restricted_get (x : Restriction) (l : List SegId) (s : State) (j : SegId) : (restricted x l s).road.segs.get j =
    if l.contains j then (s.road.segs.get j).map fun sg => { sg with restriction := x } else s.road.segs.get j := get_mapIds ..

theorem restricted_nil (x : Restriction) (s : State) : restricted x [] s = s := by
  have hsegs : (restricted x [] s).road.segs = s.road.segs := table_ext fun j => restricted_get x [] s j
  exact congrArg (fun v => ({ s with road := { s.road with segs := v } } : State)) hsegs

theorem foldl_restricted (x : Restriction) : ∀ (l : List SegId) (e : Ev),
    l.foldl (fun e j => e.on fun s => { s with road := { s.road with
      segs := alter s.road.segs j fun o => o.map fun sg => { sg with restriction := x } } }) e = e.on (restricted x l)
  | [], e => congrArg (fun s => ({ e with st := s } : Ev)) (restricted_nil x e.st).symm
  | i :: l, e => by
    have hsegs : (restricted x l (restricted x [i] e.st)).road.segs = (restricted x (i :: l) e.st).road.segs :=
      table_ext fun j => by
        rw [restricted_get, restricted_get, restricted_get]
        by_cases hi : j = i <;> by_cases hl : j ∈ l <;> cases e.st.road.segs.get j <;> simp [hi, hl]
    have halter : alter e.st.road.segs i (fun o => o.map fun sg => { sg with restriction := x }) =
        (restricted x [i] e.st).road.segs := table_ext fun j => by
      rw [restricted_get, get_alter]
      by_cases hi : i = j
      · subst hi; simp
      · simp [hi, Ne.symm hi]
    rw [List.foldl_cons, foldl_restricted x l]
    refine congrArg (fun s => ({ e with st := s } : Ev)) ?_
    show restricted x l ({ e.st with road := { e.st.road with segs := alter e.st.road.segs i _ } }) = _
    rw [halter]
    exact congrArg (fun v => ({ e.st with road := { e.st.road with segs := v } } : State)) hsegs

theorem restricted_heldEntry (x : Restriction) (l : List SegId) (s : State) (j : SegId) (k : HoldKind) :
    heldEntry (restricted x l s).road j k = heldEntry s.road j k := by
  unfold heldEntry
  rw [restricted_get]
  split
  · cases s.road.segs.get j <;> rfl
  · rfl

theorem restricted_causeDue (x : Restriction) (l : List SegId) (s : State) (t : Site) (j : SegId) (n : Nat) :
    CauseDue t (restricted x l s).road j n ↔ CauseDue t s.road j n := by
  unfold CauseDue
  rw [restricted_get]
  split
  · cases s.road.segs.get j with
    | none => rfl
    | some sg => exact ⟨fun ⟨_, hx, hc⟩ => ⟨_, rfl, by cases hx; exact hc⟩, fun ⟨_, hx, hc⟩ => ⟨_, rfl, by cases hx; exact hc⟩⟩
  · rfl

-- ---------------------------------------------------------------- the close within its event (R92)

/-- What the close makes of a segment record, beside its hold set: the restriction record of a served segment (R93). -/
def closedSegment (i : SiteId) (after : Site) (sg : Segment) : Segment :=
  if sg.site = some i then { sg with restriction := after.restriction } else sg

/-- What the close of the period of a site leaves, whose record is `after` before the next period begins (R92 to R94, R96). -/
structure PeriodClosed (changed : List Block) (i : SiteId) (after : Site) (s t : State) : Prop where
  sites : t.sites = put s.sites i after.nextPeriod
  keeps : KeepsBut changed s t
  gains : ∃ g, Gains (FlagSet.when (siteAttention (s.sites.get i) after) Attn.site ||| g) s t ∧
    Within (Attn.segment ||| Attn.gate) g
  fixed : ∀ j, (t.road.segs.get j).map segFixed = (s.road.segs.get j).map fun sg => segFixed (closedSegment i after sg)
  others : ∀ j k, k ≠ .weather → heldEntry t.road j k = heldEntry s.road j k
  unserved : ∀ j sg, s.road.segs.get j = some sg → sg.site ≠ some i → heldEntry t.road j .weather = heldEntry s.road j .weather
  served : ∀ j sg, s.road.segs.get j = some sg → sg.site = some i → ∀ n, Sourced t.road j .weather n ↔
    CauseReported after sg n ∨ (Sourced s.road j .weather n ∧ n ≠ causeIce ∧ n ≠ causeWind)

theorem mem_served {e : Ev} {i : SiteId} {j : SegId} {sg : Segment} (h : e.st.road.segs.get j = some sg) :
    j ∈ e.served i ↔ sg.site = some i := by
  simp [Ev.served, h]

/-- The record that the close of a period computes (R92). -/
def closing (i : SiteId) (s : State) : Site :=
  (s.sites.get i).compute ((s.field.gateOf i .surfaceTemp).getD 1) (s.field.gateOf i .airTemp)

theorem closePeriod_spec (i : SiteId) (e : Ev) :
    PeriodClosed [.sites, .links, .road] i (closing i e.st) e.st (e.closePeriod i).st := by
  unfold Ev.closePeriod
  dsimp only
  rw [foldl_restricted]
  generalize hafter : (e.st.sites.get i).compute _ _ = after
  have hclosing : closing i e.st = after := hafter
  rw [hclosing]
  generalize hl : e.served i = l
  generalize hwritten : Ev.on _ (restricted after.restriction l) = e2
  have hst : e2.st = restricted after.restriction l { e.st with sites := put e.st.sites i after } := by
    rw [← hwritten]
    rfl
  have hstep := alignAll_step after l e2
  have hsource := fun j n => alignAll_sourced after j n l e2
  generalize l.foldl (fun e j => e.alignWeather after j) e2 = e3 at hstep hsource
  have hmem : ∀ j sg, e.st.road.segs.get j = some sg → (j ∈ l ↔ sg.site = some i) := fun j sg h => hl ▸ mem_served h
  have hkeep : KeepsBut [.sites, .road] e.st e2.st := by
    rw [hst]
    intro b hb
    cases b <;> simp_all [Block.same, restricted]
  have hentry : ∀ j k, heldEntry e2.st.road j k = heldEntry e.st.road j k := fun j k => by
    rw [hst]
    exact restricted_heldEntry _ _ { e.st with sites := put e.st.sites i after } j k
  obtain ⟨g, hg, hwg⟩ := hstep.gains
  have hlinks : Gains 0 e.st e2.st := .of_eq (hkeep .links (by simp))
  refine ⟨?_, ?_, ⟨g, ?_, hwg⟩, fun j => ?_, fun j k hk => (hstep.others j k hk).trans (hentry j k), fun j sg hj hs => ?_,
    fun j sg hj hs n => ?_⟩
  · show alter e3.st.sites i Site.nextPeriod = _
    have h3 : e3.st.sites = put e.st.sites i after := (hstep.keeps .sites (by simp)).trans (by rw [hst]; rfl)
    rw [h3]
    exact table_ext fun j => by simp only [get_alter, get_put]; split <;> simp
  · refine ((hkeep.mono (by simp)).trans' (hstep.keeps.mono (by simp))).trans' ?_
    intro b hb
    cases b <;> simp_all [Block.same]
  · rw [BitVec.or_comm]
    have hall := (hlinks.trans' hg).trans'
      (attend_gains (FlagSet.when (siteAttention (e.st.sites.get i) after) Attn.site) e3.st)
    rw [show (0 : FlagSet) ||| g = g by simp] at hall
    exact hall
  · have hfixed : (e3.st.road.segs.get j).map segFixed = (e2.st.road.segs.get j).map segFixed := hstep.fixed j
    refine hfixed.trans ?_
    rw [hst, restricted_get]
    cases hj : e.st.road.segs.get j with
    | none => simp
    | some sg => by_cases hs : sg.site = some i <;> simp [closedSegment, hmem j sg hj, hs]
  · exact (hstep.elsewhere j fun h => hs ((hmem j sg hj).1 h)).trans (hentry j .weather)
  · have hdue : CauseDue after e2.st.road j n ↔ CauseReported after sg n := by
      rw [hst, restricted_causeDue]
      simp [CauseDue, hj]
    refine (hsource j n ((hmem j sg hj).2 hs)).trans ?_
    rw [hdue, sourced_congr (hentry j .weather)]

/-- The end of the event leaves what the close has done. -/
theorem PeriodClosed.finish {i : SiteId} {after : Site} {s : State} {e : Ev}
    (h : PeriodClosed [.sites, .links, .road] i after s e.st) :
    PeriodClosed [.sites, .links, .road, .board] i after s e.finish := by
  have hfin := finish_ends e
  obtain ⟨g, hg, hwg⟩ := h.gains
  exact ⟨(hfin.keeps .sites (by simp)).trans h.sites, (h.keeps.mono (by simp)).trans' (hfin.keeps.mono (by simp)),
    ⟨g, hg.finish, hwg⟩, fun j => ((finish_spec e).2.1.fixed j).trans (h.fixed j),
    fun j k hk => (hfin.entries j k).trans (h.others j k hk),
    fun j sg hj hs => (hfin.entries j .weather).trans (h.unserved j sg hj hs),
    fun j sg hj hs n => (sourced_congr (hfin.entries j .weather)).trans (h.served j sg hj hs n)⟩

end Sys2Proof.Machine

end

section
open Sys2Proof Sys2Proof.Machine

/-- Settles O39: the grade is the number of thresholds that the score misses. -/
theorem computedGradeFollowsItsTable : Obligations.ComputedGradeFollowsItsTable := by
  intro cfg h43 h32 h21
  have hgrade : ∀ g, gradeOf cfg (.value g) =
      if g ≥ cfg.t1 then 0 else if g ≥ cfg.t2 then 1 else if g ≥ cfg.t3 then 2 else if g ≥ cfg.t4 then 3 else 4 :=
    fun _ => rfl
  refine ⟨fun g => ⟨fun h1 => ?_, fun h2 h1 => ?_, fun h3 h2 => ?_, fun h4 h3 => ?_, fun h4 => ?_⟩, rfl,
    fun ht g hg => ?_, fun ht g hg => ?_⟩ <;> rw [hgrade]
  · rw [if_pos h1]
  · rw [if_neg (by omega), if_pos h2]
  · rw [if_neg (by omega), if_neg (by omega), if_pos h3]
  · rw [if_neg (by omega), if_neg (by omega), if_neg (by omega), if_pos h4]
  · rw [if_neg (by omega), if_neg (by omega), if_neg (by omega), if_neg (by omega)]
  · rw [if_pos (by omega)]
  · rw [if_neg (by omega), if_neg (by omega), if_neg (by omega), if_neg (by omega)]

end

section
/-! The end of a site period (R81, R92): the delivery that ends it, and the values that the close computes. -/

namespace Sys2Proof.Machine

-- ---------------------------------------------------------------- the delivery before the close (R72, R81)

/-- The channels whose gate ends with the period of the site. -/
def endingGates (i : SiteId) (s : State) : List ChanId :=
  (s.field.ofSite i).filter fun j => (s.field.channels.get j).nextEnd = (s.sites.get i).nextEnd

/-- The entries with the least value are those with a value that is one of theirs and that no other falls below. -/
theorem filter_least {α : Type} {l : List α} {f : α → Nat} {m : Nat} (hleast : ∀ j ∈ l, m ≤ f j) (hm : ∃ c ∈ l, f c = m) :
    (l.filter fun c => l.all fun j => f c ≤ f j) = l.filter fun c => f c = m := by
  obtain ⟨c, hc, hcm⟩ := hm
  refine List.filter_congr fun j hj => ?_
  rw [Bool.eq_iff_iff, List.all_eq_true, decide_eq_true_iff]
  constructor
  · intro h
    exact le_antisymm (hcm ▸ of_decide_eq_true (h c hc)) (hleast j hj)
  · rintro rfl k hk
    exact decide_eq_true (hleast k hk)

theorem delivery_ending {i : SiteId} {s : State}
    (hfirst : ∀ j ∈ s.field.ofSite i, (s.sites.get i).nextEnd ≤ (s.field.channels.get j).nextEnd)
    (h : ∃ c ∈ s.field.ofSite i, (s.field.channels.get c).nextEnd = (s.sites.get i).nextEnd) :
    s.field.delivery i = endingGates i s := filter_least hfirst h

/-- A period that is due ends with the delivery of the gates that end with it, where there are any (R81, log 21). -/
theorem sitePeriodEnd_eq {i : SiteId} {e : Ev} (h : e.st.field.periodDue i (e.st.sites.get i) = true) :
    e.sitePeriodEnd i = (e.on (delivered i (endingGates i e.st))).closePeriod i := by
  unfold FieldUnit.periodDue at h
  simp only [Bool.and_eq_true, List.all_eq_true, decide_eq_true_iff] at h
  obtain ⟨⟨huse, -⟩, hfirst⟩ := h
  unfold Ev.sitePeriodEnd
  by_cases hgate : ∃ c ∈ e.st.field.ofSite i, (e.st.field.channels.get c).nextEnd = (e.st.sites.get i).nextEnd
  · have hgates := delivery_ending hfirst hgate
    obtain ⟨c, hc, hend⟩ := hgate
    rw [if_pos (endsPeriod_iff.2 ⟨huse, c, hgates ▸ List.mem_filter.2 ⟨hc, decide_eq_true hend⟩, hend⟩), deliverSite_eq, hgates]
  · have hnone : endingGates i e.st = [] := List.filter_eq_nil_iff.2 fun j hj hend => hgate ⟨j, hj, of_decide_eq_true hend⟩
    rw [if_neg fun hends => hgate ?_, hnone]
    · unfold Ev.on
      rw [delivered_nil]
    · obtain ⟨-, c, hc, hend⟩ := endsPeriod_iff.1 hends
      exact ⟨c, (mem_delivery.1 hc).1, hend⟩

theorem endGates_ofSite (i k : SiteId) (l : List ChanId) (s : State) :
    (delivered i l s).field.ofSite k = s.field.ofSite k := by
  have hchan : ∀ c, ((endGates l s.field.channels).get c).counting = (s.field.channels.get c).counting ∧
      ((endGates l s.field.channels).get c).owner = (s.field.channels.get c).owner := fun c => by
    rw [endGates_get]
    split <;> exact ⟨rfl, rfl⟩
  show (idsWhere fun c => ((endGates l s.field.channels).get c).counting &&
    ((endGates l s.field.channels).get c).owner == .site k) = _
  simp only [hchan]
  rfl

theorem delivered_gateOf (i k : SiteId) (l : List ChanId) (s : State) (kind : ChanKind) :
    (delivered i l s).field.gateOf k kind = s.field.gateOf k kind := by
  have hchan : ∀ c, ((endGates l s.field.channels).get c).kind = (s.field.channels.get c).kind ∧
      ((endGates l s.field.channels).get c).gateLength = (s.field.channels.get c).gateLength := fun c => by
    rw [endGates_get]
    split <;> exact ⟨rfl, rfl⟩
  unfold FieldUnit.gateOf
  rw [endGates_ofSite]
  show (List.find? (fun c => ((endGates l s.field.channels).get c).kind == kind) _).map
    (fun c => ((endGates l s.field.channels).get c).gateLength) = _
  simp only [hchan]

-- ---------------------------------------------------------------- temperatures (R83)

theorem temperature_some (cfg : SiteConfig) (g c : Nat) : temperature cfg g (some c) = if c = 0 then .invalid else
    .value (max (-500) (min 800 (Int.fdiv (((c : Int) - cfg.f0 * (g : Int)) * 10) (cfg.s * (g : Int))))) := by
  have hlimit : ∀ v : Int, (if v < -500 then -500 else if 800 < v then 800 else v) = max (-500) (min 800 v) := fun v => by
    omega
  cases c with
  | zero => rfl
  | succ c =>
    rw [if_neg (Nat.succ_ne_zero c), ← hlimit]
    unfold temperature
    push_cast
    rfl

/-- The temperature of the first channel of a kind at a site, from the result that the site holds of it (R83). -/
def siteTemp (cfg : SiteConfig) (f : FieldUnit) (i : SiteId) (kind : ChanKind) (result : Option Nat) (missing : Temp) : Temp :=
  match (f.ofSite i).find? fun j => (f.channels.get j).kind == kind with
  | none => missing
  | some j => match result with
    | none => .invalid
    | some c => if c = 0 then .invalid else
      .value (max (-500) (min 800 (Int.fdiv (((c : Int) - cfg.f0 * ((f.channels.get j).gateLength : Int)) * 10)
        (cfg.s * ((f.channels.get j).gateLength : Int)))))

theorem temperature_find {f : FieldUnit} {i : SiteId} {kind : ChanKind} {j : ChanId}
    (h : ((f.ofSite i).find? fun j => (f.channels.get j).kind == kind) = some j) (cfg : SiteConfig) (r : Option Nat)
    (missing : Temp) : siteTemp cfg f i kind r missing = temperature cfg (f.channels.get j).gateLength r := by
  unfold siteTemp
  rw [h]
  cases r with
  | none => rfl
  | some c => exact (temperature_some cfg _ c).symm

theorem airTemp_eq (cfg : SiteConfig) (f : FieldUnit) (i : SiteId) (r : Option Nat) :
    (match f.gateOf i .airTemp with | some g => temperature cfg g r | none => .absent) =
      siteTemp cfg f i .airTemp r .absent := by
  cases h : (f.ofSite i).find? fun j => (f.channels.get j).kind == .airTemp with
  | none =>
    unfold FieldUnit.gateOf siteTemp
    rw [h]
    rfl
  | some j =>
    rw [temperature_find h]
    unfold FieldUnit.gateOf
    rw [h]
    rfl

theorem surfaceTemp_eq {f : FieldUnit} {i : SiteId} (h : ∃ j ∈ f.ofSite i, (f.channels.get j).kind = .surfaceTemp)
    (cfg : SiteConfig) (r : Option Nat) (missing : Temp) :
    temperature cfg ((f.gateOf i .surfaceTemp).getD 1) r = siteTemp cfg f i .surfaceTemp r missing := by
  obtain ⟨j, hj, hkind⟩ := h
  cases hfind : (f.ofSite i).find? fun j => (f.channels.get j).kind == .surfaceTemp with
  | none => exact absurd (by simp [hkind]) (List.find?_eq_none.1 hfind j hj)
  | some k =>
    rw [temperature_find hfind]
    unfold FieldUnit.gateOf
    rw [hfind]
    rfl

-- ---------------------------------------------------------------- penalties and grip (R87, R88)

theorem thermalPenalty_eq (ts : Int) : thermalPenalty ts = if 30 ≤ ts then 0 else (min 40 ((30 - ts) / 2)).toNat := by
  unfold thermalPenalty
  split <;> omega

/-- The air is cold, or its temperature is not known (R88). -/
def coldAir (ta : Temp) : Bool := match ta with | .value t => t ≤ 10 | _ => true

theorem snowfallPenalty_eq (p : Nat) (ta : Temp) :
    snowfallPenalty p ta = if 0 < p ∧ coldAir ta = true then 15 else 0 := by
  unfold snowfallPenalty coldAir
  cases ta <;> simp

theorem combined_eq (ts : Int) (ta : Temp) (p mg : Nat) : (penaltiesOf ts ta p mg).combined =
    min 90 (thermalPenalty ts + moisturePenalty ts p mg + snowfallPenalty p ta +
      if 0 < thermalPenalty ts ∧ 0 < moisturePenalty ts p mg then 10 else 0) := by
  unfold penaltiesOf
  simp

theorem compute_penalties {sg : Nat} {ag : Option Nat} {t : Site} {ts : Int} (h : (t.compute sg ag).ts = .value ts) :
    (t.compute sg ag).penalties =
        some (penaltiesOf ts (t.compute sg ag).ta (precipitation t.config t.acc.precipSum) t.config.mg) ∧
      (t.compute sg ag).g = .value (100 - (penaltiesOf ts (t.compute sg ag).ta (precipitation t.config t.acc.precipSum)
        t.config.mg).combined) := by
  have hts : temperature t.config sg t.acc.surface = .value ts := h
  simp only [Site.compute, hts, and_self]

theorem compute_invalid {sg : Nat} {ag : Option Nat} {t : Site} (h : (t.compute sg ag).ts = .invalid) :
    (t.compute sg ag).g = .invalid ∧ (t.compute sg ag).penalties = none := by
  have hts : temperature t.config sg t.acc.surface = .invalid := h
  simp only [Site.compute, hts, and_self]

-- ---------------------------------------------------------------- SITE attention (R96)

theorem siteAttention_iff (a b : Site) : siteAttention a b = true ↔
    b.reportedGrade ≠ a.reportedGrade ∨ b.reportedWind ≠ a.reportedWind ∨ (b.ts == .invalid) ≠ (a.ts == .invalid) := by
  have hattn : siteAttention a b = (!(a.reportedGrade == b.reportedGrade) || !(a.reportedWind == b.reportedWind) ||
      !((a.ts == .invalid) == (b.ts == .invalid))) := by
    unfold siteAttention
    cases a.ts <;> cases b.ts <;> rfl
  rw [hattn]
  simp only [Bool.or_eq_true, Bool.not_eq_true', beq_eq_false_iff_ne, or_assoc, ne_comm]

theorem includes_site_when (b : Bool) : Includes Attn.site (FlagSet.when b Attn.site) ↔ b = true := by
  cases b with
  | false => exact iff_of_false (by unfold Includes; decide) Bool.false_ne_true
  | true => exact iff_of_true (includes_self _) rfl

-- ---------------------------------------------------------------- the segments after the close (R93, R94)

section
variable {changed : List Block} {i : SiteId} {after : Site} {s t : State}

theorem PeriodClosed.configured (h : PeriodClosed changed i after s t) (j : SegId) :
    t.road.configured j = s.road.configured j := by
  have hfixed := congrArg Option.isSome (h.fixed j)
  rw [Option.isSome_map, Option.isSome_map] at hfixed
  exact hfixed

theorem PeriodClosed.onlyKind (h : PeriodClosed changed i after s t) : OnlyKind .weather s t :=
  segmentBecomes_of_entries h.configured fun j sg sg' _ _ he he' k hk => by
    rw [← he', ← he]
    exact h.others j k hk

theorem PeriodClosed.attention (h : PeriodClosed changed i after s t) :
    ∃ f, Gains f s t ∧ (Includes Attn.site f ↔ siteAttention (s.sites.get i) after = true) := by
  obtain ⟨g, hg, hwg⟩ := h.gains
  exact ⟨_, hg, (includes_or_iff hwg (by decide)).trans (includes_site_when _)⟩

theorem holdSet_ext {a b : HoldSet} (h : ∀ k, a.entry k = b.entry k) : a = b := by
  have hidx : ∀ n : Fin 9, n ∈ [HoldKind.startup, .valley, .avalanche, .panel, .zone, .detector, .weather, .notice, .full].map
      HoldKind.idx := by decide
  exact table_ext fun n => by
    obtain ⟨k, -, rfl⟩ := List.mem_map.1 (hidx n)
    exact h k

theorem mem_sources_iff {r : Road} {j : SegId} {sg : Segment} (h : r.segs.get j = some sg) (k : HoldKind) (n : Nat) :
    (n ∈ match sg.holds.entry k with | some e => e.sources | none => []) ↔ Sourced r j k n := by
  have hentry : heldEntry r j k = sg.holds.entry k := by simp [heldEntry, h]
  unfold Sourced
  rw [hentry]
  cases sg.holds.entry k <;> simp

theorem PeriodClosed.segments (h : PeriodClosed changed i after s t) : SegmentBecomes s t fun j sg sg' =>
    (sg.site ≠ some i → sg'.restriction = sg.restriction ∧ sg'.holds = sg.holds) ∧
    (sg.site = some i → sg'.restriction = after.restriction ∧
      ∀ n, Sourced t.road j .weather n ↔
        CauseReported after sg n ∨ (Sourced s.road j .weather n ∧ n ≠ causeIce ∧ n ≠ causeWind)) :=
  segmentBecomes_of_entries h.configured fun j sg sg' hj hj' he he' => by
    have hrestriction : sg'.restriction = (closedSegment i after sg).restriction := by
      have hfixed := h.fixed j
      rw [hj, hj', Option.map_some, Option.map_some] at hfixed
      exact (congrArg Segment.restriction (Option.some.inj hfixed) :)
    constructor
    · intro hsite
      refine ⟨hrestriction.trans (by rw [closedSegment, if_neg hsite]), holdSet_ext fun k => ?_⟩
      rw [← he', ← he]
      by_cases hk : k = .weather
      · subst hk
        exact h.unserved j sg hj hsite
      · exact h.others j k hk
    · intro hsite
      exact ⟨hrestriction.trans (by rw [closedSegment, if_pos hsite]), h.served j sg hj hsite⟩

end

theorem causeReported_ice (t : Site) (sg : Segment) :
    CauseReported t sg causeIce ↔ t.reportedGrade = 4 ∧ sg.iceAuto = true := by
  have hne : causeIce ≠ causeWind := by decide
  simp [CauseReported, hne]

theorem causeReported_wind (t : Site) (sg : Segment) :
    CauseReported t sg causeWind ↔ t.reportedWind = 2 ∧ sg.windAuto = true := by
  have hne : causeWind ≠ causeIce := by decide
  simp [CauseReported, hne]

end Sys2Proof.Machine

open Sys2Proof Sys2Proof.Machine

/-- Settles O38: the delivery of the ending gates, then the close on the record that it leaves. -/
theorem sitePeriodCloses : Obligations.SitePeriodCloses := by
  intro i s hdue
  have hexec : exec (.sitePeriodClose i) s = .next (s.event (Ev.sitePeriodEnd i)) := congrArg Host.Outcome.next (if_pos hdue)
  have hev : s.event (Ev.sitePeriodEnd i) = Ev.finish ((Ev.start (delivered i (endingGates i s) s)).closePeriod i) :=
    congrArg Ev.finish (sitePeriodEnd_eq (e := Ev.start s) hdue)
  have hclosed := (closePeriod_spec i (Ev.start (delivered i (endingGates i s) s))).finish
  rw [← hev] at hclosed
  have hkeeps := delivered_keeps i (endingGates i s) s
  have hsites : (delivered i (endingGates i s) s).sites =
      put s.sites i (takeResults (endingGates i s) s.field.channels (s.sites.get i)) := rfl
  have hrecord : closing i (delivered i (endingGates i s) s) =
      (takeResults (endingGates i s) s.field.channels (s.sites.get i)).compute
        ((s.field.gateOf i .surfaceTemp).getD 1) (s.field.gateOf i .airTemp) := by
    unfold closing
    rw [delivered_gateOf, delivered_gateOf, hsites, get_put_same]
  rw [show (Ev.start (delivered i (endingGates i s) s)).st = delivered i (endingGates i s) s from rfl, hrecord] at hclosed
  generalize s.event (Ev.sitePeriodEnd i) = t at hexec hclosed
  generalize hb : takeResults (endingGates i s) s.field.channels (s.sites.get i) = before at hclosed hsites
  have hnew : t.sites.get i = Site.nextPeriod (before.compute ((s.field.gateOf i .surfaceTemp).getD 1)
      (s.field.gateOf i .airTemp)) := by
    rw [hclosed.sites, get_put_same]
  subst hb
  refine ⟨t, hexec, ?_⟩
  intro old new cfg ends due temp acc windClass hasSurface p cold invalid
  replace hnew : new = _ := hnew
  have hta : new.ta = temp .airTemp acc.air .absent := hnew ▸ airTemp_eq cfg s.field i acc.air
  obtain ⟨f, hf, hsite⟩ := hclosed.attention
  refine ⟨(hkeeps.mono (by simp)).trans' (hclosed.keeps.mono (by simp)), fun j hj => ?_, hnew ▸ rfl, hnew ▸ rfl, hnew ▸ rfl,
    hnew ▸ rfl, hnew ▸ rfl, hnew ▸ rfl, fun hs => hnew ▸ surfaceTemp_eq hs cfg acc.surface .absent, hta, fun ts hts => ?_,
    fun hts => ?_, hnew ▸ rfl, hnew ▸ rfl, hnew ▸ rfl, hnew ▸ rfl, hnew ▸ rfl, hnew ▸ rfl, ⟨f, ?_, ?_⟩, hclosed.onlyKind, ?_⟩
  · rw [hclosed.sites, get_put_other _ _ (Ne.symm hj), hsites, get_put_other _ _ (Ne.symm hj)]
  · rw [hnew] at hts
    obtain ⟨hpen, hgrip⟩ := compute_penalties hts
    have hcold : cold = coldAir new.ta := rfl
    rw [hcold, hnew]
    exact ⟨_, hpen, hgrip, thermalPenalty_eq ts, rfl, snowfallPenalty_eq .., combined_eq ..⟩
  · rw [hnew] at hts ⊢
    exact compute_invalid hts
  · have hlinks : (delivered i (endingGates i s) s).links = s.links := hkeeps .links (by simp)
    unfold Gains at hf ⊢
    rwa [hlinks] at hf
  · rw [hsite, siteAttention_iff, hsites, get_put_same, hnew]
    rfl
  · refine fun j sg hj => ?_
    obtain ⟨sg', hj', hother, hserved⟩ := hclosed.segments j sg hj
    refine ⟨sg', hj', hother, fun hs => ?_⟩
    obtain ⟨hrestriction, hsources⟩ := hserved hs
    refine ⟨hrestriction.trans (hnew ▸ rfl), ?_, ?_⟩
    · refine (mem_sources_iff hj' .weather causeIce).trans ?_
      rw [hsources, causeReported_ice, hnew]
      simp [Site.nextPeriod]
    · refine (mem_sources_iff hj' .weather causeWind).trans ?_
      rw [hsources, causeReported_wind, hnew]
      simp [Site.nextPeriod]

end

section
/-! The causes of the hold kinds with sources (R94, R105, R113, R129): what it is for a source number to stand for a cause, the
two laws in these terms, and the relation between two states that keeps both. -/

namespace Sys2Proof.Machine

-- ---------------------------------------------------------------- standing causes

/-- A source number of a kind stands, at a segment, for a cause that holds it (R94, R105, R113, R129). -/
def Stands (s : State) (i : SegId) : HoldKind → Nat → Prop
  | .detector, n => ∃ (c : ChanId) (z : ZoneId), n = c.val ∧ (s.field.channels.get c).owner = .zone z ∧
      i ∈ (s.zoneUnit.zones.get z).exposed ∧ ∃ q, s.zoneUnit.quals.get c = some q ∧ q.state.closes = true
  | .zone, n => ∃ z : ZoneId, n = z.val ∧ (s.zoneUnit.zones.get z).closure = true ∧ i ∈ (s.zoneUnit.zones.get z).exposed
  | .notice, n => ∃ m ∈ s.notices.list, m.id = n ∧ m.state = .inForce ∧ i ∈ m.segs
  | .weather, n => ∃ sg t, s.road.segs.get i = some sg ∧ sg.site = some t ∧ CauseReported (s.sites.get t) sg n
  | _, _ => False

theorem hasSource_iff {s : State} {i : SegId} {k : HoldKind} {n : Nat} :
    HasSource s i k n ↔ (s.road.configured i = true → Sourced s.road i k n) := by
  refine ⟨fun h hc => ?_, hasSource_of_sourced⟩
  obtain ⟨sg, hi⟩ := Option.isSome_iff_exists.1 hc
  obtain ⟨x, hx, hn⟩ := h sg hi
  exact ⟨x, by simp [heldEntry, hi, hx], hn⟩

/-- Every standing cause is a source of its segments. -/
theorem causeLaw_iff {s : State} : CauseLaw s ↔
    ∀ i k n, s.road.configured i = true → Stands s i k n → Sourced s.road i k n := by
  unfold CauseLaw
  simp only [hasSource_iff]
  constructor
  · rintro ⟨hdetector, hzone, hnotice, hweather⟩ i k n hc hs
    cases k with
    | detector =>
      obtain ⟨c, z, rfl, howner, hi, q, hq, hcl⟩ := hs
      exact hdetector c z q i howner hq hcl hi hc
    | zone =>
      obtain ⟨z, rfl, hcl, hi⟩ := hs
      exact hzone z i hcl hi hc
    | notice =>
      obtain ⟨m, hm, rfl, hst, hi⟩ := hs
      exact hnotice m i hm hst hi hc
    | weather =>
      obtain ⟨sg, t, hi, ht, ⟨rfl, hg, ho⟩ | ⟨rfl, hg, ho⟩⟩ := hs
      · exact (hweather i sg t hi ht).1 hg ho hc
      · exact (hweather i sg t hi ht).2 hg ho hc
    | startup | valley | avalanche | panel | full => exact hs.elim
  · intro h
    exact ⟨fun c z q i howner hq hcl hi hc => h i .detector _ hc ⟨c, z, rfl, howner, hi, q, hq, hcl⟩,
      fun z i hcl hi hc => h i .zone _ hc ⟨z, rfl, hcl, hi⟩,
      fun m i hm hst hi hc => h i .notice _ hc ⟨m, hm, rfl, hst, hi⟩,
      fun i sg t hi ht => ⟨fun hg ho hc => h i .weather _ hc ⟨sg, t, hi, ht, Or.inl ⟨rfl, hg, ho⟩⟩,
        fun hg ho hc => h i .weather _ hc ⟨sg, t, hi, ht, Or.inr ⟨rfl, hg, ho⟩⟩⟩⟩

theorem sourced_iff {s : State} {i : SegId} {sg : Segment} (hi : s.road.segs.get i = some sg) {k : HoldKind} {n : Nat} :
    Sourced s.road i k n ↔ ∃ e, sg.holds.entry k = some e ∧ n ∈ e.sources := by
  simp [Sourced, heldEntry, hi]

/-- Every source stands for a cause. -/
theorem sourceLaw_iff {s : State} : SourceLaw s ↔
    ∀ i k n, sourced k = true → Sourced s.road i k n → Stands s i k n := by
  constructor
  · intro h i k n hk hs
    obtain ⟨sg, hi⟩ := Option.isSome_iff_exists.1 (sourced_configured hs)
    obtain ⟨hdetector, hzone, hnotice, hweather⟩ := h i sg hi
    obtain ⟨e, he, hn⟩ := (sourced_iff hi).1 hs
    cases k with
    | detector => exact hdetector e he n hn
    | zone => exact hzone e he n hn
    | notice => exact hnotice e he n hn
    | weather =>
      obtain ⟨t, ht, hcause⟩ := hweather e he n hn
      exact ⟨sg, t, hi, ht, hcause⟩
    | startup | valley | avalanche | panel | full => cases hk
  · intro h i sg hi
    refine ⟨fun e he n hn => h i .detector n rfl ((sourced_iff hi).2 ⟨e, he, hn⟩),
      fun e he n hn => h i .zone n rfl ((sourced_iff hi).2 ⟨e, he, hn⟩),
      fun e he n hn => h i .notice n rfl ((sourced_iff hi).2 ⟨e, he, hn⟩), fun e he n hn => ?_⟩
    obtain ⟨sg', t, hi', ht, hcause⟩ := h i .weather n rfl ((sourced_iff hi).2 ⟨e, he, hn⟩)
    cases hi.symm.trans hi'
    exact ⟨t, ht, hcause⟩

-- ---------------------------------------------------------------- sources that follow their causes

/-- From `s` to `t`, a source number of a kind at a segment is either in line with its cause, or both are as they were. -/
def FollowsAt (s t : State) (i : SegId) (k : HoldKind) (n : Nat) : Prop :=
  (Stands t i k n ↔ Sourced t.road i k n) ∨
    (s.road.configured i = true ∧ (Stands t i k n ↔ Stands s i k n) ∧ (Sourced t.road i k n ↔ Sourced s.road i k n))

/-- From `s` to `t` every source of a configured segment follows its cause. -/
def Tracks (s t : State) : Prop := ∀ i k n, sourced k = true → t.road.configured i = true → FollowsAt s t i k n

theorem Tracks.rfl' (s : State) : Tracks s s := fun _ _ _ _ hc => Or.inr ⟨hc, Iff.rfl, Iff.rfl⟩

theorem Tracks.trans' {s t u : State} (h : Tracks s t) (h' : Tracks t u) : Tracks s u := fun i k n hk hc => by
  obtain h2 | ⟨hct, hstand, hsource⟩ := h' i k n hk hc
  · exact Or.inl h2
  · obtain h1 | ⟨hcs, hstand1, hsource1⟩ := h i k n hk hct
    · exact Or.inl (hstand.trans (h1.trans hsource.symm))
    · exact Or.inr ⟨hcs, hstand.trans hstand1, hsource.trans hsource1⟩

theorem stands_sourced {s : State} {i : SegId} {k : HoldKind} {n : Nat} (h : Stands s i k n) : sourced k = true := by
  cases k with
  | detector | zone | notice | weather => rfl
  | startup | valley | avalanche | panel | full => exact h.elim

theorem Tracks.causeLaw {s t : State} (h : Tracks s t) (hs : CauseLaw s) : CauseLaw t :=
  causeLaw_iff.2 fun i k n hc hst => by
    obtain h | ⟨hcs, hstand, hsource⟩ := h i k n (stands_sourced hst) hc
    · exact h.1 hst
    · exact hsource.2 (causeLaw_iff.1 hs i k n hcs (hstand.1 hst))

theorem Tracks.sourceLaw {s t : State} (h : Tracks s t) (hs : SourceLaw s) : SourceLaw t :=
  sourceLaw_iff.2 fun i k n hk hsrc => by
    obtain h | ⟨-, hstand, hsource⟩ := h i k n hk (sourced_configured hsrc)
    · exact h.2 hsrc
    · exact hstand.2 (sourceLaw_iff.1 hs i k n hk (hsource.1 hsrc))

-- ---------------------------------------------------------------- what leaves causes and sources

theorem RoadFixed.configured {r r' : Road} (h : RoadFixed r r') (i : SegId) : r'.configured i = r.configured i := by
  have hfixed := congrArg Option.isSome (h i)
  rw [Option.isSome_map, Option.isSome_map] at hfixed
  exact hfixed

/-- The WEATHER cause of a source number, at the segment that a road holds and with the sites of a state. -/
theorem stands_weather {s : State} {i : SegId} {n : Nat} : Stands s i .weather n ↔
    ∃ x, (s.road.segs.get i).map segFixed = some x ∧ ∃ t, x.site = some t ∧ CauseReported (s.sites.get t) x n := by
  constructor
  · rintro ⟨sg, t, hi, ht, hcause⟩
    exact ⟨segFixed sg, by rw [hi, Option.map_some], t, ht, hcause⟩
  · rintro ⟨x, hx, t, ht, hcause⟩
    obtain ⟨sg, hi, rfl⟩ := Option.map_eq_some_iff.1 hx
    exact ⟨sg, t, hi, ht, hcause⟩

/-- The entries of the kinds with sources stand, and what a segment record fixes. -/
structure SourcesStand (r r' : Road) : Prop where
  fixed : RoadFixed r r'
  entries : ∀ i k, sourced k = true → heldEntry r' i k = heldEntry r i k

theorem SourcesStand.rfl' (r : Road) : SourcesStand r r := ⟨.rfl' r, fun _ _ _ => rfl⟩

theorem SourcesStand.of_eq {r r' : Road} (h : r' = r) : SourcesStand r r' := h ▸ .rfl' r

theorem SourcesStand.trans' {a b c : Road} (h : SourcesStand a b) (h' : SourcesStand b c) : SourcesStand a c :=
  ⟨h.fixed.trans' h'.fixed, fun i k hk => (h'.entries i k hk).trans (h.entries i k hk)⟩

theorem RoadFrame.sourcesStand {r r' : Road} (h : RoadFrame r r') : SourcesStand r r' :=
  ⟨h.fixed, fun i k _ => h.heldEntry i k⟩

/-- The values of a state that make causes, beside the road. -/
structure SameCauses (s t : State) : Prop where
  owner : ∀ c, (t.field.channels.get c).owner = (s.field.channels.get c).owner
  zoneUnit : t.zoneUnit = s.zoneUnit
  list : t.notices.list = s.notices.list
  grade : ∀ i, (t.sites.get i).reportedGrade = (s.sites.get i).reportedGrade
  wind : ∀ i, (t.sites.get i).reportedWind = (s.sites.get i).reportedWind

theorem SameCauses.of_keeps {l : List Block} {s t : State} (h : KeepsBut l s t) (hf : Block.field ∉ l)
    (hz : Block.zoneUnit ∉ l) (hn : Block.notices ∉ l) (hs : Block.sites ∉ l) : SameCauses s t := by
  have hfield : t.field = s.field := h .field hf
  have hsites : t.sites = s.sites := h .sites hs
  exact ⟨fun c => by rw [hfield], h .zoneUnit hz, congrArg (·.list) (h .notices hn), fun i => by rw [hsites],
    fun i => by rw [hsites]⟩

section
variable {s t : State}

theorem SameCauses.stands (h : SameCauses s t) (hr : RoadFixed s.road t.road) (i : SegId) (k : HoldKind) (n : Nat) :
    Stands t i k n ↔ Stands s i k n := by
  cases k with
  | detector => simp only [Stands, h.owner, h.zoneUnit]
  | zone => simp only [Stands, h.zoneUnit]
  | notice => simp only [Stands, h.list]
  | weather => simp only [stands_weather, hr i, CauseReported, h.grade, h.wind]
  | startup | valley | avalanche | panel | full => exact Iff.rfl

/-- A step that leaves the causes and the entries of the kinds with sources. -/
theorem Tracks.of_stand (h : SameCauses s t) (hr : SourcesStand s.road t.road) : Tracks s t := fun i k n hk hc =>
  Or.inr ⟨(hr.fixed.configured i).symm.trans hc, h.stands hr.fixed i k n, sourced_congr (hr.entries i k hk)⟩

/-- A step that leaves the road and the values that make causes. -/
theorem Tracks.aside (hr : t.road = s.road) (hz : t.zoneUnit = s.zoneUnit) (hn : t.notices.list = s.notices.list)
    (hs : t.sites = s.sites) (hf : ∀ c, (t.field.channels.get c).owner = (s.field.channels.get c).owner) : Tracks s t :=
  .of_stand ⟨hf, hz, hn, fun i => by rw [hs], fun i => by rw [hs]⟩ (.of_eq hr)

theorem FollowsAt.of_still {k : HoldKind} {i : SegId} {n : Nat} (hc : s.road.configured i = true)
    (hstand : Stands t i k n ↔ Stands s i k n) (hk : heldEntry t.road i k = heldEntry s.road i k) :
    FollowsAt s t i k n := Or.inr ⟨hc, hstand, sourced_congr hk⟩

/-- A cause begins, ends or goes on, and its source with it, where `p` says that the source is that of the cause. -/
theorem FollowsAt.of_change {k : HoldKind} {i : SegId} {n : Nat} {p : Prop} {before after : Bool}
    (hc : s.road.configured i = true) (hother : ¬ p → (Stands t i k n ↔ Stands s i k n))
    (hbefore : p → (Stands s i k n ↔ before = true)) (hafter : p → (Stands t i k n ↔ after = true))
    (hbegins : before = false → after = true → (Sourced t.road i k n ↔ Sourced s.road i k n ∨ p))
    (hends : before = true → after = false → (Sourced t.road i k n ↔ Sourced s.road i k n ∧ ¬ p))
    (hgoes : before = after → (Sourced t.road i k n ↔ Sourced s.road i k n)) : FollowsAt s t i k n := by
  unfold FollowsAt
  by_cases hp : p
  · have hb := hbefore hp
    have ha := hafter hp
    cases before <;> cases after
    · exact Or.inr ⟨hc, ha.trans hb.symm, hgoes rfl⟩
    · exact Or.inl ((iff_true_intro (ha.2 rfl)).trans (iff_true_intro ((hbegins rfl rfl).2 (Or.inr hp))).symm)
    · exact Or.inl ((iff_false_intro fun h => Bool.false_ne_true (ha.1 h)).trans
        (iff_false_intro fun h => ((hends rfl rfl).1 h).2 hp).symm)
    · exact Or.inr ⟨hc, ha.trans hb.symm, hgoes rfl⟩
  · refine Or.inr ⟨hc, hother hp, ?_⟩
    cases before <;> cases after
    · exact hgoes rfl
    · exact (hbegins rfl rfl).trans (or_iff_left hp)
    · exact (hends rfl rfl).trans (and_iff_left hp)
    · exact hgoes rfl

end

end Sys2Proof.Machine

end

section
/-! The operations of an event keep the sources in line with the causes, but for those of the notice list (R5 to R9, R27, R92 to
R94, R104 to R113). -/

namespace Sys2Proof.Machine

-- ---------------------------------------------------------------- steps of the road that leave the sources

/-- A step of the road leaves the entries of the kinds with sources. -/
def LeavesSources (f : RoadEv → RoadEv) : Prop := ∀ e, SourcesStand e.road (f e).road

namespace RoadEv

theorem each_leavesSources {f : SegId → RoadEv → RoadEv} (hf : ∀ i, LeavesSources (f i)) :
    ∀ l : List SegId, LeavesSources (each f l)
  | [], _ => .rfl' _
  | i :: l, e => (hf i e).trans' (each_leavesSources hf l (f i e))

/-- A step on the entries of a kind without sources. -/
theorem leavesSources_of_others {k : HoldKind} (hk : sourced k = false) {f : RoadEv → RoadEv}
    (hfixed : ∀ e, RoadFixed e.road (f e).road)
    (hothers : ∀ e j k', k' ≠ k → heldEntry (f e).road j k' = heldEntry e.road j k') : LeavesSources f := fun e =>
  ⟨hfixed e, fun i k' hk' => hothers e i k' fun h => by rw [h, hk] at hk'; cases hk'⟩

theorem place_leavesSources (ctx : RoadCtx) {k : HoldKind} (hk : sourced k = false) (reason : Option Byte) (i : SegId) :
    LeavesSources (place ctx k reason i) :=
  leavesSources_of_others hk (place_fixed ctx k reason i) fun e => (place_others ctx k reason i e).2

theorem deleteEntry_leavesSources (ctx : RoadCtx) {k : HoldKind} (hk : sourced k = false) (i : SegId) :
    LeavesSources (deleteEntry ctx i k) :=
  leavesSources_of_others hk (deleteEntry_fixed ctx i k) fun e => (deleteEntry_others ctx k i e).2

/-- Switches are no part of a segment record. -/
theorem switchChange_leavesSources (ctx : RoadCtx) (g : GateId) (sw : Switch) (level : Bool) :
    LeavesSources (switchChange ctx g sw level) := fun e =>
  ⟨(switchChange_frame ctx g sw level e).fixed, fun i k _ => (switchChange_frame ctx g sw level e).heldEntry i k⟩

theorem resolveAll_leavesSources (ctx : RoadCtx) : LeavesSources (resolveAll ctx) := by
  have hl : ∀ l : List GateId, LeavesSources fun e => l.foldl (fun e i => chain ctx (e, [.resolve i])) e := fun l => by
    induction l with
    | nil => exact fun _ => .rfl' _
    | cons g l ih => exact fun e => (chain_frame ctx (e, [.resolve g])).sourcesStand.trans' (ih _)
  exact hl (List.finRange 6)

end RoadEv

theorem SameRoad.sourcesStand {s t : State} (h : SameRoad s t) : SourcesStand s.road t.road := by
  refine ⟨h.fixed, fun i k _ => ?_⟩
  have hentry : ∀ r : Road, heldEntry r i k = ((r.segs.get i).map Segment.timeless).bind fun sg => sg.holds.entry k :=
    fun r => by
      unfold heldEntry
      cases r.segs.get i <;> rfl
  rw [hentry, hentry, h.2 i]

-- ---------------------------------------------------------------- operations of an event

/-- After an operation of an event every source follows its cause. -/
def KeepsCauses (f : Ev → Ev) : Prop := ∀ e : Ev, Tracks e.st (f e).st

theorem keepsCauses_foldl {α : Type} {f : Ev → α → Ev} (hf : ∀ x, KeepsCauses fun e => f e x) :
    ∀ l : List α, KeepsCauses fun e => l.foldl f e
  | [], _ => .rfl' _
  | x :: l, e => (hf x e).trans' (keepsCauses_foldl hf l (f e x))

theorem ite_tracks {p : Prop} [Decidable p] {s : State} {a b : Ev} (ha : Tracks s a.st) (hb : Tracks s b.st) :
    Tracks s (if p then a else b).st := by
  split
  · exact ha
  · exact hb

theorem onRoad_tracks {f : RoadCtx → RoadEv → RoadEv} (hf : ∀ ctx, LeavesSources (f ctx)) :
    KeepsCauses fun e => e.onRoad f := fun e => by
  obtain ⟨hroad, hkeep, -⟩ := onRoad_spec f e
  refine .of_stand (.of_keeps hkeep (by decide) (by decide) (by decide) (by decide)) ?_
  rw [hroad]
  exact hf e.st.roadCtx (roadStart e.st)

theorem place_tracks {k : HoldKind} (hk : sourced k = false) (reason : Option Byte) (l : List SegId) :
    KeepsCauses (Ev.place k reason l) :=
  onRoad_tracks fun ctx => RoadEv.each_leavesSources (RoadEv.place_leavesSources ctx hk reason) l

theorem remove_tracks {k : HoldKind} (hk : sourced k = false) (l : List SegId) : KeepsCauses (Ev.remove k l) :=
  onRoad_tracks fun ctx => RoadEv.each_leavesSources (RoadEv.deleteEntry_leavesSources ctx hk) l

theorem finish_tracks (e : Ev) : Tracks e.st e.finish :=
  let ⟨hkeep, hroad, _⟩ := finish_spec e
  .of_stand (.of_keeps hkeep (by decide) (by decide) (by decide) (by decide)) hroad.sourcesStand

theorem event_tracks {f : Ev → Ev} (hf : KeepsCauses f) (s : State) : Tracks s (s.event f) :=
  (hf (Ev.start s)).trans' (finish_tracks _)

theorem lineStep_tracks (f : BoardEv → BoardEv) (s : State) : Tracks s (s.lineStep f) :=
  let ⟨hkeep, hroad, _⟩ := lineStep_spec f s
  .of_stand (.of_keeps hkeep (by decide) (by decide) (by decide) (by decide)) hroad.sourcesStand

-- ---------------------------------------------------------------- hearing a frame (R25, R178)

theorem judgeRelease_tracks : KeepsCauses Ev.judgeRelease := fun e => by
  unfold Ev.judgeRelease
  split
  · exact remove_tracks rfl e.segs e
  · exact .rfl' _

theorem setMark_tracks (l : Link) : KeepsCauses (Ev.setMark l) := fun e => by
  have hmark : ∀ u : State, u.road = e.st.road → u.zoneUnit = e.st.zoneUnit → u.notices = e.st.notices → u.sites = e.st.sites →
      u.field = e.st.field → Tracks e.st (Ev.judgeRelease { e with st := u }).st := fun u hr hz hn hs hf =>
    (Tracks.aside hr hz (congrArg (·.list) hn) hs fun c => by rw [hf]).trans' (judgeRelease_tracks { e with st := u })
  unfold Ev.setMark
  split
  · split
    · exact .rfl' _
    · exact hmark _ rfl rfl rfl rfl rfl
  · split
    · exact .rfl' _
    · exact hmark _ rfl rfl rfl rfl rfl
  · exact .rfl' _

theorem heard_tracks (l : Link) : KeepsCauses (Ev.heard l) := fun e => by
  unfold Ev.heard
  refine Tracks.trans' ?_ (setMark_tracks l _)
  split <;> exact .aside rfl rfl rfl rfl fun _ => rfl

-- ---------------------------------------------------------------- zones (R104 to R106)

theorem onZone_fixed (z : ZoneId) (f : Zone → Zone) (e : Ev) : RoadFixed e.st.road (e.onZone z f).st.road := by
  unfold Ev.onZone
  dsimp only
  generalize e.st.zoneUnit.zones.get z = before
  generalize f before = after
  generalize he : (if before.effective = after.effective then _ else _ : Ev) = e1
  have hroad : e1.st.road = e.st.road := by
    rw [← he]
    split <;> rfl
  rw [← hroad]
  split
  · exact (Ev.addSource_step ..).fixed
  · exact (Ev.removeSource_step ..).fixed
  · exact .rfl' _

/-- The ZONE sources follow the closure of their zones (R105). -/
theorem ZoneStep.tracks {z : ZoneId} {after : Zone} {s t : State} (h : ZoneStep z (s.zoneUnit.zones.get z) after s t)
    (hfixed : RoadFixed s.road t.road) (hexp : after.exposed = (s.zoneUnit.zones.get z).exposed) : Tracks s t := by
  intro i k n hk hc
  have hcs : s.road.configured i = true := (h.configured i).symm.trans hc
  have hzones : ∀ y, t.zoneUnit.zones.get y = if z = y then after else s.zoneUnit.zones.get y := fun y => by
    rw [h.zoneUnit]
    exact get_put ..
  have hquals : t.zoneUnit.quals = s.zoneUnit.quals := by rw [h.zoneUnit]
  have hexposed : ∀ y, (t.zoneUnit.zones.get y).exposed = (s.zoneUnit.zones.get y).exposed := fun y => by
    rw [hzones]
    split
    · next hy => rw [hexp, hy]
    · rfl
  have hfield : t.field = s.field := h.keeps .field (by decide)
  have hsites : t.sites = s.sites := h.keeps .sites (by decide)
  have hnotices : t.notices = s.notices := h.keeps .notices (by decide)
  by_cases hzone : k = .zone
  · subst hzone
    have hsources := h.sources i n
    unfold zoneSources at hsources
    rw [hexp] at hsources
    refine .of_change (p := i ∈ (s.zoneUnit.zones.get z).exposed ∧ n = z.val) hcs (fun hp => ?_) ?_ ?_
      (before := (s.zoneUnit.zones.get z).closure) (after := after.closure) (fun hb ha => ?_) (fun hb ha => ?_) fun hg => ?_
    · have hne : ∀ y : ZoneId, n = y.val → i ∈ (s.zoneUnit.zones.get y).exposed → z ≠ y := by
        rintro y hn hi rfl
        exact hp ⟨hi, hn⟩
      refine exists_congr fun y => and_congr_right fun hn => ?_
      rw [hexposed]
      exact and_congr_left fun hi => by rw [hzones, if_neg (hne y hn hi)]
    · rintro ⟨hi, rfl⟩
      refine ⟨fun ⟨y, hy, hcl, _⟩ => ?_, fun hcl => ⟨z, rfl, hcl, hi⟩⟩
      rwa [Fin.ext hy]
    · rintro ⟨hi, rfl⟩
      have hz : t.zoneUnit.zones.get z = after := (hzones z).trans (if_pos rfl)
      refine ⟨fun ⟨y, hy, hcl, _⟩ => ?_, fun ha => ⟨z, rfl, hz ▸ ha, by rwa [hexposed]⟩⟩
      rwa [← Fin.ext hy, hz] at hcl
    · rw [hsources, hb, ha]
      simp only [hcs, and_true]
    · rw [hsources, hb, ha]
    · rw [hsources, ← hg]
      cases (s.zoneUnit.zones.get z).closure <;> exact Iff.rfl
  · refine .of_still hcs ?_ (h.others i k hzone)
    cases k with
    | zone => exact absurd rfl hzone
    | detector => simp only [Stands, hfield, hquals, hexposed]
    | notice => simp only [Stands, hnotices]
    | weather => simp only [stands_weather, hfixed i, hsites]
    | startup | valley | avalanche | panel | full => exact Iff.rfl

theorem onZone_tracks (z : ZoneId) {f : Zone → Zone} (hf : ∀ x, (f x).exposed = x.exposed) : KeepsCauses (Ev.onZone z f) :=
  fun e => (onZone_spec z f e).tracks (onZone_fixed z f e) (hf _)

theorem silence_tracks (l : Link) : KeepsCauses (Ev.silence l) := fun e => by
  have start : Tracks e.st (if (e.st.links.get l).active then
      (e.on (State.onLink l LinkRecord.silence)).attend Attn.link
      else e.on (State.onLink l LinkRecord.silence)).st := by
    split <;> exact .aside rfl rfl rfl rfl fun _ => rfl
  unfold Ev.silence
  dsimp only
  cases l with
  | avalanche => exact start.trans' (keepsCauses_foldl (fun z => onZone_tracks z lose_exposed) _ _)
  | valley => exact start
  | panel => exact start

-- ---------------------------------------------------------------- detectors (R108 to R114)

theorem onQual_fixed (c : ChanId) (f : Qualification → Qualification) (e : Ev) :
    RoadFixed e.st.road (e.onQual c f).st.road := by
  unfold Ev.onQual
  split
  · exact .rfl' _
  · dsimp only
    split
    · exact (Ev.addSource_step ..).fixed
    · exact (Ev.removeSource_step ..).fixed
    · exact .rfl' _

theorem mem_exposedBy {e : Ev} {c : ChanId} {i : SegId} : i ∈ e.exposedBy c ↔
    ∃ z, (e.st.field.channels.get c).owner = .zone z ∧ i ∈ (e.st.zoneUnit.zones.get z).exposed := by
  unfold Ev.exposedBy
  cases (e.st.field.channels.get c).owner with
  | zone z => simp [Ev.exposed]
  | none => simp
  | site t => simp

/-- The DETECTOR sources follow the states of their detectors (R113). -/
theorem QualStep.tracks {changed : List Block} {c : ChanId} {q after : Qualification} {e : Ev} {t : State}
    (h : QualStep changed c q after (e.exposedBy c) e.st t) (hq : e.st.zoneUnit.quals.get c = some q)
    (hfixed : RoadFixed e.st.road t.road) (hkeep : KeepsBut [.zoneUnit, .links, .road] e.st t) : Tracks e.st t := by
  intro i k n hk hc
  have hcs : e.st.road.configured i = true := (h.configured i).symm.trans hc
  have hquals : ∀ d, t.zoneUnit.quals.get d = if c = d then some after else e.st.zoneUnit.quals.get d := fun d => by
    rw [h.zoneUnit]
    exact get_put ..
  have hzones : t.zoneUnit.zones = e.st.zoneUnit.zones := by rw [h.zoneUnit]
  have hfield : t.field = e.st.field := hkeep .field (by decide)
  have hsites : t.sites = e.st.sites := hkeep .sites (by decide)
  have hnotices : t.notices = e.st.notices := hkeep .notices (by decide)
  by_cases hdetector : k = .detector
  · subst hdetector
    have hsources := h.sources i n
    unfold detectorSources at hsources
    refine .of_change (p := i ∈ e.exposedBy c ∧ n = c.val) hcs (fun hp => ?_) ?_ ?_
      (before := q.state.closes) (after := after.state.closes) (fun hb ha => ?_) (fun hb ha => ?_) fun hg => ?_
    · rw [mem_exposedBy] at hp
      simp only [Stands, hfield, hzones]
      refine exists_congr fun d => exists_congr fun z => and_congr_right fun hn => and_congr_right fun ho =>
        and_congr_right fun hi => ?_
      rw [hquals, if_neg]
      rintro rfl
      exact hp ⟨⟨z, ho, hi⟩, hn⟩
    · rintro ⟨hi, rfl⟩
      obtain ⟨z, ho, hi⟩ := mem_exposedBy.1 hi
      refine ⟨fun ⟨d, _, hd, _, _, x, hx, hcl⟩ => ?_, fun hcl => ⟨c, z, rfl, ho, hi, q, hq, hcl⟩⟩
      rw [← Fin.ext hd, hq] at hx
      rwa [Option.some.inj hx]
    · rintro ⟨hi, rfl⟩
      obtain ⟨z, ho, hi⟩ := mem_exposedBy.1 hi
      have hat : t.zoneUnit.quals.get c = some after := (hquals c).trans (if_pos rfl)
      refine ⟨fun ⟨d, _, hd, _, _, x, hx, hcl⟩ => ?_,
        fun hcl => ⟨c, z, rfl, hfield ▸ ho, hzones ▸ hi, after, hat, hcl⟩⟩
      rw [← Fin.ext hd, hat] at hx
      rwa [Option.some.inj hx]
    · rw [hsources, hb, ha]
      simp only [hcs, and_true]
    · rw [hsources, hb, ha]
    · rw [hsources, ← hg]
      cases q.state.closes <;> exact Iff.rfl
  · refine .of_still hcs ?_ (h.others i k hdetector)
    cases k with
    | detector => exact absurd rfl hdetector
    | zone => simp only [Stands, hzones]
    | notice => simp only [Stands, hnotices]
    | weather => simp only [stands_weather, hfixed i, hsites]
    | startup | valley | avalanche | panel | full => exact Iff.rfl

theorem onQual_tracks (c : ChanId) (f : Qualification → Qualification) : KeepsCauses (Ev.onQual c f) := fun e => by
  cases hq : e.st.zoneUnit.quals.get c with
  | none =>
    unfold Ev.onQual
    rw [hq]
    exact .rfl' _
  | some q =>
    have h := onQual_spec (f := f) hq
    exact h.tracks hq (onQual_fixed c f e) h.keeps

theorem channelWritten_tracks (c : ChanId) {f : Channel → Channel} (hf : ∀ x, (f x).owner = x.owner) (e : Ev) :
    Tracks e.st (e.setChannel c f).st := by
  refine .aside rfl rfl rfl rfl fun d => ?_
  show ((alter e.st.field.channels c f).get d).owner = _
  rw [get_alter]
  split
  · next hd => subst hd; exact hf _
  · rfl

theorem accept_owner (level : Bool) (c : Channel) : (c.accept level).owner = c.owner := by
  unfold Channel.accept Channel.countOne
  dsimp only
  repeat' split
  all_goals rfl

theorem setLevel_owner (level : Bool) (c : Channel) : (c.setLevel level).owner = c.owner := by
  unfold Channel.setLevel
  split <;> rfl

theorem acceptPulse_tracks (c : ChanId) (level : Bool) : KeepsCauses (Ev.acceptPulse c level) := fun e =>
  (channelWritten_tracks c (accept_owner level) e).trans' (.aside rfl rfl rfl rfl fun _ => rfl)

theorem pulseChange_tracks (c : ChanId) (level : Bool) : KeepsCauses (Ev.pulseChange c level) := fun e =>
  (channelWritten_tracks c (setLevel_owner level) e).trans' (acceptPulse_tracks c level _)

theorem loseCarrier_tracks (c : ChanId) : KeepsCauses (Ev.loseCarrier c) := fun e =>
  ((channelWritten_tracks c (f := fun ch => { ch with carrier := ch.carrier.map Carrier.lose }) (fun _ => rfl) e).trans'
    (.aside rfl rfl rfl rfl fun _ => rfl)).trans' (onQual_tracks c Qualification.lose _)

-- ---------------------------------------------------------------- sites (R82, R92 to R94)

theorem siteWritten_tracks (i : SiteId) {f : Site → Site} (hg : ∀ x, (f x).reportedGrade = x.reportedGrade)
    (hw : ∀ x, (f x).reportedWind = x.reportedWind) :
    KeepsCauses fun e => e.on fun s => { s with sites := alter s.sites i f } := fun e => by
  refine .of_stand ⟨fun _ => rfl, rfl, rfl, fun j => ?_, fun j => ?_⟩ (.rfl' _)
  · show ((alter e.st.sites i f).get j).reportedGrade = _
    rw [get_alter]
    split
    · next hj => subst hj; exact hg _
    · rfl
  · show ((alter e.st.sites i f).get j).reportedWind = _
    rw [get_alter]
    split
    · next hj => subst hj; exact hw _
    · rfl

theorem endGate_tracks (c : ChanId) : KeepsCauses (Ev.endGate c) := fun e => by
  have hwritten := channelWritten_tracks c (f := Channel.endGate) (fun _ => rfl) e
  unfold Ev.endGate
  dsimp only
  split
  · exact hwritten.trans' (siteWritten_tracks _ (f := Site.deliver _ _ _) (fun _ => rfl) (fun _ => rfl) _)
  · exact hwritten.trans' (onQual_tracks c _ _)
  · exact hwritten

theorem deliverSite_tracks (i : SiteId) : KeepsCauses (Ev.deliverSite i) := fun e =>
  keepsCauses_foldl endGate_tracks (e.st.field.delivery i) e

/-- The WEATHER sources of the served segments are brought into line with the values that the close reports (R94). -/
theorem PeriodClosed.tracks {i : SiteId} {after : Site} {s t : State} (h : PeriodClosed [.sites, .links, .road] i after s t) :
    Tracks s t := by
  intro j k n hk hc
  have hcs : s.road.configured j = true := (h.configured j).symm.trans hc
  have hfield : t.field = s.field := h.keeps .field (by decide)
  have hzones : t.zoneUnit = s.zoneUnit := h.keeps .zoneUnit (by decide)
  have hnotices : t.notices = s.notices := h.keeps .notices (by decide)
  by_cases hweather : k = .weather
  · subst hweather
    obtain ⟨sg, hj⟩ := Option.isSome_iff_exists.1 hcs
    have hstands : Stands t j .weather n ↔ ∃ x, sg.site = some x ∧ CauseReported (t.sites.get x) sg n := by
      have hclosed : segFixed (closedSegment i after sg) =
          { segFixed sg with restriction := (closedSegment i after sg).restriction } := by
        unfold closedSegment
        split <;> rfl
      rw [stands_weather, h.fixed j, hj, Option.map_some, hclosed]
      exact ⟨fun ⟨x, hx, hcause⟩ => by cases hx; exact hcause, fun hcause => ⟨_, rfl, hcause⟩⟩
    by_cases hs : sg.site = some i
    · have hsite : t.sites.get i = after.nextPeriod := by rw [h.sites, get_put_same]
      have hcause : Stands t j .weather n ↔ CauseReported after sg n := by
        rw [hstands, hs]
        exact ⟨fun ⟨x, hx, hcause⟩ => by cases hx; rwa [hsite] at hcause, fun hcause => ⟨i, rfl, by rwa [hsite]⟩⟩
      have hsources := h.served j sg hj hs n
      by_cases hn : n = causeIce ∨ n = causeWind
      · refine Or.inl (hcause.trans (hsources.trans (or_iff_left ?_)).symm)
        tauto
      · have hnone : ∀ x, ¬ CauseReported x sg n := fun x hx => hn (hx.imp And.left And.left)
        refine Or.inr ⟨hcs, iff_of_false (fun h => hnone _ (hcause.1 h)) ?_, hsources.trans ?_⟩
        · rintro ⟨sg', x, hj', -, hx⟩
          cases hj.symm.trans hj'
          exact hnone _ hx
        · have := hnone after
          tauto
    · refine .of_still hcs ?_ (h.unserved j sg hj hs)
      rw [hstands]
      constructor
      · rintro ⟨x, hx, hcause⟩
        have hne : i ≠ x := fun hix => hs (hix ▸ hx)
        rw [h.sites, get_put_other _ _ hne] at hcause
        exact ⟨sg, x, hj, hx, hcause⟩
      · rintro ⟨sg', x, hj', hx, hcause⟩
        cases hj.symm.trans hj'
        have hne : i ≠ x := fun hix => hs (hix ▸ hx)
        refine ⟨x, hx, ?_⟩
        rwa [h.sites, get_put_other _ _ hne]
  · refine .of_still hcs ?_ (h.others j k hweather)
    cases k with
    | weather => exact absurd rfl hweather
    | detector => simp only [Stands, hfield, hzones]
    | zone => simp only [Stands, hzones]
    | notice => simp only [Stands, hnotices]
    | startup | valley | avalanche | panel | full => exact Iff.rfl

theorem closePeriod_tracks (i : SiteId) : KeepsCauses (Ev.closePeriod i) := fun e => (closePeriod_spec i e).tracks

theorem siteGateEnd_tracks (i : SiteId) : KeepsCauses (Ev.siteGateEnd i) := fun e => by
  unfold Ev.siteGateEnd
  split
  · exact (deliverSite_tracks i e).trans' (closePeriod_tracks i _)
  · exact deliverSite_tracks i e

theorem sitePeriodEnd_tracks (i : SiteId) : KeepsCauses (Ev.sitePeriodEnd i) := fun e => by
  unfold Ev.sitePeriodEnd
  split
  · exact (deliverSite_tracks i e).trans' (closePeriod_tracks i _)
  · exact closePeriod_tracks i e

theorem measurementGateEnd_tracks (c : ChanId) : KeepsCauses (Ev.measurementGateEnd c) := fun e => by
  unfold Ev.measurementGateEnd
  split
  · exact siteGateEnd_tracks _ e
  · exact endGate_tracks c e

-- ---------------------------------------------------------------- the latch (R50 to R54)

theorem setLatch_tracks (f : Latch → Latch) : KeepsCauses (Ev.setLatch f) := fun e => by
  unfold Ev.setLatch
  dsimp only
  split <;> exact .aside rfl rfl rfl rfl fun _ => rfl

theorem requestLatchWrite_tracks : KeepsCauses Ev.requestLatchWrite := fun _ => .aside rfl rfl rfl rfl fun _ => rfl

theorem fullClose_tracks : KeepsCauses Ev.fullClose := fun e => by
  unfold Ev.fullClose
  split
  · refine (setLatch_tracks Latch.toLatched e).trans' ?_
    generalize e.setLatch Latch.toLatched = d
    exact (place_tracks (k := .full) rfl none e.segs d).trans' (requestLatchWrite_tracks _)
  · exact setLatch_tracks _ e
  · exact .rfl' _

theorem releaseFull_tracks : KeepsCauses Ev.releaseFull := fun e => by
  unfold Ev.releaseFull
  refine (setLatch_tracks Latch.toClear e).trans' ?_
  generalize e.setLatch Latch.toClear = d
  exact (remove_tracks (k := .full) rfl e.segs d).trans' (requestLatchWrite_tracks _)

-- ---------------------------------------------------------------- time, samples and the field restart

/-- Time passes no cause (R29, R36). -/
theorem tick_tracks (s : State) : Tracks s s.tick := by
  have hsegs : ∀ i, s.tick.road.segs.get i = (s.road.segs.get i).map Segment.tick := fun i => get_mapIds _ _ i
  have hchan : ∀ c, s.tick.field.channels.get c = (s.field.channels.get c).tick := fun c => get_mapIds _ _ c
  refine .of_stand ⟨fun c => ?_, rfl, rfl, fun _ => rfl, fun _ => rfl⟩ ⟨fun i => ?_, fun i k _ => ?_⟩
  · rw [hchan]
    rfl
  · rw [hsegs]
    cases s.road.segs.get i <;> rfl
  · unfold heldEntry
    rw [hsegs]
    cases s.road.segs.get i <;> rfl

theorem sampleSwitch_tracks (g : GateId) (sw : Switch) (level : Bool) : KeepsCauses (Ev.sampleSwitch g sw level) := fun e => by
  unfold Ev.sampleSwitch
  dsimp only
  split
  · exact onRoad_tracks (fun ctx => RoadEv.switchChange_leavesSources ctx g sw level) e
  · exact .of_stand ⟨fun _ => rfl, rfl, rfl, fun _ => rfl, fun _ => rfl⟩ ⟨fun _ => rfl, fun _ _ _ => rfl⟩

theorem acceptPin_tracks (pin : KeyPin) (level : Bool) : KeepsCauses (Ev.acceptPin pin level) := fun _ => by
  cases pin <;> exact .aside rfl rfl rfl rfl fun _ => rfl

theorem samplePin_tracks (pin : KeyPin) (level : Bool) : KeepsCauses (Ev.samplePin pin level) := fun e => by
  refine ite_tracks (acceptPin_tracks pin level e) ?_
  cases pin <;> exact .aside rfl rfl rfl rfl fun _ => rfl

theorem samplePulse_tracks (c : ChanId) (level : Bool) : KeepsCauses (Ev.samplePulse c level) := fun e => by
  have hwritten := channelWritten_tracks c (f := fun ch => { ch with
    filter := ((e.st.field.channels.get c).filter.sample (e.st.field.channels.get c).nf level).1, edge := level })
    (fun _ => rfl) e
  unfold Ev.samplePulse
  exact hwritten.trans' (ite_tracks (acceptPulse_tracks c level _) (.rfl' _))

theorem sampleAll_tracks (levels : Levels) : KeepsCauses (Ev.sampleAll levels) := fun e => by
  unfold Ev.sampleAll
  dsimp only
  refine Tracks.trans' ?_ (keepsCauses_foldl (fun c => samplePulse_tracks c _) (List.finRange 16) _)
  refine Tracks.trans' ?_ (samplePin_tracks .b _ _)
  refine Tracks.trans' ?_ (samplePin_tracks .a _ _)
  exact keepsCauses_foldl
    (f := fun e g => (e.sampleSwitch g .raised (levels.raised.get g)).sampleSwitch g .lowered (levels.lowered.get g))
    (fun g e => (sampleSwitch_tracks g .raised _ e).trans' (sampleSwitch_tracks g .lowered _ _)) (List.finRange 6) e

theorem restartQuals_tracks : KeepsCauses Ev.restartQuals :=
  fun e => keepsCauses_foldl (f := fun e c => e.onQual c Qualification.restart) (fun c => onQual_tracks c _) _ e

theorem restartFields_tracks : KeepsCauses Ev.restartFields := fun e => by
  have hsite : ∀ i, e.restartFields.st.sites.get i =
      if (e.st.sites.get i).inUse then (e.st.sites.get i).restart else e.st.sites.get i := fun i => get_mapIds _ _ i
  have hchan : ∀ c, (e.restartFields.st.field.channels.get c) = (e.st.field.channels.get c).restart := fun c => get_mapIds _ _ c
  refine .of_stand ⟨fun c => ?_, rfl, rfl, fun i => ?_, fun i => ?_⟩ (.rfl' _)
  · rw [hchan]
    rfl
  · rw [hsite]
    split <;> rfl
  · rw [hsite]
    split <;> rfl

theorem boardRestart_tracks : KeepsCauses fun e => (e.on fun s => { s with board := s.board.restart }).thenArbitrate :=
  fun _ => .aside rfl rfl rfl rfl fun _ => rfl

theorem fieldRestart_tracks : KeepsCauses Ev.fieldRestart := fun e =>
  ((restartFields_tracks e).trans' (restartQuals_tracks e.restartFields)).trans'
    (boardRestart_tracks e.restartFields.restartQuals)

end Sys2Proof.Machine

end

section
/-! The operations of the notice list keep the NOTICE sources in line with the notices in force (R127 to R138). -/

namespace Sys2Proof.Machine

-- ---------------------------------------------------------------- the ids of a notice list (R126)

/-- No two notices of a list have the same id. -/
def DistinctIds (l : List Notice) : Prop := ∀ a ∈ l, ∀ b ∈ l, a.id = b.id → a = b

theorem NoticeLaw.distinctIds {s : State} (h : NoticeLaw s) : DistinctIds s.notices.list := by
  obtain ⟨-, -, hnodup, -⟩ := h
  exact List.inj_on_of_nodup_map hnodup

theorem findNotice_some {l : List Notice} {id : Nat} {n : Notice} (h : findNotice l id = some n) : n ∈ l :=
  List.mem_of_find?_eq_some h

theorem mem_insertNotice {n m : Notice} : ∀ {l : List Notice}, m ∈ insertNotice n l ↔ m = n ∨ m ∈ l
  | [] => by simp [insertNotice]
  | x :: l => by
    unfold insertNotice
    split
    · simp
    · rw [List.mem_cons, mem_insertNotice, List.mem_cons]
      tauto

theorem mem_dropNotice {l : List Notice} {id : Nat} {m : Notice} : m ∈ dropNotice l id ↔ m ∈ l ∧ m.id ≠ id := by
  simp [dropNotice]

theorem mem_replaceNotice {l : List Notice} {old new m : Notice} (hold : old ∈ l) :
    m ∈ replaceNotice old new l ↔ m = new ∨ (m ∈ l ∧ m.id ≠ old.id) := by
  unfold replaceNotice
  split
  · rw [List.mem_map]
    constructor
    · rintro ⟨x, hx, rfl⟩
      split
      · exact Or.inl rfl
      · next hne => exact Or.inr ⟨hx, hne⟩
    · rintro (rfl | ⟨hm, hne⟩)
      · exact ⟨old, hold, if_pos rfl⟩
      · exact ⟨m, hm, if_neg hne⟩
  · rw [mem_insertNotice, mem_dropNotice]

/-- A free id is that of no notice in the list (R126). -/
theorem freeId_fresh {l : List Notice} {id : Nat} (h : freeId l = some id) : ∀ m ∈ l, m.id ≠ id := by
  have hnone : (findNotice l id).isNone = true := List.find?_some (p := fun i => (findNotice l i).isNone) h
  intro m hm hid
  exact absurd (by simp [hid]) (List.find?_eq_none.1 (Option.isNone_iff_eq_none.1 hnone) m hm)

theorem distinctIds_insert {l : List Notice} {n : Notice} (h : DistinctIds l) (hn : ∀ m ∈ l, m.id ≠ n.id) :
    DistinctIds (insertNotice n l) := by
  intro a ha b hb hab
  obtain han | hal := mem_insertNotice.1 ha <;> obtain hbn | hbl := mem_insertNotice.1 hb
  · exact han.trans hbn.symm
  · exact absurd (hab.symm.trans (congrArg _ han)) (hn b hbl)
  · exact absurd (hab.trans (congrArg _ hbn)) (hn a hal)
  · exact h a hal b hbl hab

theorem distinctIds_replace {l : List Notice} {old new : Notice} (h : DistinctIds l) (hold : old ∈ l) (hid : new.id = old.id) :
    DistinctIds (replaceNotice old new l) := by
  intro a ha b hb hab
  obtain rfl | ⟨ha, hane⟩ := (mem_replaceNotice hold).1 ha <;> obtain rfl | ⟨hb, hbne⟩ := (mem_replaceNotice hold).1 hb
  · rfl
  · exact absurd (hab.symm.trans hid) hbne
  · exact absurd (hab.trans hid) hane
  · exact h a ha b hb hab

-- ---------------------------------------------------------------- changes of the list

/-- A change of the notice list and of the NOTICE entries. -/
structure NoticeStep (s t : State) : Prop where
  keeps : KeepsBut [.notices, .links, .road] s t
  fixed : RoadFixed s.road t.road
  others : ∀ j k, k ≠ .notice → heldEntry t.road j k = heldEntry s.road j k

theorem NoticeStep.trans' {s t u : State} (h : NoticeStep s t) (h' : NoticeStep t u) : NoticeStep s u :=
  ⟨h.keeps.trans' h'.keeps, h.fixed.trans' h'.fixed, fun j k hk => (h'.others j k hk).trans (h.others j k hk)⟩

theorem SourceStep.noticeStep {l : List SegId} {s t : State} (h : SourceStep .notice l s t) : NoticeStep s t :=
  ⟨h.keeps.mono (by decide), h.fixed, h.others⟩

theorem NoticeStep.of_road {s t : State} (h : KeepsBut [.notices, .links, .road] s t) (hr : t.road = s.road) : NoticeStep s t :=
  ⟨h, .of_eq hr, fun _ _ _ => by rw [hr]⟩

theorem setNotices_step (f : List Notice → List Notice) (e : Ev) : NoticeStep e.st (e.setNotices f).st :=
  .of_road (fun b hb => by cases b <;> simp_all [Block.same, Ev.setNotices, Ev.on]) rfl

theorem noticeChange_step (segs : List SegId) (e : Ev) : NoticeStep e.st (e.noticeChange segs).st :=
  .of_road (fun b hb => by cases b <;> simp_all [Block.same]) rfl

theorem NoticeStep.tracks {s t : State} (h : NoticeStep s t)
    (hn : ∀ j n, s.road.configured j = true → FollowsAt s t j .notice n) : Tracks s t := by
  intro j k n hk hc
  have hcs : s.road.configured j = true := (h.fixed.configured j).symm.trans hc
  have hfield : t.field = s.field := h.keeps .field (by decide)
  have hzones : t.zoneUnit = s.zoneUnit := h.keeps .zoneUnit (by decide)
  have hsites : t.sites = s.sites := h.keeps .sites (by decide)
  cases k with
  | notice => exact hn j n hcs
  | detector => exact .of_still hcs (by simp only [Stands, hfield, hzones]) (h.others j _ (by decide))
  | zone => exact .of_still hcs (by simp only [Stands, hzones]) (h.others j _ (by decide))
  | weather => exact .of_still hcs (by simp only [stands_weather, h.fixed j, hsites]) (h.others j _ (by decide))
  | startup | valley | avalanche | panel | full => cases hk

theorem noticeChange_tracks (segs : List SegId) : KeepsCauses (Ev.noticeChange segs) := fun _ =>
  .aside rfl rfl rfl rfl fun _ => rfl

/-- A list that differs in no notice in force. -/
theorem setNotices_tracks {f : List Notice → List Notice} {e : Ev} (hf : ∀ m : Notice, m.state = .inForce →
    (m ∈ f e.st.notices.list ↔ m ∈ e.st.notices.list)) : Tracks e.st (e.setNotices f).st :=
  (setNotices_step f e).tracks fun j n hc => .of_still hc (exists_congr fun m => by
    constructor
    · rintro ⟨hm, hid, hst, hj⟩
      exact ⟨(hf m hst).1 hm, hid, hst, hj⟩
    · rintro ⟨hm, hid, hst, hj⟩
      exact ⟨(hf m hst).2 hm, hid, hst, hj⟩) rfl

-- ---------------------------------------------------------------- an evaluation (R127 to R129)

theorem mem_evaluated {now : Nat} {l : List Notice} {m : Notice} :
    m ∈ evaluated now l ↔ ∃ n ∈ l, ∃ st, n.outcome now = some st ∧ { n with state := st } = m := by
  simp [evaluated, List.mem_filterMap]

/-- The attention and the re-selections of the notices that an evaluation changes (R130). -/
theorem noticeChanges_step : ∀ (l : List Notice) (d : Ev),
    NoticeStep d.st (l.foldl (fun e n => e.noticeChange n.segs) d).st ∧
      (l.foldl (fun e n => e.noticeChange n.segs) d).st.road = d.st.road ∧
      (l.foldl (fun e n => e.noticeChange n.segs) d).st.notices = d.st.notices
  | [], _ => ⟨.of_road (.rfl' _ _) rfl, rfl, rfl⟩
  | x :: l, d =>
    let ⟨hstep, hroad, hnotices⟩ := noticeChanges_step l (d.noticeChange x.segs)
    ⟨(noticeChange_step x.segs d).trans' hstep, hroad, hnotices⟩

/-- What an evaluation does to the NOTICE sources (R129). -/
theorem evaluate_spec (e : Ev) : let now := e.st.notices.clock.value
    NoticeStep e.st e.evaluate.st ∧ e.evaluate.st.notices.list = evaluated now e.st.notices.list ∧
      ∀ j n, Sourced e.evaluate.st.road j .notice n ↔
        (Sourced e.st.road j .notice n ∨ (e.st.road.configured j = true ∧
          ∃ x ∈ e.st.notices.list.filter (Notice.enters now), j ∈ x.segs ∧ n = x.id)) ∧
        ¬ ∃ x ∈ e.st.notices.list.filter (Notice.ends now), j ∈ x.segs ∧ n = x.id := by
  intro now
  have hall : ∀ (l : List Notice), ∀ x ∈ l, ∀ j ∈ x.segs, j ∈ List.finRange 8 := fun _ _ _ j _ => List.mem_finRange j
  unfold Ev.evaluate
  dsimp only
  generalize e.st.notices.list.filter (Notice.changes _) = changed
  have hadd := Ev.addEach_step .notice Notice.id Notice.segs (hall (e.st.notices.list.filter (Notice.enters now))) e
  have haddSource := fun j n =>
    Ev.addEach_sourced .notice Notice.id Notice.segs j n (e.st.notices.list.filter (Notice.enters now)) e
  unfold Ev.addEach at hadd haddSource
  generalize List.foldl _ e (e.st.notices.list.filter (Notice.enters now)) = e1 at hadd haddSource ⊢
  have hremove := Ev.removeEach_step .notice Notice.id Notice.segs (hall (e.st.notices.list.filter (Notice.ends now))) e1
  have hremoveSource := fun j n =>
    Ev.removeEach_sourced .notice Notice.id Notice.segs j n (e.st.notices.list.filter (Notice.ends now)) e1
  unfold Ev.removeEach at hremove hremoveSource
  generalize List.foldl _ e1 (e.st.notices.list.filter (Notice.ends now)) = e2 at hremove hremoveSource ⊢
  obtain ⟨hstep, hroad, hnotices⟩ := noticeChanges_step changed e2
  generalize List.foldl _ e2 changed = e3 at hstep hroad hnotices ⊢
  have hlist : e3.st.notices = e.st.notices :=
    hnotices.trans ((hremove.keeps .notices (by decide)).trans (hadd.keeps .notices (by decide)))
  refine ⟨((hadd.noticeStep.trans' hremove.noticeStep).trans' hstep).trans' (setNotices_step _ e3), ?_, fun j n => ?_⟩
  · show evaluated _ e3.st.notices.list = _
    rw [hlist]
  · show Sourced e3.st.road j .notice n ↔ _
    rw [hroad, hremoveSource, haddSource]

theorem outcome_inForce {now : Nat} {n : Notice} (h : n.state = .inForce) :
    n.outcome now = none ∨ n.outcome now = some .inForce := by
  unfold Notice.outcome
  rw [h]
  cases n.stop with
  | none => exact Or.inr rfl
  | some e =>
    dsimp only
    split
    · exact Or.inl rfl
    · exact Or.inr rfl

theorem enters_iff {now : Nat} {n : Notice} :
    n.enters now = true ↔ n.outcome now = some .inForce ∧ n.state ≠ .inForce := by simp [Notice.enters]

theorem ends_iff {now : Nat} {n : Notice} : n.ends now = true ↔ n.outcome now = none ∧ n.state = .inForce := by
  simp [Notice.ends]

/-- The NOTICE sources follow their notices through an evaluation (R129). -/
theorem evaluate_tracks {e : Ev} (h : DistinctIds e.st.notices.list) : Tracks e.st e.evaluate.st := by
  obtain ⟨hstep, hlist, hsources⟩ := evaluate_spec e
  refine hstep.tracks fun j n hc => ?_
  generalize e.st.notices.clock.value = now at hlist hsources
  have hbefore : Stands e.st j .notice n ↔ ∃ x ∈ e.st.notices.list, x.id = n ∧ x.state = .inForce ∧ j ∈ x.segs := Iff.rfl
  have hafter : Stands e.evaluate.st j .notice n ↔
      ∃ x ∈ e.st.notices.list, x.id = n ∧ x.outcome now = some .inForce ∧ j ∈ x.segs := by
    unfold Stands
    rw [hlist]
    constructor
    · rintro ⟨m, hm, hid, hst, hj⟩
      obtain ⟨x, hx, st, ho, rfl⟩ := mem_evaluated.1 hm
      exact ⟨x, hx, hid, ho.trans (congrArg some hst), hj⟩
    · rintro ⟨x, hx, hid, ho, hj⟩
      exact ⟨{ x with state := .inForce }, mem_evaluated.2 ⟨x, hx, _, ho, rfl⟩, hid, rfl, hj⟩
  have hsource := hsources j n
  simp only [List.mem_filter, enters_iff, ends_iff, hc, true_and] at hsource
  by_cases hx : ∃ x ∈ e.st.notices.list, x.id = n
  · obtain ⟨x, hx, rfl⟩ := hx
    have honly : ∀ {P : Notice → Prop}, (∃ y ∈ e.st.notices.list, y.id = x.id ∧ P y) ↔ P x :=
      ⟨fun ⟨y, hy, hid, hp⟩ => h y hy x hx hid ▸ hp, fun hp => ⟨x, hx, rfl, hp⟩⟩
    rw [honly] at hbefore hafter
    have hsource : Sourced e.evaluate.st.road j .notice x.id ↔
        (Sourced e.st.road j .notice x.id ∨ ((x.outcome now = some .inForce ∧ x.state ≠ .inForce) ∧ j ∈ x.segs)) ∧
          ¬ ((x.outcome now = none ∧ x.state = .inForce) ∧ j ∈ x.segs) := by
      rw [hsource, ← honly (P := fun y => (y.outcome now = some .inForce ∧ y.state ≠ .inForce) ∧ j ∈ y.segs),
        ← honly (P := fun y => (y.outcome now = none ∧ y.state = .inForce) ∧ j ∈ y.segs)]
      simp only [and_assoc, and_left_comm, and_comm, eq_comm]
    unfold FollowsAt
    rw [hbefore, hafter, hsource]
    by_cases hst : x.state = .inForce
    · obtain ho | ho := outcome_inForce (now := now) hst <;> simp [hst, ho, hc]
      tauto
    · by_cases ho : x.outcome now = some .inForce <;> simp [hst, ho, hc]
      tauto
  · have hno : ∀ {P : Notice → Prop}, ¬ ∃ y ∈ e.st.notices.list, y.id = n ∧ P y := fun ⟨y, hy, hid, _⟩ => hx ⟨y, hy, hid⟩
    refine Or.inr ⟨hc, iff_of_false (fun hs => hno (hafter.1 hs)) (fun hs => hno (hbefore.1 hs)), ?_⟩
    have hid : ∀ y ∈ e.st.notices.list, n ≠ y.id := fun y hy hn => hx ⟨y, hy, hn.symm⟩
    rw [hsource]
    constructor
    · rintro ⟨hs | ⟨y, ⟨hy, _⟩, _, hn⟩, _⟩
      · exact hs
      · exact absurd hn (hid y hy)
    · exact fun hs => ⟨Or.inl hs, fun ⟨y, ⟨hy, _⟩, _, hn⟩ => hid y hy hn⟩

theorem evaluateIfValid_tracks {e : Ev} (h : DistinctIds e.st.notices.list) : Tracks e.st e.evaluateIfValid.st := by
  unfold Ev.evaluateIfValid
  split
  · exact evaluate_tracks h
  · exact .rfl' _

-- ---------------------------------------------------------------- withdrawal, lift and amendment (R133 to R138)

/-- A notice that is not in force leaves the list (R136). -/
theorem dropNotice_tracks {e : Ev} {n : Notice} (h : DistinctIds e.st.notices.list) (hn : n ∈ e.st.notices.list)
    (hst : n.state ≠ .inForce) : Tracks e.st (e.setNotices (dropNotice · n.id)).st :=
  setNotices_tracks fun m hm => mem_dropNotice.trans (and_iff_left_of_imp fun hml hid => hst (h m hml n hn hid ▸ hm))

/-- A notice in force leaves the list, and its source its segments (R137, R138). -/
theorem liftNotice_tracks {e : Ev} {n : Notice} (h : DistinctIds e.st.notices.list) (hn : n ∈ e.st.notices.list)
    (hst : n.state = .inForce) :
    Tracks e.st ((e.setNotices (dropNotice · n.id)).removeSource .notice n.id n.segs).st := by
  have hwritten := setNotices_step (dropNotice · n.id) e
  have hremove := (e.setNotices (dropNotice · n.id)).removeSource_step .notice n.id n.segs
  have hsource := ((e.setNotices (dropNotice · n.id)).removeSource_spec .notice n.id n.segs).2
  refine (hwritten.trans' hremove.noticeStep).tracks fun j m hc => ?_
  have hlist : ((e.setNotices (dropNotice · n.id)).removeSource .notice n.id n.segs).st.notices.list =
      dropNotice e.st.notices.list n.id := congrArg (·.list) (hremove.keeps .notices (by decide))
  generalize ((e.setNotices (dropNotice · n.id)).removeSource .notice n.id n.segs).st = t at hlist hsource ⊢
  refine .of_change (p := j ∈ n.segs ∧ m = n.id) (before := true) (after := false) hc (fun hp => ?_) (fun hp => ?_)
    (fun hp => ?_) nofun (fun _ _ => hsource j m) nofun
  · simp only [Stands, hlist, mem_dropNotice]
    refine exists_congr fun x => ?_
    constructor
    · rintro ⟨⟨hx, _⟩, hrest⟩
      exact ⟨hx, hrest⟩
    · rintro ⟨hx, hid, hf, hj⟩
      refine ⟨⟨hx, fun hxn => hp ?_⟩, hid, hf, hj⟩
      exact ⟨h x hx n hn hxn ▸ hj, hid.symm.trans hxn⟩
  · obtain ⟨hj, rfl⟩ := hp
    exact iff_of_true ⟨n, hn, rfl, hst, hj⟩ rfl
  · obtain ⟨hj, rfl⟩ := hp
    refine iff_of_false ?_ Bool.false_ne_true
    simp only [Stands, hlist, mem_dropNotice]
    rintro ⟨x, ⟨_, hne⟩, hid, _⟩
    exact hne hid

theorem alignNotice_spec {old : Notice} (h : old.state = .inForce) (new : Notice) (d : Ev) :
    NoticeStep d.st (d.alignNotice old new).st ∧ (d.alignNotice old new).st.notices = d.st.notices ∧
      ∀ j m, Sourced (d.alignNotice old new).st.road j .notice m ↔
        (Sourced d.st.road j .notice m ∨ ((j ∈ new.segs ∧ j ∉ old.segs) ∧ m = old.id ∧ d.st.road.configured j = true)) ∧
          ¬ ((j ∈ old.segs ∧ j ∉ new.segs) ∧ m = old.id) := by
  unfold Ev.alignNotice
  rw [if_pos h]
  have hadd := d.addSource_step .notice old.id (new.segs.filter fun i => !old.segs.contains i)
  have haddSource := (d.addSource_spec .notice old.id (new.segs.filter fun i => !old.segs.contains i)).2
  generalize d.addSource .notice old.id (new.segs.filter fun i => !old.segs.contains i) = d1 at hadd haddSource ⊢
  have hremove := d1.removeSource_step .notice old.id (old.segs.filter fun i => !new.segs.contains i)
  have hremoveSource := (d1.removeSource_spec .notice old.id (old.segs.filter fun i => !new.segs.contains i)).2
  refine ⟨hadd.noticeStep.trans' hremove.noticeStep,
    (hremove.keeps .notices (by decide)).trans (hadd.keeps .notices (by decide)), fun j m => ?_⟩
  rw [hremoveSource, haddSource]
  simp

theorem alignNotice_notices (old new : Notice) (d : Ev) : (d.alignNotice old new).st.notices = d.st.notices := by
  by_cases h : old.state = .inForce
  · obtain ⟨-, hnotices, -⟩ := alignNotice_spec h new d
    exact hnotices
  · rw [show d.alignNotice old new = d from if_neg h]

/-- The sources of an amended notice in force move with its segments (R135). -/
theorem amendNotice_tracks {e d : Ev} {old new : Notice} (h : DistinctIds e.st.notices.list) (hold : old ∈ e.st.notices.list)
    (hid : new.id = old.id) (hst : new.state = old.state) (hstep : NoticeStep e.st d.st) (hroad : d.st.road = e.st.road)
    (hlist : d.st.notices.list = replaceNotice old new e.st.notices.list) :
    Tracks e.st (d.alignNotice old new).st := by
  have hbefore : ∀ {j m}, m = old.id → (Stands e.st j .notice m ↔ old.state = .inForce ∧ j ∈ old.segs) := by
    rintro j _ rfl
    exact ⟨fun ⟨x, hx, hxid, hrest⟩ => h x hx old hold hxid ▸ hrest, fun hrest => ⟨old, hold, rfl, hrest⟩⟩
  have hafter : ∀ {t : State} {j m}, t.notices = d.st.notices → m = old.id →
      (Stands t j .notice m ↔ old.state = .inForce ∧ j ∈ new.segs) := by
    rintro t j _ ht rfl
    simp only [Stands, ht, hlist, mem_replaceNotice hold]
    constructor
    · rintro ⟨x, rfl | ⟨_, hne⟩, hxid, hrest⟩
      · rwa [hst] at hrest
      · exact absurd hxid hne
    · rintro ⟨hf, hj⟩
      exact ⟨new, Or.inl rfl, hid, hst.trans hf, hj⟩
  have hother : ∀ {t : State} {j m}, t.notices = d.st.notices → m ≠ old.id →
      (Stands t j .notice m ↔ Stands e.st j .notice m) := by
    intro t j m ht hm
    simp only [Stands, ht, hlist, mem_replaceNotice hold]
    refine exists_congr fun x => ?_
    constructor
    · rintro ⟨rfl | ⟨hx, _⟩, hxid, hrest⟩
      · exact absurd (hxid.symm.trans hid) hm
      · exact ⟨hx, hxid, hrest⟩
    · rintro ⟨hx, hxid, hrest⟩
      exact ⟨Or.inr ⟨hx, fun hxo => hm (hxid.symm.trans hxo)⟩, hxid, hrest⟩
  by_cases hf : old.state = .inForce
  · obtain ⟨halign, hnotices, hsource⟩ := alignNotice_spec hf new d
    refine (hstep.trans' halign).tracks fun j m hc => ?_
    rw [hroad] at hsource
    refine .of_change (p := m = old.id) (before := decide (j ∈ old.segs)) (after := decide (j ∈ new.segs)) hc (hother hnotices)
      (fun hm => ?_) (fun hm => ?_) (fun hb ha => ?_) (fun hb ha => ?_) fun hg => ?_
    · rw [hbefore hm, decide_eq_true_iff]
      exact and_iff_right hf
    · rw [hafter hnotices hm, decide_eq_true_iff]
      exact and_iff_right hf
    · simp [hsource, of_decide_eq_false hb, of_decide_eq_true ha, hc]
    · simp [hsource, of_decide_eq_true hb, of_decide_eq_false ha]
    · have hsame := decide_eq_decide.1 hg
      simp [hsource, hsame]
  · have halign : d.alignNotice old new = d := if_neg hf
    rw [halign]
    refine hstep.tracks fun j m hc => .of_still hc ?_ (by rw [hroad])
    by_cases hm : m = old.id
    · exact iff_of_false (fun hs => hf ((hafter rfl hm).1 hs).1) fun hs => hf ((hbefore hm).1 hs).1
    · exact hother rfl hm

end Sys2Proof.Machine

end

section
/-! A load places the sources of the causes that it loads (R27, R28, R199, R200). -/

namespace Sys2Proof.Machine

theorem afterLoad_tracks : KeepsCauses Ev.afterLoad := fun e => by
  unfold Ev.afterLoad
  split
  · rw [raiseAll_st]
    exact onRoad_tracks (f := fun ctx r => RoadEv.resolveAll ctx { r with flags := r.flags ||| Attn.segment })
      (fun ctx r => RoadEv.resolveAll_leavesSources ctx { r with flags := r.flags ||| Attn.segment }) e
  · exact .rfl' _

/-- The segment that a load makes of the description. -/
theorem placed_seg (s : State) (since : Option Nat) (i : SegId) : (s.loadTables.placeStart since).road.segs.get i =
    (s.store.loadSeg i).map fun sg => { sg with holds := s.loadTables.startHolds since sg } :=
  (placeStart_get s.loadTables since i).trans (by rw [loadTables_seg])

/-- The sources of a kind in a start hold set (R27, R28). -/
def startSources (s : State) (sg : Segment) : HoldKind → List Nat
  | .zone => startZones s sg
  | .weather => startCauses s sg
  | _ => []

theorem startHolds_sources (s : State) (since : Option Nat) (sg : Segment) {k : HoldKind} (hk : sourced k = true) (n : Nat) :
    (∃ x, (s.startHolds since sg).entry k = some x ∧ n ∈ x.sources) ↔ n ∈ startSources s sg k := by
  have hlist : ∀ l : List Nat,
      (∃ x, (if l = [] then none else some (State.startEntry since l)) = some x ∧ n ∈ x.sources) ↔ n ∈ l := fun l => by
    by_cases hl : l = [] <;> simp [hl, State.startEntry]
  rw [startHolds_eq, startSet_entry]
  cases k with
  | zone => exact hlist _
  | weather => exact hlist _
  | detector | notice => simp [startSources]
  | startup | valley | avalanche | panel | full => cases hk

theorem placed_sourced {s : State} {since : Option Nat} {i : SegId} {sg : Segment} (hi : s.store.loadSeg i = some sg)
    {k : HoldKind} (hk : sourced k = true) (n : Nat) :
    Sourced (s.loadTables.placeStart since).road i k n ↔ n ∈ startSources s.loadTables sg k := by
  rw [← startHolds_sources s.loadTables since sg hk]
  exact sourced_iff ((placed_seg s since i).trans (by rw [hi]; rfl))

theorem mem_startZones {s : State} {i : SegId} {sg : Segment} (hi : s.store.loadSeg i = some sg) (n : Nat) :
    n ∈ startZones s.loadTables sg ↔ ∃ z : ZoneId, n = z.val ∧ (s.loadTables.zoneUnit.zones.get z).closure = true ∧
      i ∈ (s.loadTables.zoneUnit.zones.get z).exposed := by
  have hzones : sg.zones = s.store.zonesOf i := by rw [loadSeg_eq hi]
  have hexposed : ∀ z, i ∈ (s.loadTables.zoneUnit.zones.get z).exposed ↔ s.store.exposes z i = true := fun z => by
    rw [loadTables_zone]
    exact mem_idsWhere ..
  unfold startZones
  simp only [List.mem_map, List.mem_filter, hzones, hexposed, Store.zonesOf, mem_idsWhere]
  exact exists_congr fun z => ⟨fun ⟨⟨he, hc⟩, hz⟩ => ⟨hz.symm, hc, he⟩, fun ⟨hz, hc, he⟩ => ⟨⟨he, hc⟩, hz.symm⟩⟩

theorem mem_startCauses (s : State) (sg : Segment) (n : Nat) :
    n ∈ startCauses s sg ↔ ∃ t, sg.site = some t ∧ CauseReported (s.sites.get t) sg n := by
  unfold startCauses
  cases sg.site with
  | none => simp
  | some t =>
    have hpresent := weatherCauses_present (s.sites.get t) sg n
    simp only [List.mem_map, Option.some.injEq, exists_eq_left', ← hpresent]
    exact exists_congr fun c => and_congr_right fun _ => eq_comm

theorem loadQual_quiet {st : Store} {c : ChanId} {q : Qualification} (h : st.loadQual c = some q) : q.state = .quiet := by
  unfold Store.loadQual at h
  dsimp only at h
  split at h
  · rw [← Option.some.inj h]
  · cases h

/-- After a load with an empty notice list every source is in line with its cause (R27, R28, R118, R124). -/
theorem placed_aligned {s : State} (hlist : s.notices.list = []) (since : Option Nat) (i : SegId) {k : HoldKind}
    (hk : sourced k = true) (n : Nat) (hc : (s.loadTables.placeStart since).road.configured i = true) :
    Stands (s.loadTables.placeStart since) i k n ↔ Sourced (s.loadTables.placeStart since).road i k n := by
  obtain ⟨sg', hsg'⟩ := Option.isSome_iff_exists.1 hc
  obtain ⟨sg, hi, rfl⟩ := Option.map_eq_some_iff.1 ((placed_seg s since i).symm.trans hsg')
  rw [placed_sourced hi hk]
  cases k with
  | detector =>
    refine iff_of_false ?_ List.not_mem_nil
    rintro ⟨c, -, -, -, -, q, hq, hcl⟩
    rw [loadQual_quiet ((loadTables_qual s c).symm.trans hq)] at hcl
    cases hcl
  | zone => exact (mem_startZones hi n).symm
  | notice =>
    refine iff_of_false ?_ List.not_mem_nil
    rintro ⟨m, hm, -⟩
    have hnone : (s.loadTables.placeStart since).notices.list = [] := hlist
    rw [hnone] at hm
    cases hm
  | weather =>
    refine Iff.trans ?_ (mem_startCauses s.loadTables sg n).symm
    constructor
    · rintro ⟨x, t, hx, ht, hcause⟩
      cases hsg'.symm.trans hx
      exact ⟨t, ht, hcause⟩
    · rintro ⟨t, ht, hcause⟩
      exact ⟨_, t, hsg', ht, hcause⟩
  | startup | valley | avalanche | panel | full => cases hk

theorem load_tracks (u : State) {s : State} (hlist : s.notices.list = []) (since : Option Nat) :
    Tracks u (s.loadTables.placeStart since) := fun i _ n hk hc => Or.inl (placed_aligned hlist since i hk n hc)

/-- An uncommissioned part has no segments (R200). -/
theorem unload_tracks (u s : State) (since : Option Nat) : Tracks u (s.unloadTables.placeStart since) := fun i _ _ _ hc => by
  have hnone : (s.unloadTables.placeStart since).road.segs.get i = none :=
    (placeStart_get ..).trans (by rw [unloadTables_segment]; rfl)
  unfold Road.configured at hc
  rw [hnone] at hc
  cases hc

theorem commit_tracks {e : Ev} (h : e.st.notices.list = []) : Tracks e.st e.commit.st := by
  have hcommitted : Tracks (e.st.loadTables.placeStart e.st.since) ((committed e.st).attend (commitFlags e.st)) :=
    .aside rfl rfl rfl rfl fun _ => rfl
  rw [commit_eq]
  exact ((load_tracks e.st h e.st.since).trans' hcommitted).trans' (afterLoad_tracks _)

theorem afterReset_tracks (u : State) (levels : Levels) (s : State) : Tracks u (afterReset levels s) := by
  refine Tracks.trans' ?_ (event_tracks afterLoad_tracks ((resetBase levels s).loadAtReset.placeStart none))
  unfold State.loadAtReset
  split
  · exact load_tracks u rfl none
  · exact unload_tracks u _ none

end Sys2Proof.Machine

end

section
/-! Every request, however it is judged, and every command keeps the sources in line with the causes (R94, R105, R113, R129). -/

namespace Sys2Proof.Machine

-- ---------------------------------------------------------------- judging a request

/-- After the effects of an accepted request every source follows its cause; a refusal has no effects. -/
def Verdict.Tracks (s : State) : Verdict → Prop
  | .refuse _ => True
  | .accept e _ => Machine.Tracks s e.st

section
variable {u : State}

theorem deny_tracks (r : Result) : (Verdict.deny r).Tracks u := trivial

theorem check_tracks {l : List (Option Result)} {v : Unit → Verdict} (h : firstFailure l = none → (v ()).Tracks u) :
    (Verdict.check l v).Tracks u := by
  unfold Verdict.check
  split
  · trivial
  · next hn => exact h hn

/-- An acceptance behind checks. -/
theorem accept_tracks {l : List (Option Result)} {e : Ev} {reply : State → List Byte} (h : Tracks u e.st) :
    (Verdict.check l fun _ => .accept e reply).Tracks u := check_tracks fun _ => h

theorem fitting_tracks {b : Bool} {v : Unit → Verdict} (h : (v ()).Tracks u) : (Verdict.fitting b v).Tracks u := by
  unfold Verdict.fitting
  split
  · exact h
  · trivial

end

section
variable (l : Link) (e : Ev)

theorem judgeHoldPlace_tracks (reason : Option Byte) (segs : List Byte) : (judgeHoldPlace l reason segs e).Tracks e.st := by
  refine fitting_tracks (check_tracks fun _ => ?_)
  split
  · exact deny_tracks _
  · exact place_tracks (ownKind_linkPlaced l).2.1 _ _ e

/-- A kind that a link may release is one that links place, and so one without sources (R23). -/
theorem needReleaseAuthority_unsourced {s : State} {l : Link} {k : HoldKind} (h : s.needReleaseAuthority l k = none) :
    sourced k = false := by
  cases k with
  | startup | valley | avalanche | panel | full => rfl
  | zone | detector | weather | notice => cases l <;> cases h

theorem judgeHoldRelease_tracks (kind : HoldKind) (segs : List Byte) : (judgeHoldRelease l kind segs e).Tracks e.st := by
  refine fitting_tracks (check_tracks fun hc => ?_)
  split
  · exact deny_tracks _
  · exact remove_tracks (needReleaseAuthority_unsourced (firstFailure_head hc)) _ e

theorem reopenOne_tracks (acc : Ev × List Result) (i : SegId) : Tracks acc.1.st (reopenOne acc i).1.st := by
  unfold reopenOne
  exact ite_tracks (onRoad_tracks (f := fun ctx => RoadEv.reopen ctx i)
    (fun ctx d => (RoadEv.chain_enterSeg_frame ctx d i .opening).sourcesStand) acc.1) (.rfl' _)

theorem reopenAll_tracks : ∀ (ids : List SegId) (acc : Ev × List Result), Tracks acc.1.st (ids.foldl reopenOne acc).1.st
  | [], _ => .rfl' _
  | i :: ids, acc => (reopenOne_tracks acc i).trans' (reopenAll_tracks ids (reopenOne acc i))

theorem judgeReopen_tracks (segs : List Byte) : (judgeReopen l segs e).Tracks e.st := by
  refine fitting_tracks (check_tracks fun _ => ?_)
  split
  · exact deny_tracks _
  · exact reopenAll_tracks _ (e, [])

theorem judgeSignOverride_tracks (sign : Byte) (o : Option OverrideBody) : (judgeSignOverride l sign o e).Tracks e.st := by
  refine check_tracks fun _ => ?_
  split
  · exact deny_tracks _
  · split
    · exact deny_tracks _
    · exact .aside rfl rfl rfl rfl fun _ => rfl

theorem judgeZoneLevel_tracks (zone level : Byte) : (judgeZoneLevel l zone level e).Tracks e.st := by
  refine check_tracks fun _ => ?_
  split
  · exact deny_tracks _
  · exact (onZone_tracks _ (f := Zone.setTo level.toNat) (fun _ => rfl) e).trans' (judgeRelease_tracks _)

theorem judgeDetectorClear_tracks (channel : Byte) : (judgeDetectorClear l channel e).Tracks e.st := by
  unfold judgeDetectorClear
  dsimp only
  split
  · trivial
  · split
    · trivial
    · split
      · trivial
      · split
        · trivial
        · exact onQual_tracks _ _ e

theorem judgeTestTrip_tracks (channel : Byte) : (judgeTestTrip l channel e).Tracks e.st := by
  refine check_tracks fun _ => ?_
  split
  · exact deny_tracks _
  · split
    · exact onQual_tracks _ _ e
    · exact deny_tracks _

theorem judgeGateFaultClear_tracks (gate : Byte) : (judgeGateFaultClear l gate e).Tracks e.st := by
  refine check_tracks fun _ => ?_
  split
  · exact deny_tracks _
  · split
    · exact onRoad_tracks (fun ctx d => (RoadEv.clearFault_frame ctx _ d).sourcesStand) e
    · exact deny_tracks _

theorem judgeReleasePropose_tracks : (judgeReleasePropose l e).Tracks e.st := by
  cases l with
  | panel => exact deny_tracks _
  | valley => exact accept_tracks (setLatch_tracks _ e)
  | avalanche => exact accept_tracks (setLatch_tracks _ e)

/-- A COMMIT that is taken has found the notice list empty (R199). -/
theorem judgeCommit_tracks : (judgeCommit l e).Tracks e.st := check_tracks fun hc =>
  commit_tracks (List.isEmpty_iff.1 (need_eq_none (r := .state) ((firstFailure_none_iff _).1 hc _ (by simp))))

theorem judgeStoreWrite_tracks (region number : Byte) (bytes : List Byte) :
    (judgeStoreWrite l region number bytes e).Tracks e.st := by
  unfold judgeStoreWrite
  refine fitting_tracks (check_tracks fun _ => ?_)
  split
  · exact deny_tracks _
  · refine check_tracks fun _ => ?_
    exact .aside rfl rfl rfl rfl fun _ => rfl

theorem judgeStoreRead_tracks (region number : Byte) : (judgeStoreRead region number e).Tracks e.st := by
  unfold judgeStoreRead
  split
  · exact deny_tracks _
  · exact Tracks.rfl' e.st

theorem judgeProtectSet_tracks (region : Byte) : (judgeProtectSet l region e).Tracks e.st := by
  refine check_tracks fun _ => ?_
  split
  · exact Tracks.rfl' e.st
  · split
    · exact deny_tracks _
    · exact .aside rfl rfl rfl rfl fun _ => rfl

-- ---------------------------------------------------------------- the requests that touch the notice list

section
variable {e : Ev} (h : DistinctIds e.st.notices.list)
include h

/-- A new notice is WAITING, and its id free (R126, R131). -/
theorem judgeNoticeCreate_tracks (kind : Byte) (body : NoticeBody) : (judgeNoticeCreate l kind body e).Tracks e.st := by
  refine fitting_tracks (check_tracks fun _ => ?_)
  split
  · exact deny_tracks _
  · next segs _ =>
    dsimp only
    split
    · exact deny_tracks _
    · split
      · exact deny_tracks _
      · next id hid =>
        generalize hn : Notice.withBody _ body segs = n
        have hstate : n.state ≠ .inForce := by rw [← hn]; nofun
        have hfresh : ∀ m ∈ e.st.notices.list, m.id ≠ n.id := by rw [← hn]; exact freeId_fresh hid
        have hlist : DistinctIds ((e.setNotices (insertNotice n)).noticeChange segs).st.notices.list :=
          distinctIds_insert h hfresh
        have hjoined : Tracks e.st (e.setNotices (insertNotice n)).st := setNotices_tracks fun m hm =>
          mem_insertNotice.trans (or_iff_right fun hmn => hstate (hmn ▸ hm))
        exact (hjoined.trans' (noticeChange_tracks segs _)).trans' (evaluateIfValid_tracks hlist)

/-- The notice that an amendment puts in the place of another (R133, R134). -/
def amended (n : Notice) (body : NoticeBody) (segs : List SegId) : Notice :=
  { n.withBody body segs with revision := (n.revision + 1) % 256 }

/-- An amended notice keeps its id and its state (R133, R135). -/
theorem judgeNoticeAmend_tracks (id revision : Byte) (body : NoticeBody) :
    (judgeNoticeAmend l id revision body e).Tracks e.st := by
  refine fitting_tracks ?_
  dsimp only
  split
  · trivial
  · split
    · trivial
    · next n hn =>
      split
      · trivial
      · split
        · trivial
        · next segs _ =>
          split
          · trivial
          · split
            · trivial
            · have hold := findNotice_some hn
              have hstep : NoticeStep e.st
                  ((e.setNotices (replaceNotice n (amended n body segs))).noticeChange (n.segs ++ segs)).st :=
                (setNotices_step _ e).trans' (noticeChange_step _ _)
              refine Tracks.trans' (amendNotice_tracks (new := amended n body segs) h hold rfl rfl hstep rfl rfl)
                (evaluateIfValid_tracks ?_)
              rw [alignNotice_notices]
              exact distinctIds_replace h hold rfl

theorem judgeNoticeWithdraw_tracks (id : Byte) : (judgeNoticeWithdraw l id e).Tracks e.st := by
  refine check_tracks fun _ => ?_
  split
  · exact deny_tracks _
  · next n hn =>
    split
    · exact deny_tracks _
    · next hst => exact (dropNotice_tracks h (findNotice_some hn) hst).trans' (noticeChange_tracks n.segs _)

theorem judgeNoticeLift_tracks (id : Byte) : (judgeNoticeLift l id e).Tracks e.st := by
  refine check_tracks fun _ => ?_
  split
  · exact deny_tracks _
  · next n hn =>
    split
    · exact deny_tracks _
    · split
      · exact deny_tracks _
      · next hst =>
        exact (liftNotice_tracks h (findNotice_some hn) (by simpa using hst)).trans' (noticeChange_tracks n.segs _)

/-- Every request keeps the sources in line with the causes. -/
theorem judgeOf_tracks (c : Instr) : (judgeOf c e).Tracks e.st := by
  cases c with
  | status l => exact .aside rfl rfl rfl rfl fun _ => rfl
  | query l object id part => exact Tracks.rfl' e.st
  | holdPlace l reason segs => exact judgeHoldPlace_tracks l e reason segs
  | holdRelease l kind segs => exact judgeHoldRelease_tracks l e kind segs
  | startupRelease l => exact accept_tracks (remove_tracks rfl _ e)
  | reopen l segs => exact judgeReopen_tracks l e segs
  | timeSet l value => exact accept_tracks ((Tracks.aside rfl rfl rfl rfl fun _ => rfl).trans' (evaluate_tracks h))
  | noticeCreate l kind body => exact judgeNoticeCreate_tracks l h kind body
  | noticeAmend l id revision body => exact judgeNoticeAmend_tracks l h id revision body
  | noticeWithdraw l id => exact judgeNoticeWithdraw_tracks l h id
  | noticeLift l id => exact judgeNoticeLift_tracks l h id
  | signOverride l sign o => exact judgeSignOverride_tracks l e sign o
  | zoneLevel l zone level => exact judgeZoneLevel_tracks l e zone level
  | detectorClear l channel => exact judgeDetectorClear_tracks l e channel
  | testTrip l channel => exact judgeTestTrip_tracks l e channel
  | gateFaultClear l gate => exact judgeGateFaultClear_tracks l e gate
  | fullClose l => exact accept_tracks (fullClose_tracks e)
  | releasePropose l => exact judgeReleasePropose_tracks l e
  | releaseConfirm l => exact accept_tracks (releaseFull_tracks e)
  | fieldRestart l => exact accept_tracks (fieldRestart_tracks e)
  | attentionEnable l enable => exact accept_tracks (.aside rfl rfl rfl rfl fun _ => rfl)
  | commissionEnter l => exact accept_tracks (.aside rfl rfl rfl rfl fun _ => rfl)
  | commissionExit l => exact accept_tracks (.aside rfl rfl rfl rfl fun _ => rfl)
  | storeWrite l region number bytes => exact judgeStoreWrite_tracks l e region number bytes
  | storeRead l region number => exact judgeStoreRead_tracks e region number
  | protectSet l region => exact judgeProtectSet_tracks l e region
  | storeErase l => exact accept_tracks (.aside rfl rfl rfl rfl fun _ => rfl)
  | commit l => exact judgeCommit_tracks l e
  | storeSum l => exact accept_tracks (.rfl' _)
  | _ => exact deny_tracks _

end

end

theorem takeRequest_tracks (l : Link) (kind : Byte) {judge : Ev → Verdict} {s : State}
    (hj : ∀ e : Ev, e.st.notices = s.notices → (judge e).Tracks e.st) : Tracks s (takeRequest l kind judge s) := by
  cases hr : (s.links.get l).replying with
  | true =>
    rw [takeRequest_lost kind judge hr]
    exact .rfl' s
  | false =>
    have hheard : Tracks s (hearing l s).st := heard_tracks l _
    have hv := hj (hearing l s) (heardState_notices l s)
    cases hv' : judge (hearing l s) with
    | refuse body =>
      rw [takeRequest_refused hr hv']
      exact (hheard.trans' (finish_tracks _)).trans' (.aside rfl rfl rfl rfl fun _ => rfl)
    | accept e reply =>
      rw [takeRequest_accepted hr hv']
      rw [hv'] at hv
      exact ((hheard.trans' hv).trans' (finish_tracks e)).trans' (.aside rfl rfl rfl rfl fun _ => rfl)

/-- A command that is a request, judged as `judgeOf` judges it. -/
theorem request_tracks (l : Link) (kind : Byte) (c : Instr) {s t : State} (h : DistinctIds s.notices.list)
    (ht : request l kind (judgeOf c) s = .next t) : Tracks s t := by
  cases ht
  exact takeRequest_tracks l kind fun e he => judgeOf_tracks (he ▸ h) c

end Sys2Proof.Machine

end

section
/-! Every command keeps the sources in line with the causes, and so does every step (R94, R105, R113, R129). -/

namespace Sys2Proof.Machine

/-- The confirmation wait of a WARNING segment becomes its warning timer (R11). -/
theorem waitExpiry_tracks (s : State) (i : SegId) :
    Tracks s (s.onRoadOnly fun r => { r with segs := alter r.segs i (Option.map RoadEv.startWarning) }) := by
  have hget : ∀ j, (alter s.road.segs i (Option.map RoadEv.startWarning)).get j =
      if i = j then (s.road.segs.get j).map RoadEv.startWarning else s.road.segs.get j := fun j => by
    rw [get_alter]
    split
    · next hij => rw [hij]
    · rfl
  refine .of_stand ⟨fun _ => rfl, rfl, rfl, fun _ => rfl, fun _ => rfl⟩ ⟨fun j => ?_, fun j k _ => ?_⟩
  · show ((alter s.road.segs i _).get j).map segFixed = _
    rw [hget]
    split
    · cases s.road.segs.get j <;> rfl
    · rfl
  · show ((alter s.road.segs i _).get j).bind _ = _
    rw [hget]
    unfold heldEntry
    split
    · cases s.road.segs.get j <;> rfl
    · rfl

theorem ite_state_tracks {p : Prop} [Decidable p] {s a b : State} (ha : Tracks s a) (hb : Tracks s b) :
    Tracks s (if p then a else b) := by
  split
  · exact ha
  · exact hb

theorem landWrite_tracks (s : State) (w : StoreWrite) (v : LatchValue) : Tracks s (s.landWrite w v) :=
  .aside rfl rfl rfl rfl fun _ => rfl

theorem latchWordWriteComplete_tracks {s t : State} (ht : execLatchWordWriteComplete s = .next t) : Tracks s t := by
  unfold execLatchWordWriteComplete at ht
  cases ht
  split
  · exact .aside rfl rfl rfl rfl fun _ => rfl
  · exact .rfl' s

theorem storeWriteComplete_tracks {s t : State} (ht : execStoreWriteComplete s = .next t) : Tracks s t := by
  unfold execStoreWriteComplete at ht
  cases ht
  split
  · exact landWrite_tracks _ _ _
  · exact (landWrite_tracks _ _ _).trans' (lineStep_tracks _ _)
  · exact landWrite_tracks _ _ _
  · exact .rfl' s

theorem eraseComplete_tracks {s t : State} (ht : execEraseComplete s = .next t) : Tracks s t := by
  unfold execEraseComplete at ht
  cases ht
  split
  · exact (landWrite_tracks _ _ _).trans' (lineStep_tracks _ _)
  · exact .rfl' s

theorem takeReply_tracks (i : SignId) (r : SignReply) (s : State) : Tracks s (s.takeReply i r) :=
  ite_state_tracks (lineStep_tracks _ _) (.rfl' s)

theorem signFrameDiscard_tracks {frame : List Byte} {s t : State} (ht : execSignFrameDiscard frame s = .next t) :
    Tracks s t := by
  unfold execSignFrameDiscard at ht
  cases ht
  split
  · exact takeReply_tracks _ _ _
  · exact .rfl' s

theorem linkByteReceived_tracks {l : Link} {b : Byte} {s t : State} (h : DistinctIds s.notices.list)
    (ht : execLinkByteReceived l b s = .next t) : Tracks s t := by
  unfold execLinkByteReceived at ht
  cases ht
  split
  · exact Tracks.trans' (.aside rfl rfl rfl rfl fun _ => rfl)
      (takeRequest_tracks l _ fun e he => judgeOf_tracks (show DistinctIds e.st.notices.list by rw [he]; exact h) _)
  · exact .aside rfl rfl rfl rfl fun _ => rfl

theorem tickMinute_tracks {e : Ev} (h : DistinctIds e.st.notices.list) : Tracks e.st e.tickMinute.st :=
  Tracks.trans' (.aside rfl rfl rfl rfl fun _ => rfl)
    (evaluate_tracks (e := e.setClock (tickValue e.st.notices.clock.value)) h)

/-- Every command keeps the sources in line with the causes. -/
theorem exec_tracks (c : Instr) {s t : State} (h : DistinctIds s.notices.list) (ht : exec c s = .next t) : Tracks s t := by
  cases c with
  | status l => exact request_tracks l _ (.status l) h ht
  | query l object id part => exact request_tracks l _ (.query l object id part) h ht
  | holdPlace l reason segs => exact request_tracks l _ (.holdPlace l reason segs) h ht
  | holdRelease l kind segs => exact request_tracks l _ (.holdRelease l kind segs) h ht
  | startupRelease l => exact request_tracks l _ (.startupRelease l) h ht
  | reopen l segs => exact request_tracks l _ (.reopen l segs) h ht
  | timeSet l value => exact request_tracks l _ (.timeSet l value) h ht
  | noticeCreate l kind body => exact request_tracks l _ (.noticeCreate l kind body) h ht
  | noticeAmend l id revision body => exact request_tracks l _ (.noticeAmend l id revision body) h ht
  | noticeWithdraw l id => exact request_tracks l _ (.noticeWithdraw l id) h ht
  | noticeLift l id => exact request_tracks l _ (.noticeLift l id) h ht
  | signOverride l sign o => exact request_tracks l _ (.signOverride l sign o) h ht
  | zoneLevel l zone level => exact request_tracks l _ (.zoneLevel l zone level) h ht
  | detectorClear l channel => exact request_tracks l _ (.detectorClear l channel) h ht
  | testTrip l channel => exact request_tracks l _ (.testTrip l channel) h ht
  | gateFaultClear l gate => exact request_tracks l _ (.gateFaultClear l gate) h ht
  | fullClose l => exact request_tracks l _ (.fullClose l) h ht
  | releasePropose l => exact request_tracks l _ (.releasePropose l) h ht
  | releaseConfirm l => exact request_tracks l _ (.releaseConfirm l) h ht
  | fieldRestart l => exact request_tracks l _ (.fieldRestart l) h ht
  | attentionEnable l enable => exact request_tracks l _ (.attentionEnable l enable) h ht
  | commissionEnter l => exact request_tracks l _ (.commissionEnter l) h ht
  | commissionExit l => exact request_tracks l _ (.commissionExit l) h ht
  | storeWrite l region number bytes => exact request_tracks l _ (.storeWrite l region number bytes) h ht
  | storeRead l region number => exact request_tracks l _ (.storeRead l region number) h ht
  | protectSet l region => exact request_tracks l _ (.protectSet l region) h ht
  | storeErase l => exact request_tracks l _ (.storeErase l) h ht
  | commit l => exact request_tracks l _ (.commit l) h ht
  | storeSum l => exact request_tracks l _ (.storeSum l) h ht
  | formatRefusal l kind => exact request_tracks l _ (.formatRefusal l kind) h ht
  | linkCheckFailure l => cases ht; exact .aside rfl rfl rfl rfl fun _ => rfl
  | linkBadLength l => cases ht; exact .aside rfl rfl rfl rfl fun _ => rfl
  | linkFramingError l => cases ht; exact .aside rfl rfl rfl rfl fun _ => rfl
  | interByteTimeout l => cases ht; exact .aside rfl rfl rfl rfl fun _ => rfl
  | linkReplySent l => cases ht; exact .aside rfl rfl rfl rfl fun _ => rfl
  | linkSilenceExpiry l => cases ht; exact ite_state_tracks (event_tracks (silence_tracks l) s) (.rfl' s)
  | hardwareReset levels => cases ht; exact afterReset_tracks s levels s
  | confirmationWaitExpiry i => cases ht; exact ite_state_tracks (waitExpiry_tracks s i) (.rfl' s)
  | warningTimerExpiry i =>
    cases ht
    exact ite_state_tracks (event_tracks (onRoad_tracks fun ctx e => (warningExpiry_frame ctx i e).sourcesStand) s) (.rfl' s)
  | endSwitchChange g sw level =>
    cases ht
    exact ite_state_tracks (.rfl' s)
      (event_tracks (onRoad_tracks fun ctx => RoadEv.switchChange_leavesSources ctx g sw level) s)
  | travelTimeout g =>
    cases ht
    exact ite_state_tracks (event_tracks (onRoad_tracks fun ctx e => (stall_frame ctx g e).sourcesStand) s) (.rfl' s)
  | jointWindowExpiry => cases ht; exact ite_state_tracks (event_tracks (setLatch_tracks _) s) (.rfl' s)
  | latchWordWriteComplete => exact latchWordWriteComplete_tracks ht
  | storeWriteComplete => exact storeWriteComplete_tracks ht
  | eraseComplete => exact eraseComplete_tracks ht
  | keyPinChange pin level =>
    cases ht
    exact ite_state_tracks (.rfl' s) (event_tracks (acceptPin_tracks pin level) s)
  | pulseInputChange c level =>
    cases ht
    exact ite_state_tracks (.rfl' s) (event_tracks (pulseChange_tracks c level) s)
  | carrierLoss c => cases ht; exact ite_state_tracks (event_tracks (loseCarrier_tracks c) s) (.rfl' s)
  | measurementGateEnd c => cases ht; exact ite_state_tracks (event_tracks (measurementGateEnd_tracks c) s) (.rfl' s)
  | sitePeriodClose i => cases ht; exact ite_state_tracks (event_tracks (sitePeriodEnd_tracks i) s) (.rfl' s)
  | minuteTick =>
    cases ht
    exact ite_state_tracks ((tickMinute_tracks (e := Ev.start s) h).trans' (finish_tracks _)) (.rfl' s)
  | probeTimerExpiry i => cases ht; exact ite_state_tracks (.aside rfl rfl rfl rfl fun _ => rfl) (.rfl' s)
  | signFrameSent => cases ht; exact .aside rfl rfl rfl rfl fun _ => rfl
  | replyWindowExpiry => cases ht; exact ite_state_tracks (lineStep_tracks _ _) (.rfl' s)
  | signFrameDiscard frame => exact signFrameDiscard_tracks ht
  | ready i width sum => cases ht; exact takeReply_tracks i _ s
  | take i => cases ht; exact takeReply_tracks i _ s
  | pause i => cases ht; exact takeReply_tracks i _ s
  | refuse i => cases ht; exact takeReply_tracks i _ s
  | signShown i sum => cases ht; exact takeReply_tracks i _ s
  | linkByteReceived l b => exact linkByteReceived_tracks h ht
  | inputSample levels =>
    have e : s.tick.event (Ev.sampleAll levels) = t := Host.Outcome.next.inj ht
    rw [← e]
    exact (tick_tracks s).trans' (event_tracks (sampleAll_tracks levels) s.tick)

theorem step_tracks {s t : State} (h : NoticeLaw s) (ht : step s = .next t) : Tracks s t := by
  unfold step at ht
  split at ht
  · cases ht
    exact .rfl' _
  · next c rest _ =>
    have hpopped : Tracks s { s with pending := rest } := .aside rfl rfl rfl rfl fun _ => rfl
    exact hpopped.trans' (exec_tracks c (s := { s with pending := rest }) h.distinctIds ht)

end Sys2Proof.Machine

open Sys2Proof Sys2Proof.Machine

/-- Settles O58: every source follows its cause through a step. -/
theorem stepKeepsEveryStandingCause : Obligations.StepKeepsEveryStandingCause :=
  ⟨fun _ _ hn h ht => (step_tracks hn ht).causeLaw h, fun _ _ hn h ht => (step_tracks hn ht).sourceLaw h⟩

end
